-- ==== Sys2Proof/Word.lean ====
section
/-!
DEFINITION. The words of the PT-22 as they stand on its links, and nothing more.

Bytes, frame numbers, masks and the generation numbers of nonvolatile sections are bit vectors, because the
spec sends them, wraps them or combines them bit by bit (R144, R146, R165, R192).  Money, counts and times are
whole numbers of bounded range (chapter 2.2 of 00_scope.md) and are held as `Nat`.
-/

namespace Sys2Proof

/-- One byte of a frame or of a tariff image (R49, R144). -/
abbrev Byte := BitVec 8

/-- A two-byte field of a frame, most significant byte first on the link (R192). -/
abbrev Half := BitVec 16

end Sys2Proof
end

