-- ==== Sys2Proof/Syntax.lean ====
section
/-!
DEFINITION. The commands of the PT-22: one constructor of `Instr` for each row of spec/opcode_table.json, in the
table's order, with the operands that the row's rule gives it.

The part has no program and no instruction words.  What reaches it are qualified events at its sensor lines,
expiries of its own timers, frames on its three links and changes of its supply (00_scope.md section 1.2); each
is one whole step.  A frame's operands are what its layout carries (12_formats_and_pin_summary.md): the centre's
frames keep their payload as bytes, because whether a payload fits its command is for the part to judge (R157,
R192); the requests of the set port and the service port carry their decoded fields, because a misfit frame is a
row of its own there (SET_FRAME_REFUSED, SERVICE_FRAME_REFUSED).
-/

namespace Sys2Proof

/-- The five chute beams (section 1.1). -/
inductive Beam where
  | s1 | s2a | s2b | s3 | s4
  deriving DecidableEq, Repr

/-- What a BEAM_INTERRUPTED step reports: one beam, or both beams of the S2 pair taken with no order between
them (R2). -/
inductive BeamHit where
  | one (b : Beam)
  | s2Pair
  deriving DecidableEq, Repr

/-- The jams of the chute paths (section 1.9).  The fourth jam, RELEASE, belongs to the credit unit. -/
inductive ChuteJam where
  | entry | accept | ret
  deriving DecidableEq, Repr

/-- The housing inputs that the tamper monitor qualifies itself (R120); BOX is qualified by the credit unit. -/
inductive DoorInput where
  | coinDoor | upperDoor | cord
  deriving DecidableEq, Repr

/-- Level of a switch input (section 7.1). -/
inductive Level where
  | opened | closed
  deriving DecidableEq, Repr

/-- A stored digit: 0..9, and 10 for `*` (R192). -/
abbrev Digit := Fin 11

/-- A keyed digit as DIGIT carries it: 0..9, 10 for `*`, 11 for `#` (R93, R192). -/
abbrev Key := Fin 12

/-- A collector's login code: six digits, one per byte on the link (R157, R187). -/
abbrev Code := List (Fin 10)

/-- The commands, in the order of spec/opcode_table.json. -/
inductive Instr where
  /-- BEAM_INTERRUPTED (R1). -/
  | beamInterrupted (hit : BeamHit)
  /-- BEAM_CLEAR (R1). -/
  | beamClear (beam : Beam)
  /-- MEASUREMENT (R8): the triple M1, M2, M3. -/
  | measurement (m1 m2 m3 : Byte)
  /-- MEASUREMENT_WAIT_EXPIRY (R7). -/
  | measurementWaitExpiry
  /-- TRANSIT_WAIT_EXPIRY (R12). -/
  | transitWaitExpiry
  /-- RETURN_WAIT_EXPIRY (R14). -/
  | returnWaitExpiry
  /-- CHUTE_SETTLE (R17). -/
  | chuteSettle
  /-- BEAM_HOLD_EXPIRY (R19). -/
  | beamHoldExpiry (beam : Beam)
  /-- JAM_CLEAR_RUN_EXPIRY (R20). -/
  | jamClearRunExpiry (jam : ChuteJam)
  /-- RELEASE_CONFIRM_EXPIRY (R29). -/
  | releaseConfirmExpiry
  /-- RELEASE_RETRY_EXPIRY (R30). -/
  | releaseRetryExpiry
  /-- BOX_SWITCH_QUALIFIED (R38): true when the box is seated. -/
  | boxSwitchQualified (seated : Bool)
  /-- STAGE_CLEAR (R51). -/
  | stageClear (number : Byte) (payload : List Byte)
  /-- BLOCK_LOAD (R52). -/
  | blockLoad (number : Byte) (payload : List Byte)
  /-- STAGE_ACTIVATE (R54). -/
  | stageActivate (number : Byte) (payload : List Byte)
  /-- PERIOD_EXPIRY (R73). -/
  | periodExpiry
  /-- WARNING_TIMER_EXPIRY (R78). -/
  | warningTimerExpiry
  /-- METER_PULSE (R69). -/
  | meterPulse
  /-- OFF_HOOK (R88). -/
  | offHook
  /-- ON_HOOK (R88). -/
  | onHook
  /-- DIAL_TONE_QUALIFIED (R91). -/
  | dialToneQualified
  /-- DIAL_TONE_EXPIRY (R91). -/
  | dialToneExpiry
  /-- RELEASE_GUARD_END (R92). -/
  | releaseGuardEnd
  /-- DIGIT (R93). -/
  | digit (key : Key)
  /-- DIAL_CLEAR (R96). -/
  | dialClear
  /-- FOLLOW_ON (R101). -/
  | followOn
  /-- DIGIT_SEND_COMPLETE (R97). -/
  | digitSendComplete
  /-- INTER_DIGIT_PAUSE_END (R97). -/
  | interDigitPauseEnd
  /-- INTERDIGIT_EXPIRY (R98). -/
  | interdigitExpiry
  /-- POLARITY_REVERSAL (R99). -/
  | polarityReversal
  /-- POLARITY_RETURN (R100). -/
  | polarityReturn
  /-- LOOP_CURRENT_LOSS (R100). -/
  | loopCurrentLoss
  /-- TIMED_ANSWER_EXPIRY (R99). -/
  | timedAnswerExpiry
  /-- ANSWER_TIMER_EXPIRY (R99). -/
  | answerTimerExpiry
  /-- CLEAR_TIMER_EXPIRY (R100). -/
  | clearTimerExpiry
  /-- RECALL_BREAK_END (R101). -/
  | recallBreakEnd
  /-- ABANDONMENT_EXPIRY (R102). -/
  | abandonmentExpiry
  /-- RING (R104). -/
  | ring
  /-- RING_SILENCE_EXPIRY (R104). -/
  | ringSilenceExpiry
  /-- LINE_VOLTAGE_ABSENT (R105). -/
  | lineVoltageAbsent
  /-- LINE_VOLTAGE_PRESENT (R105). -/
  | lineVoltagePresent
  /-- YIELD_LIMIT_EXPIRY (R116). -/
  | yieldLimitExpiry
  /-- RESUME_HOLD_OFF_EXPIRY (R114). -/
  | resumeHoldOffExpiry
  /-- WINDOW_TIMER_EXPIRY (R118). -/
  | windowTimerExpiry
  /-- WINDOW_SPACING_EXPIRY (R118). -/
  | windowSpacingExpiry
  /-- INPUT_EDGE (R122). -/
  | inputEdge (input : DoorInput) (level : Level)
  /-- SHOCK_PULSE (R124). -/
  | shockPulse
  /-- SHOCK_WINDOW_EXPIRY (R124). -/
  | shockWindowExpiry
  /-- CORD_RESTORE_EXPIRY (R125). -/
  | cordRestoreExpiry
  /-- ROUTINE_TIMER_EXPIRY (R139). -/
  | routineTimerExpiry
  /-- BACKOFF_EXPIRY (R141). -/
  | backoffExpiry
  /-- GREET (R149): the frame number and payload of the centre's frame. -/
  | greet (number : Byte) (payload : List Byte)
  /-- ACK (R152). -/
  | ack (number : Byte) (payload : List Byte)
  /-- REJECT (R147). -/
  | reject (number : Byte) (payload : List Byte)
  /-- BAD_FRAME (R147). -/
  | badFrame
  /-- UNKNOWN_FRAME_TYPE (R192). -/
  | unknownFrameType (ftype number : Byte) (payload : List Byte)
  /-- FRAME_GAP_EXPIRY (R143). -/
  | frameGapExpiry
  /-- TURNAROUND_EXPIRY (R146). -/
  | turnaroundExpiry
  /-- FRAME_SENT (R146). -/
  | frameSent
  /-- AUDIT_READ (R155). -/
  | auditRead (number : Byte) (payload : List Byte)
  /-- QUEUE_READ (R155). -/
  | queueRead (number : Byte) (payload : List Byte)
  /-- CLOCK_SET from the centre (R156). -/
  | clockSet (number : Byte) (payload : List Byte)
  /-- SERVICE_SET (R156). -/
  | serviceSet (number : Byte) (payload : List Byte)
  /-- CONFIG_SET (R157). -/
  | configSet (number : Byte) (payload : List Byte)
  /-- END (R158). -/
  | endTurn (number : Byte) (payload : List Byte)
  /-- AWAIT_ANSWER_EXPIRY (R148). -/
  | awaitAnswerExpiry
  /-- AWAIT_GREET_EXPIRY (R149). -/
  | awaitGreetExpiry
  /-- HELLO_TIMER_EXPIRY (R150). -/
  | helloTimerExpiry
  /-- UPLOAD_TIMER_EXPIRY (R152). -/
  | uploadTimerExpiry
  /-- IDLE_TIMER_EXPIRY (R158). -/
  | idleTimerExpiry
  /-- RESET_YIELD_EXPIRY (R160). -/
  | resetYieldExpiry
  /-- SECTION_WRITE_COMPLETE (R168). -/
  | sectionWriteComplete
  /-- POWER_WARNING_ASSERT (R171). -/
  | powerWarningAssert
  /-- POWER_WARNING_CLEAR (R172). -/
  | powerWarningClear
  /-- WARNING_CLEAR_EXPIRY (R172). -/
  | warningClearExpiry
  /-- SUPPLY_LOSS (R172). -/
  | supplyLoss
  /-- POWER_RETURN_FROM_OFF (R172). -/
  | powerReturnFromOff
  /-- RESTORE_SEQUENCE_END (R173). -/
  | restoreSequenceEnd
  /-- CLOCK_SECOND (R175). -/
  | clockSecond
  /-- STATUS_READ (R180). -/
  | statusRead
  /-- NOTICE_READ (R182). -/
  | noticeRead
  /-- NOTICE_CLEAR (R182): the notice mask of the request. -/
  | noticeClear (mask : Half)
  /-- NOTICE_ENABLE (R182): the notice mask of the request. -/
  | noticeEnable (mask : Half)
  /-- CLOCK_SET at the set port (R176): day count, day of the week, second of the day. -/
  | setPortClockSet (dayCount : Half) (day : Byte) (second : BitVec 24)
  /-- KEYPAD_FAULT (R179): the key code. -/
  | keypadFault (key : Byte)
  /-- SET_FRAME_REFUSED (R178): the bytes clocked in. -/
  | setFrameRefused (bytes : List Byte)
  /-- RESET_LINE (R183). -/
  | resetLine
  /-- SERVICE_WRITE (R185): the bytes written. -/
  | serviceWrite (bytes : List Byte)
  /-- SERVICE_READ (R185). -/
  | serviceRead
  /-- SERVICE_FRAME_REFUSED (R185): the bytes written, which fail a check of R185. -/
  | serviceFrameRefused (bytes : List Byte)
  /-- LOGIN (R187). -/
  | login (index : Fin 8) (code : Code)
  /-- READ_TOTALS (R189). -/
  | readTotals
  /-- READ_HISTORY (R189). -/
  | readHistory (index : Byte)
  /-- READ_EVENTS (R189). -/
  | readEvents (position : Byte)
  /-- CLOSE_PERIOD (R190). -/
  | closePeriod
  /-- LOGOUT (R188). -/
  | logout
  /-- SESSION_TIMER_EXPIRY (R188). -/
  | sessionTimerExpiry
  /-- LOCKOUT_EXPIRY (R187). -/
  | lockoutExpiry
  /-- RESET_LINE_RELEASE (R183). -/
  | resetLineRelease
  deriving DecidableEq, Repr

end Sys2Proof
end

