-- ==== Sys2Proof/Decode.lean ====
section
/-!
DEFINITION. The command that a word of spec/opcode_table.json spells.

The table gives no row a bit: the part's commands are events, expiries and frames (95_what_each_step_holds.md), not
instruction words.  No word spells a command, so the answer is `none` for every word.  How the frames of the three links
spell their commands stands in Machine/Wire.lean, from the layouts of 12_formats_and_pin_summary.md.
-/

namespace Sys2Proof

/-- The command spelled by a word of the table: none, since no row of the table has bits. -/
def decodeTableWord (_nbits _w : Nat) : Option Instr := none

end Sys2Proof
end

