-- ==== Sys2Proof/Machine/Bits.lean ====
section
/-!
DEFINITION. Byte order, masks and the CRC-16 (R145, R192).
-/

namespace Sys2Proof.Machine

/-- Bytes of a two-byte number, most significant first (R192). -/
def be16 (n : Nat) : List Byte := [BitVec.ofNat 8 (n / 256), BitVec.ofNat 8 n]

/-- Bytes of a three-byte number, most significant first (R192). -/
def be24 (n : Nat) : List Byte := BitVec.ofNat 8 (n / 65536) :: be16 (n % 65536)

/-- Bytes of a four-byte number, most significant first (R192). -/
def be32 (n : Nat) : List Byte := be16 (n / 65536) ++ be16 (n % 65536)

/-- The number that bytes carry, most significant first (R192). -/
def ofBe (bytes : List Byte) : Nat := bytes.foldl (fun n b => n * 256 + b.toNat) 0

/-- A flag is 1 when set and 0 when clear (R192). -/
def flagByte (b : Bool) : Byte := if b then 1 else 0

/-- A one-byte number. -/
def byteOf (n : Nat) : Byte := BitVec.ofNat 8 n

/-- Whether a set sent as a mask holds its `i`-th member (R192). -/
def maskHas {n : Nat} (m : BitVec n) (i : Nat) : Bool := m.getLsbD i

/-- A mask with its `i`-th member. -/
def maskAdd {n : Nat} (m : BitVec n) (i : Nat) : BitVec n := m ||| (1#n <<< i)

/-- A mask without its `i`-th member. -/
def maskDel {n : Nat} (m : BitVec n) (i : Nat) : BitVec n := m &&& ~~~(1#n <<< i)

/-- A mask with its `i`-th member in or out. -/
def maskPut {n : Nat} (m : BitVec n) (i : Nat) (b : Bool) : BitVec n := if b then maskAdd m i else maskDel m i

/-- One bit of the CRC-16: the register's top bit is compared with the data bit, the register shifted left by
one, and 0x1021 combined in if they differed (R145). -/
def crcBit (reg : BitVec 16) (bit : Bool) : BitVec 16 :=
  if reg.msb == bit then reg <<< 1 else (reg <<< 1) ^^^ 0x1021#16

/-- One byte of the CRC-16, most significant bit first (R145). -/
def crcByte (reg : BitVec 16) (b : Byte) : BitVec 16 :=
  [7, 6, 5, 4, 3, 2, 1, 0].foldl (fun r i => crcBit r (b.getLsbD i)) reg

/-- CRC-16 of a sequence of bytes, from 0xFFFF and with no final inversion (R145). -/
def crc16 (bytes : List Byte) : BitVec 16 := bytes.foldl crcByte 0xFFFF#16

/-- `a + b`, left at `top` when it would pass it (R41, R65, R73). -/
def satAdd (top a b : Nat) : Nat := min (a + b) top

end Sys2Proof.Machine
end

