-- ==== Sys2Proof/Config.lean ====
section
/-!
DEFINITION. What the part fixes once and for all: the times and limits that the rules state as numbers, and the
few values the spec leaves open, each an opaque constant with no body (a claim about one holds whatever it is).

Times are in milliseconds of the model's time base unless a name says seconds.
-/

namespace Sys2Proof.Config

/-- Measurement wait of the entry stage (R7). -/
def measurementWait : Nat := 250
/-- Transit wait from the opening of the gate (R11, R12). -/
def transitWait : Nat := 600
/-- Wait of the oldest return wait entry (R14). -/
def returnWait : Nat := 800
/-- Settle window of a chute record (R17). -/
def settleWindow : Nat := 1500
/-- A beam held interrupted this long sets its path's jam (R19). -/
def beamHold : Nat := 3000
/-- Clear run after which a set chute jam clears (R20). -/
def jamClearRun : Nat := 2000
/-- Most chute records (R6, R11). -/
def chuteMax : Nat := 4
/-- Most return wait entries (R14). -/
def returnWaitMax : Nat := 8
/-- Most measurements counted in DISCARDING (R15). -/
def discardMax : Nat := 4
/-- Coins the escrow column can hold (R24). -/
def columnMax : Nat := 8
/-- Greatest credit (R10, R31). -/
def creditMax : Nat := 65535
/-- Confirmation timer of a release or a retry (R27, R30). -/
def releaseConfirm : Nat := 400
/-- Retry timer of the RELEASE jam (R30). -/
def releaseRetry : Nat := 2000
/-- Room kept below the box capacity (R39). -/
def boxMargin : Nat := 12
/-- Ceiling of every money total and of the call charged total (R41, R65). -/
def totalMax : Nat := 4294967295
/-- Bytes of one tariff image block and of a whole image (section 3.1). -/
def blockBytes : Nat := 64
/-- Bytes of a tariff image: 16 blocks of 64 (section 3.1). -/
def imageBytes : Nat := 1024
/-- Header values used with no active image (R45): timed-answer delay in seconds. -/
def defaultAnswerDelay : Nat := 20
/-- Ceiling of the period index (R73). -/
def periodIndexMax : Nat := 65535
/-- Seconds of a week (R61). -/
def weekSeconds : Nat := 604800
/-- Dial-tone timer (R91). -/
def dialTone : Nat := 3000
/-- Interdigit timer (R98). -/
def interdigit : Nat := 6000
/-- Inter-digit pause of pulse dialling, release guard and recall break (R92, R97, R101). -/
def pause : Nat := 800
/-- One DTMF digit: 80 ms of tone and 80 ms of gap (R97). -/
def dtmfDigit : Nat := 160
/-- One dial pulse: 60 ms of break and 40 ms of make (R97). -/
def dialPulse : Nat := 100
/-- Answer timer (R99). -/
def answerWait : Nat := 90000
/-- Clear timer (R100). -/
def clearWait : Nat := 30000
/-- Abandonment timer (R102). -/
def abandonment : Nat := 120000
/-- Ring silence timer (R104). -/
def ringSilence : Nat := 8000
/-- Most rings counted (R104). -/
def ringMax : Nat := 15
/-- Digits of the dial buffer, of a free list number and of the centre number (R56, R93, R139). -/
def bufferMax : Nat := 24
/-- Yield limit timer (R115) and the wait of a set-processor reset for YIELD (R160). -/
def yieldLimit : Nat := 200
/-- Resume hold-off timer (R114). -/
def resumeHoldOff : Nat := 30000
/-- Forced window timer (R118). -/
def windowTime : Nat := 45000
/-- Window spacing timer: 30 min (R118). -/
def windowSpacing : Nat := 1800000
/-- Age in seconds beyond which an URGENT record earns a forced window: 30 min (R117). -/
def windowAgeSeconds : Nat := 1800
/-- Shock window (R124). -/
def shockWindow : Nat := 2000
/-- Pulses that make a shock occurrence (R124). -/
def shockThreshold : Nat := 5
/-- Ceiling of the shock count and of the repeat count of an event record (R124, R129). -/
def byteMax : Nat := 255
/-- Cord restore timer (R125). -/
def cordRestore : Nat := 2000
/-- Most event records (R131). -/
def recordsMax : Nat := 20
/-- Backoff after one, two, and three or more failures: 2, 10 and 60 min (R141). -/
def backoff : Nat → Nat
  | 0 => 0
  | 1 => 120000
  | 2 => 600000
  | _ => 3600000
/-- Longest payload of a centre frame (R144). -/
def framePayloadMax : Nat := 80
/-- Turnaround of the data link (R146). -/
def turnaround : Nat := 30
/-- AWAIT_ANSWER timer, and the AWAIT_GREET timer of a placed session in PULSE or TIMED mode (R148, R149). -/
def centreLongWait : Nat := 45000
/-- AWAIT_GREET timer of an answered session and of a placed one in REVERSAL mode (R149). -/
def centreGreetWait : Nat := 10000
/-- IDENT and UPLOAD timers (R150, R152). -/
def centreAckWait : Nat := 4000
/-- Resends of HELLO and of an EVENT frame (R150, R152). -/
def resendMax : Nat := 2
/-- Idle timer of the centre turn (R158). -/
def centreIdle : Nat := 20000
/-- Warning clear timer (R172). -/
def warningClear : Nat := 500
/-- Collector session timer: 20 min (R187). -/
def collectorSession : Nat := 1200000
/-- Lockout timer: 15 min (R187). -/
def lockout : Nat := 900000
/-- Failed logins that set the lockout (R187). -/
def failedLoginMax : Nat := 3
/-- History records kept (R190). -/
def historyMax : Nat := 4
/-- Receive slots and transmit slots of the service port, of each two (R185). -/
def slotMax : Nat := 2

/-- FREE VALUE (log entry 5): the spec gives the set port's CLOCK_SET two refusals, SET when the clock is valid
and RANGE when a value is out of range, and does not say which of the two a request meets to which both apply
(R176).  True when RANGE is answered. -/
opaque clockSetRangeFirst : Bool

/-- FREE VALUE (log entry 6): the bytes of an image section whose write was cut short or whose check does not
match are not stated (R62, R166).  The first argument numbers the restore, the second is the byte's address. -/
opaque damagedImageByte : Nat → Nat → Byte

/-- FREE VALUE (log entry 7): the request type byte that stands in a set port reply with code NONE or POWER,
which answers no request (R178, section 12.2). -/
opaque replyTypeOfNoRequest : Byte

/-- FREE VALUE (log entry 17): the centre number may hold `*` (R139) and the dial method may be PULSE, under which
the spec gives `*` no pulses (R97): how long such a digit takes is not stated. -/
opaque starPulseTime : Nat

/-- FREE VALUE (log entry 55): the part sends a frame only while no centre carrier is present (R146), and no command
reports the carrier.  True when it is present; the argument numbers the looks that the modem takes at it. -/
opaque carrierPresent : Nat → Bool

end Sys2Proof.Config
end

