-- ==== Sys2Proof/Machine/State.lean ====
section
/-!
DEFINITION. The whole state of the PT-22 as plain data, block by block as 00_scope.md section 1.3 lists it, the
reasons a step could stop with, and the state right after a cold start.

Live state that a section of nonvolatile memory mirrors (R164) is grouped by section, so that the capture of a
write and the restore of a power return are copies of one field: `config`, `image0`, `image1`, `lifetime`,
`period`, `history`, `call`, `events`.  `nv` is nonvolatile memory itself.

A timer is `none` while it is stopped and `some t` while it runs to the instant `t`, in ms on the model's time
base `now` (log entry 2).
-/

namespace Sys2Proof.Machine

/-- Stopped, or running to an instant of the time base (log entry 2). -/
abbrev Timer := Option Nat

/-! ## Chapter 1: coin path -/

/-- Where a coin goes below S2 (R10). -/
inductive Route where
  | escrow | box
  deriving DecidableEq, Repr

/-- Session mark of a chute record (R16). -/
inductive Mark where
  | current | ended
  deriving DecidableEq, Repr

/-- A measurement triple (R8). -/
structure Triple where
  m1 : Byte
  m2 : Byte
  m3 : Byte
  deriving DecidableEq, Repr

/-- Entry stage with what it holds in each stage (R7, R8, R15). -/
inductive EntryStage where
  | empty
  | entered
  | measuredHeld (coin : Triple)
  | discarding (count : Nat)
  deriving DecidableEq, Repr

/-- The coin in transit; its transit wait runs from `openedAt` (R11). -/
structure Transit where
  coinClass : Nat
  value : Nat
  route : Route
  openedAt : Nat
  deriving DecidableEq, Repr

/-- A chute record (R16). -/
structure ChuteRecord where
  coinClass : Nat
  value : Nat
  route : Route
  passage : Nat
  mark : Mark
  deriving DecidableEq, Repr

/-- S2 pair tracker; `both` says that both beams have been interrupted, so that the passage is under way (R2). -/
inductive S2Tracker where
  | quiet
  | aFirst (both : Bool)
  | bFirst (both : Bool)
  | bothNoOrder
  deriving DecidableEq, Repr

/-- One chute jam with its 2 s clear-run timer (R20). -/
structure Jam where
  isSet : Bool
  clearRun : Timer
  deriving DecidableEq, Repr

/-- The beams' levels as last reported: true while interrupted (R1). -/
structure BeamLevels where
  s1 : Bool
  s2a : Bool
  s2b : Bool
  s3 : Bool
  s4 : Bool
  deriving DecidableEq, Repr

/-- The beam hold timers (R19). -/
structure HoldTimers where
  s1 : Timer
  s2a : Timer
  s2b : Timer
  s3 : Timer
  deriving DecidableEq, Repr

/-- Coin path state (chapter 1). -/
structure CoinPath where
  entry : EntryStage
  measureTimer : Timer
  transit : Option Transit
  chute : List ChuteRecord
  returnWait : List Nat
  tracker : S2Tracker
  jamEntry : Jam
  jamAccept : Jam
  jamReturn : Jam
  beams : BeamLevels
  hold : HoldTimers
  flap : Route
  deriving DecidableEq, Repr

/-! ## Chapter 2: credit unit -/

/-- Destination of a release (R26). -/
inductive Destination where
  | box | ret
  deriving DecidableEq, Repr

/-- An escrow record (R25). -/
structure EscrowRecord where
  coinClass : Nat
  value : Nat
  settledAt : Nat
  deriving DecidableEq, Repr

/-- A release queue entry (R26). -/
structure ReleaseEntry where
  coinClass : Nat
  value : Nat
  dest : Destination
  deriving DecidableEq, Repr

/-- The part of the credit unit that no section keeps.  `inFlight` is the start time of the head's release or
retry, whose confirmation timer runs 400 ms from it (R27); `boxQualified` is clear until the first
qualification of the box switch after a start (R38). -/
structure CreditUnit where
  mirrorEscrow : Nat
  mirrorSum : Nat
  inFlight : Option Nat
  releaseJam : Bool
  retryTimer : Timer
  boxPresent : Bool
  boxQualified : Bool
  deriving DecidableEq, Repr

/-- Contents of the CALL section (R164). -/
structure CallSection where
  sessionOpen : Bool
  escrow : List EscrowRecord
  credit : Nat
  boxCount : Nat
  queue : List ReleaseEntry
  deriving DecidableEq, Repr

/-- One set of money totals, the contents of LIFETIME or of PERIOD (R41). -/
structure Totals where
  counts : Vector Nat 8
  settled : Nat
  collected : Nat
  refunded : Nat
  charged : Nat
  forfeited : Nat
  paidCalls : Nat
  freeCalls : Nat
  deriving DecidableEq, Repr

/-- Credit overflow action (R34). -/
inductive OverflowAction where
  | saturate | reject
  deriving DecidableEq, Repr

/-! ## Chapter 3: tariff store -/

/-- The two image slots, and the two slots of a two-slot section (section 3, R165). -/
inductive SlotId where
  | slot0 | slot1
  deriving DecidableEq, Repr

/-- Contents of IMAGE_0 or IMAGE_1: the 1024 bytes as a memory that reads 0 where nothing is listed (R63), and
the loaded-block set as a mask, bit n for block n (R192). -/
structure ImageSection where
  bytes : List Host.Cell
  loaded : BitVec 16
  deriving DecidableEq, Repr

/-- Answer mode of the image header (R45, R68). -/
inductive AnswerMode where
  | reversal | pulse | timed
  deriving DecidableEq, Repr

/-- Dial method of the image header (R45). -/
inductive DialMethod where
  | dtmf | pulse
  deriving DecidableEq, Repr

/-! ## Chapter 4: rating unit -/

/-- Phase of the rating unit. -/
inductive RatingPhase where
  | idle | priced | running | stopped
  deriving DecidableEq, Repr

/-- A tariff class as handed over (R46, R66). -/
structure TariffClass where
  id : Nat
  initialCharge : Nat
  initialPeriod : Nat
  stepCharge : Nat
  stepPeriod : Nat
  minimumDeposit : Nat
  factors : Vector Nat 4
  barred : Bool
  boxDirect : Bool
  deriving DecidableEq, Repr

/-- The call record (chapter 4). -/
structure RatingUnit where
  phase : RatingPhase
  tariff : Option TariffClass
  deposit : Option Nat
  periodIndex : Nat
  periodTimer : Timer
  warningTimer : Timer
  nextCharge : Option Nat
  warning : Bool
  charged : Nat
  deriving DecidableEq, Repr

/-! ## Chapter 5: line unit -/

/-- Hook state (R87). -/
inductive HookState where
  | onHook | offHook
  deriving DecidableEq, Repr

/-- Session state (R88). -/
inductive SessionState where
  | none | opened | spent
  deriving DecidableEq, Repr

/-- Reason of a session end, in the order of section 12.2. -/
inductive EndReason where
  | hook | abandoned | credit | cord | reset | power
  deriving DecidableEq, Repr

/-- The eleven line phases, in the order of R90. -/
inductive LinePhase where
  | idle | ringIn | seizing | ready | dialling | awaitAnswer | connected | cleared | recall | data | releasing
  deriving DecidableEq, Repr

/-- Line owner and seizure purpose (R90, R109). -/
inductive Purpose where
  | none | user | report | poll
  deriving DecidableEq, Repr

/-- Resolution of the dial buffer (section 5). -/
inductive Resolution where
  | unresolved
  | resolved (classId : Nat)
  | waitingDeposit (classId deposit : Nat)
  deriving DecidableEq, Repr

/-- Line polarity (R91, R99). -/
inductive Polarity where
  | normal | reversed
  deriving DecidableEq, Repr

/-- Line fault mode (R103). -/
inductive LineFaultMode where
  | signal | quiet
  deriving DecidableEq, Repr

/-- Line unit state (chapter 5).  `digitTimer` runs while a digit is being sent; `dialMethod` is the header's
method as read at the start of the dial-out and `answerMode` its mode as read at the start of the answer wait or
of DATA (R45, log entry 15). -/
structure LineUnit where
  hook : HookState
  session : SessionState
  lastEnd : Option EndReason
  phase : LinePhase
  purpose : Purpose
  buffer : List Digit
  resolution : Resolution
  endOfDialling : Bool
  cursor : Nat
  polarity : Polarity
  reference : Option Polarity
  dialToneTimer : Timer
  interdigitTimer : Timer
  digitTimer : Timer
  pauseTimer : Timer
  answerTimer : Timer
  timedAnswerTimer : Timer
  clearTimer : Timer
  recallTimer : Timer
  guardTimer : Timer
  abandonTimer : Timer
  ringCount : Nat
  silenceTimer : Timer
  voltagePresent : Bool
  noToneCount : Nat
  dialMethod : DialMethod
  answerMode : AnswerMode
  deriving DecidableEq, Repr

/-! ## Chapter 6: line arbiter -/

/-- Reason of a take-back. -/
inductive TakeReason where
  | preempt | window | reset
  deriving DecidableEq, Repr

/-- Take-back (R115, R116). -/
inductive TakeBack where
  | none
  | yieldWait (reason : TakeReason)
  | releaseWait (reason : TakeReason)
  deriving DecidableEq, Repr

/-- Forced window (R117, R118). -/
inductive ForcedWindow where
  | closed | armed | opened
  deriving DecidableEq, Repr

/-- Line arbiter state (chapter 6).  `parkedReport` is set while the parked grant is REPORT and clear while it
is USER; `waiting` is the waiting mark of the USER request. -/
structure LineArbiter where
  owner : Purpose
  parkedReport : Bool
  userHeld : Bool
  waiting : Bool
  pollHeld : Bool
  reportHeld : Bool
  takeBack : TakeBack
  yieldTimer : Timer
  holdOff : Timer
  window : ForcedWindow
  windowTimer : Timer
  spacing : Timer
  deriving DecidableEq, Repr

/-! ## Chapter 7: tamper monitor and event queue -/

/-- The five inputs with a pending latch, in the order of R192. -/
inductive Input where
  | coinDoor | upperDoor | cord | shock | box
  deriving DecidableEq, Repr

/-- Level of a switch input, and whether its first qualification after a start has been made (R120). -/
structure SwitchState where
  level : Level
  qualified : Bool
  deriving DecidableEq, Repr

/-- Edge select (R121). -/
inductive EdgeSelect where
  | opened | closed | both
  deriving DecidableEq, Repr

/-- Severity (R121). -/
inductive Severity where
  | urgent | routine
  deriving DecidableEq, Repr

/-- Service causes, in the order of R135. -/
inductive Cause where
  | boxNearFull | coinJam | centreInhibit | noImage | cordCut | lineFault
  deriving DecidableEq, Repr

/-- The causes the tamper monitor holds; CENTRE_INHIBIT is held in CONFIG (R135). -/
structure Causes where
  boxNearFull : Bool
  coinJam : Bool
  noImage : Bool
  cordCut : Bool
  lineFault : Bool
  deriving DecidableEq, Repr

/-- Service state, in the order of R135's text and of section 1.4. -/
inductive ServiceState where
  | inService | freeOnly | outOfOrder
  deriving DecidableEq, Repr

/-- Tamper monitor state that no section keeps (chapter 7).  The shock window is OPEN while `shockTimer` runs, and
`shockEnabled` is SHOCK's enable as it stood when that window opened (R121); `swapRemoved` is the swap tracker's
REMOVED. -/
structure Tamper where
  coinDoor : SwitchState
  upperDoor : SwitchState
  cord : SwitchState
  box : SwitchState
  shockCount : Nat
  shockTimer : Timer
  shockEnabled : Bool
  cordRestore : Timer
  collectorOpen : Bool
  swapRemoved : Bool
  swapObserved : Bool
  causes : Causes
  deriving DecidableEq, Repr

/-- The 16 event kind and source pairs, in the order of section 7.3. -/
inductive EventPair where
  | doorCoin | doorUpper | cord | shock | lineLossVoltage | lineLossNoTone | keypad
  | jamEntry | jamAccept | jamReturn | jamRelease | fraudChute | boxFull | boxAbsent | authFail | powerReturn
  deriving DecidableEq, Repr

/-- A timestamp: clock time with its valid flag set, or the elapsed-time base (R130). -/
inductive Timestamp where
  | clock (dayCount day second : Nat)
  | elapsed (seconds : Nat)
  deriving DecidableEq, Repr

/-- Detail of an event record (section 7.3). -/
inductive Detail where
  | absent
  | number (n : Nat)
  | late
  | power (callOpen : Bool) (refunded : Nat)
  deriving DecidableEq, Repr

/-- Reporting state of a record (R129). -/
inductive RecordState where
  | pending | sending | reported
  deriving DecidableEq, Repr

/-- An event record (R129). -/
structure EventRecord where
  seq : BitVec 16
  pair : EventPair
  severity : Severity
  first : Timestamp
  last : Timestamp
  repeats : Nat
  detail : Detail
  state : RecordState
  amended : Bool
  created : Nat
  deriving DecidableEq, Repr

/-- Contents of the EVENTS section (R164).  Latches are a mask in the order of R192. -/
structure EventsSection where
  records : List EventRecord
  nextSeq : BitVec 16
  latches : BitVec 5
  deriving DecidableEq, Repr

/-! ## Chapter 8: centre link -/

/-- Phase of the centre link. -/
inductive CentrePhase where
  | idle | dial | awaitAnswer | awaitGreet | ident | upload | centreTurn | closing | suspended
  deriving DecidableEq, Repr

/-- Session kind (R140). -/
inductive SessionKind where
  | none | placed | answered
  deriving DecidableEq, Repr

/-- Session reason, in the order of section 12.4. -/
inductive ReportReason where
  | urgent | routine | daily | poll | resume
  deriving DecidableEq, Repr

/-- A frame of the data link, without its sync byte, length byte and check bytes (R144). -/
structure Frame where
  ftype : Byte
  number : Byte
  payload : List Byte
  deriving DecidableEq, Repr

/-- Centre link state (chapter 8).  Beside the spec's own list stand what its rules imply: the frame that waits
for acknowledgement (R150, R152), the last record acknowledged in this session (R154), the wait of a reset for
YIELD (R160), and, for the routine timer, the record and delay it was set for and whether it has expired since
(R139, log entry 14). -/
structure CentreLink where
  phase : CentrePhase
  kind : SessionKind
  reason : Option ReportReason
  phaseTimer : Timer
  uploadDone : Bool
  inFlight : Option (BitVec 16)
  resends : Nat
  ownFrame : Byte
  lastCommand : Option Byte
  lastReply : Option Frame
  idleTimer : Timer
  attempts : Nat
  backoff : Timer
  routineTimer : Timer
  routineFor : Option (BitVec 16 × Nat)
  routineReached : Bool
  dailyDue : Bool
  resume : Bool
  number : List Digit
  awaited : Option Frame
  lastAcked : Option (BitVec 16)
  resetYield : Timer
  deriving DecidableEq, Repr

/-- The modem: the frame being sent, the frames that wait for the centre's carrier and the turnaround, and the turnaround
(R146).  `looks` is the model's own count of the looks taken at the carrier, which numbers the free values of log entry
55. -/
structure Modem where
  sending : Option Frame
  waiting : List Frame
  turnaround : Timer
  looks : Nat
  deriving DecidableEq, Repr

/-! ## Chapter 9: ledger store, power and clock -/

/-- The eight sections, in the order of R164. -/
inductive Section where
  | config | image0 | image1 | lifetime | period | history | call | events
  deriving DecidableEq, Repr

/-- Contents of the CONFIG section (R164): the tariff store's flags, every configuration item of R157 and the
service port's two items.  `enables` is a mask in the order of R192; `severities` is in the order of section
7.3; `edges` is in the order COIN_DOOR, UPPER_DOOR, CORD, BOX. -/
structure ConfigSection where
  activeSlot : SlotId
  activePresent : Bool
  activationPending : Bool
  freeList : Vector (List Digit) 4
  centreInhibit : Bool
  centreNumber : List Digit
  terminalId : BitVec 32
  routineDelay : Nat
  dailyTime : Option Nat
  boxCapacity : Nat
  overflow : OverflowAction
  ringCount : Nat
  lineFaultMode : LineFaultMode
  forcedWindows : Bool
  edges : Vector EdgeSelect 4
  enables : BitVec 5
  severities : Vector Severity 16
  collectors : Vector (Option Code) 8
  failedLogins : Nat
  lockout : Bool
  deriving DecidableEq, Repr

/-- A history record (R189). -/
structure HistoryRecord where
  closedAt : Timestamp
  collector : Fin 8
  totals : Totals
  swapObserved : Bool
  deriving DecidableEq, Repr

/-- One slot of a two-slot section, with the check as stored; `none` where no check stands, because nothing was ever
written or a write of the slot has begun and not completed (R165, log entry 8). -/
structure NvSlot (α : Type) where
  generation : BitVec 16
  contents : α
  check : Option Half
  deriving DecidableEq, Repr

/-- A two-slot section (R165). -/
structure TwoSlot (α : Type) where
  slot0 : NvSlot α
  slot1 : NvSlot α
  deriving DecidableEq, Repr

/-- A single-slot image section, with the check as stored; `none` as in `NvSlot` (R166, log entry 8). -/
structure NvImage where
  contents : ImageSection
  check : Option Half
  deriving DecidableEq, Repr

/-- Nonvolatile memory (R164). -/
structure Nonvolatile where
  config : TwoSlot ConfigSection
  image0 : NvImage
  image1 : NvImage
  lifetime : TwoSlot Totals
  period : TwoSlot Totals
  history : TwoSlot (List HistoryRecord)
  call : TwoSlot CallSection
  events : TwoSlot EventsSection
  deriving DecidableEq, Repr

/-- A write in flight: the section, the slot being written (of no meaning for an image section) and the instant
its write timer expires (R168). -/
structure SectionWrite where
  name : Section
  slot : SlotId
  ends : Nat
  deriving DecidableEq, Repr

/-- Ledger store: dirty list and write in flight (R167, R168). -/
structure Ledger where
  dirty : List Section
  writing : Option SectionWrite
  deriving DecidableEq, Repr

/-- Power state (R169). -/
inductive PowerState where
  | active | standby | holdup | off
  deriving DecidableEq, Repr

/-- What a restore sequence holds back until its end (R171, R183). -/
inductive HeldEvent where
  | warning | reset
  deriving DecidableEq, Repr

/-- Power state with the supply's warning.  `warningLevel` is the warning input as last reported;
`returnPending` is set while a power return from HOLDUP waits for the end of the drain (R172); `restoring` is
the restore sequence, and `held` what it holds back, in the order taken. -/
structure Power where
  state : PowerState
  clearTimer : Timer
  warningLevel : Bool
  returnPending : Bool
  restoring : Bool
  held : List HeldEvent
  deriving DecidableEq, Repr

/-- The clock (R175); `secondStart` is the instant the current second began. -/
structure Clock where
  dayCount : Nat
  day : Nat
  second : Nat
  valid : Bool
  secondStart : Nat
  deriving DecidableEq, Repr

/-! ## Chapter 10: set port -/

/-- The eleven notices, in the order of section 10.3. -/
inductive Notice where
  | credit | callPhase | lowCredit | deposit | service | coinRejected | digitRefused | noTone | lineWait
  | reportActive | clockInvalid
  deriving DecidableEq, Repr

/-- Reasons of COIN_REJECTED (R13). -/
inductive RejectReason where
  | closed | noMatch | full | double
  deriving DecidableEq, Repr

/-- Reasons of DIGIT_REFUSED (R94). -/
inductive RefusalReason where
  | barred | service
  deriving DecidableEq, Repr

/-- Reply codes of the set port, in the order of section 12.2. -/
inductive SetCode where
  | none | taken | refused | status | notices | power
  deriving DecidableEq, Repr

/-- Refusal reasons of the set port, in the order of section 12.2, from FORMAT 1. -/
inductive SetReason where
  | format | noSession | full | barred | service | invalid | set | range
  deriving DecidableEq, Repr

/-- A reply of the set port: request type, reply code, refusal reason and payload (section 12.2). -/
structure SetReply where
  request : Byte
  code : SetCode
  reason : Option SetReason
  payload : List Byte
  deriving DecidableEq, Repr

/-- What a transaction shifts out: the last reply, the reply NONE, a reply coded POWER, or no reply while the
reset line is low (R178, R183, R184). -/
inductive ShiftedOut where
  | noReply
  | noneYet
  | power
  | reply (r : SetReply)
  deriving DecidableEq, Repr

/-- Set port state (chapter 10).  The pending and enable sets are masks in the order of section 10.3, with the
three notices' parameters beside them.  `shifted` is the model's own record of what the latest transaction
shifted out. -/
structure SetPort where
  lastReply : Option SetReply
  pendingSet : BitVec 11
  depositParam : Nat
  rejectParam : RejectReason
  refusalParam : RefusalReason
  enableSet : BitVec 11
  resetLow : Bool
  shifted : ShiftedOut
  deriving DecidableEq, Repr

/-! ## Chapter 11: service port -/

/-- A frame in a receive slot: one of the six requests, or a frame that fails a check, with its type byte
(R185, R186). -/
inductive ServiceFrame where
  | login (index : Fin 8) (code : Code)
  | readTotals
  | readHistory (index : Byte)
  | readEvents (position : Byte)
  | closePeriod
  | logout
  | malformed (ftype : Byte)
  deriving DecidableEq, Repr

/-- Reply codes of the service port, in the order of section 12.3. -/
inductive ServiceCode where
  | ok | denied | locked | busy | noSession | range | format | empty | totals | history | events | closed
  deriving DecidableEq, Repr

/-- A reply of the service port; the overflow flag is added when it is read (R185). -/
structure ServiceReply where
  request : Byte
  code : ServiceCode
  payload : List Byte
  deriving DecidableEq, Repr

/-- What a read of the service port returned: the reply and the receive-overflow flag it carried (R185). -/
structure ServiceRead where
  reply : ServiceReply
  overflow : Bool
  deriving DecidableEq, Repr

/-- Service port state (chapter 11).  `closing` is the request in progress, a held CLOSE_PERIOD; `readHeld` is
set while a read is held on the clock line; `lastRead` is the model's own record of the latest reply read. -/
structure ServicePort where
  rx : List ServiceFrame
  tx : List ServiceReply
  closing : Bool
  overflow : Bool
  session : Option (Fin 8)
  sessionTimer : Timer
  lockoutTimer : Timer
  readHeld : Bool
  lastRead : Option ServiceRead
  deriving DecidableEq, Repr

/-! ## The whole -/

/-- The state of the part, with the model's own fields `now` (the time base, log entry 2), `pending` (the
commands that wait, first in, first out) and `restores` (how many restores have read a damaged image, which
numbers the free bytes of log entry 6). -/
structure State where
  now : Nat
  pending : List Instr
  coin : CoinPath
  credit : CreditUnit
  rating : RatingUnit
  line : LineUnit
  arbiter : LineArbiter
  tamper : Tamper
  elapsed : Nat
  centre : CentreLink
  modem : Modem
  ledger : Ledger
  power : Power
  clock : Clock
  setPort : SetPort
  service : ServicePort
  config : ConfigSection
  image0 : ImageSection
  image1 : ImageSection
  lifetime : Totals
  period : Totals
  history : List HistoryRecord
  call : CallSection
  events : EventsSection
  nv : Nonvolatile
  restores : Nat
  deriving DecidableEq, Repr

/-- Reasons to stop with a fault.  No rule of the spec stops the part: a command that its state does not take
is ignored or refused to its sender, and the part goes on.  No meaning of this model raises a fault. -/
inductive Fault where
  /-- Raised by nothing (see the type).  Safe: a step that stopped with it would only leave a claim unprovable. -/
  | stopped
  deriving DecidableEq, Repr

/-- Reasons to refuse a command. -/
inductive Refusal where
  /-- Raised only by an arm of `exec` that has no meaning yet, with the row's mnemonic; there is none.  Safe: the
  model stops where the part goes on. -/
  | notModelled (mnemonic : String)
  deriving DecidableEq, Repr

/-! ## Values at a cold start (R22, R44, R63, R86, R108, R119, R138, R163, R174, R177, R184, R191) -/

/-- A clear chute jam. -/
def Jam.cleared : Jam := ⟨false, none⟩

/-- Coin path at a start: nothing held, jams clear (R22).  The beams are clear and the flap at ESCROW at reset
(log entry 4). -/
def CoinPath.start : CoinPath where
  entry := .empty
  measureTimer := none
  transit := none
  chute := []
  returnWait := []
  tracker := .quiet
  jamEntry := .cleared
  jamAccept := .cleared
  jamReturn := .cleared
  beams := ⟨false, false, false, false, false⟩
  hold := ⟨none, none, none, none⟩
  flap := .escrow

/-- Credit unit at a start (R44). -/
def CreditUnit.start : CreditUnit where
  mirrorEscrow := 0
  mirrorSum := 0
  inFlight := none
  releaseJam := false
  retryTimer := none
  boxPresent := false
  boxQualified := false

/-- CALL after a cold start (R44, R174). -/
def CallSection.cold : CallSection where
  sessionOpen := false
  escrow := []
  credit := 0
  boxCount := 0
  queue := []

/-- A set of totals, all 0 (R41). -/
def Totals.zero : Totals where
  counts := #v[0, 0, 0, 0, 0, 0, 0, 0]
  settled := 0
  collected := 0
  refunded := 0
  charged := 0
  forfeited := 0
  paidCalls := 0
  freeCalls := 0

/-- An image slot after a cold start: all bytes 0, nothing loaded (R63). -/
def ImageSection.cold : ImageSection := ⟨[], 0⟩

/-- Rating unit at a start (R86). -/
def RatingUnit.start : RatingUnit where
  phase := .idle
  tariff := none
  deposit := none
  periodIndex := 0
  periodTimer := none
  warningTimer := none
  nextCharge := none
  warning := false
  charged := 0

/-- Line unit at a start, with no session ended by the restore (R108).  The polarity, the dial method and the
answer mode have no start value in the spec (log entry 4). -/
def LineUnit.start : LineUnit where
  hook := .onHook
  session := .none
  lastEnd := none
  phase := .idle
  purpose := .none
  buffer := []
  resolution := .unresolved
  endOfDialling := false
  cursor := 0
  polarity := .normal
  reference := none
  dialToneTimer := none
  interdigitTimer := none
  digitTimer := none
  pauseTimer := none
  answerTimer := none
  timedAnswerTimer := none
  clearTimer := none
  recallTimer := none
  guardTimer := none
  abandonTimer := none
  ringCount := 0
  silenceTimer := none
  voltagePresent := true
  noToneCount := 0
  dialMethod := .dtmf
  answerMode := .timed

/-- Line arbiter at a start (R119). -/
def LineArbiter.start : LineArbiter where
  owner := .none
  parkedReport := false
  userHeld := false
  waiting := false
  pollHeld := false
  reportHeld := false
  takeBack := .none
  yieldTimer := none
  holdOff := none
  window := .closed
  windowTimer := none
  spacing := none

/-- A switch input before its first qualification (R120). -/
def SwitchState.start : SwitchState := ⟨.closed, false⟩

/-- Tamper monitor at a start, with every cause clear (R138); the start itself builds the causes. -/
def Tamper.start : Tamper where
  coinDoor := .start
  upperDoor := .start
  cord := .start
  box := .start
  shockCount := 0
  shockTimer := none
  shockEnabled := false
  cordRestore := none
  collectorOpen := false
  swapRemoved := false
  swapObserved := false
  causes := ⟨false, false, false, false, false⟩

/-- EVENTS after a cold start, before POWER_RETURN is handed over (R138, R174). -/
def EventsSection.cold : EventsSection := ⟨[], 0, 0⟩

/-- Centre link at a start (R163).  The table gives no value for the session centre number and for upload completed: they
start empty and clear (log entry 51). -/
def CentreLink.start : CentreLink where
  phase := .idle
  kind := .none
  reason := none
  phaseTimer := none
  uploadDone := false
  inFlight := none
  resends := 0
  ownFrame := 0
  lastCommand := none
  lastReply := none
  idleTimer := none
  attempts := 0
  backoff := none
  routineTimer := none
  routineFor := none
  routineReached := false
  dailyDue := false
  resume := false
  number := []
  awaited := none
  lastAcked := none
  resetYield := none

/-- The modem with nothing to send (R146). -/
def Modem.start : Modem := ⟨none, [], none, 0⟩

/-- CONFIG after a cold start (R121, R157, R163, R174).  The severities are those of section 7.3. -/
def ConfigSection.cold : ConfigSection where
  activeSlot := .slot0
  activePresent := false
  activationPending := false
  freeList := #v[[], [], [], []]
  centreInhibit := false
  centreNumber := []
  terminalId := 0
  routineDelay := 240
  dailyTime := none
  boxCapacity := 1200
  overflow := .reject
  ringCount := 4
  lineFaultMode := .signal
  forcedWindows := true
  edges := #v[.opened, .opened, .opened, .opened]
  enables := 0x1F
  severities := #v[.urgent, .urgent, .urgent, .routine, .urgent, .urgent, .routine, .routine, .routine, .routine,
    .routine, .urgent, .routine, .urgent, .urgent, .routine]
  collectors := #v[none, none, none, none, none, none, none, none]
  failedLogins := 0
  lockout := false

/-- Set port at a start, before the notices of the start are raised (R184).  A parameter means nothing while its
notice is not pending (R192). -/
def SetPort.start : SetPort where
  lastReply := none
  pendingSet := 0
  depositParam := 0
  rejectParam := .closed
  refusalParam := .barred
  enableSet := 0
  resetLow := false
  shifted := .noReply

/-- Service port at a start (R191). -/
def ServicePort.start : ServicePort where
  rx := []
  tx := []
  closing := false
  overflow := false
  session := none
  sessionTimer := none
  lockoutTimer := none
  readHeld := false
  lastRead := none

/-- A two-slot section of which neither slot is valid. -/
def TwoSlot.lost {α : Type} (contents : α) : TwoSlot α := ⟨⟨0, contents, none⟩, ⟨0, contents, none⟩⟩

/-- Nonvolatile memory that holds no valid section, as a cold start finds it (R174, log entry 4). -/
def Nonvolatile.blank : Nonvolatile where
  config := .lost .cold
  image0 := ⟨.cold, none⟩
  image1 := ⟨.cold, none⟩
  lifetime := .lost .zero
  period := .lost .zero
  history := .lost []
  call := .lost .cold
  events := .lost .cold

/-- The POWER_RETURN record that a cold start hands to the empty queue: record 0, ROUTINE, PENDING, call-open
flag clear and no coin refunded, stamped with the elapsed-time base because the clock is invalid (R130, R174). -/
def EventRecord.coldStart : EventRecord where
  seq := 0
  pair := .powerReturn
  severity := .routine
  first := .elapsed 0
  last := .elapsed 0
  repeats := 1
  detail := .power false 0
  state := .pending
  amended := false
  created := 0

/-- The part right after a cold start: R174, with each block's start values, the cause NO_IMAGE alone, the notices
SERVICE and CLOCK_INVALID pending, the POWER_RETURN record in the queue, all eight sections on the dirty list in
the order of R174 and the power state STANDBY, since no condition of R170 holds.  The routine timer runs to the
routine delay of that record (R139, R163). -/
def State.reset : State where
  now := 0
  pending := []
  coin := .start
  credit := .start
  rating := .start
  line := .start
  arbiter := .start
  tamper := { Tamper.start with causes := ⟨false, false, true, false, false⟩ }
  elapsed := 0
  centre := { CentreLink.start with routineTimer := some 14400000, routineFor := some (0, 240) }
  modem := .start
  ledger := ⟨[.config, .lifetime, .period, .history, .call, .events, .image0, .image1], none⟩
  power := ⟨.standby, none, false, false, false, []⟩
  clock := ⟨0, 0, 0, false, 0⟩
  setPort := { SetPort.start with pendingSet := 0x410 }
  service := .start
  config := .cold
  image0 := .cold
  image1 := .cold
  lifetime := .zero
  period := .zero
  history := []
  call := .cold
  events := ⟨[.coldStart], 1, 0⟩
  nv := .blank
  restores := 0

end Sys2Proof.Machine
end

