-- ==== Sys2Proof/Machine/Update.lean ====
section
/-!
DEFINITION. One update for each field of `State`, so that every operation says by its name which block's state it
touches and the lemmas of Laws/State.lean carry everything else through.
-/

namespace Sys2Proof.Machine

/-- `s` with its `now` changed by `f`. -/
def State.modNow (s : State) (f : Nat → Nat) : State := { s with now := f s.now }

/-- `s` with its `pending` changed by `f`. -/
def State.modPending (s : State) (f : List Instr → List Instr) : State := { s with pending := f s.pending }

/-- `s` with its `coin` changed by `f`. -/
def State.modCoin (s : State) (f : CoinPath → CoinPath) : State := { s with coin := f s.coin }

/-- `s` with its `credit` changed by `f`. -/
def State.modCredit (s : State) (f : CreditUnit → CreditUnit) : State := { s with credit := f s.credit }

/-- `s` with its `rating` changed by `f`. -/
def State.modRating (s : State) (f : RatingUnit → RatingUnit) : State := { s with rating := f s.rating }

/-- `s` with its `line` changed by `f`. -/
def State.modLine (s : State) (f : LineUnit → LineUnit) : State := { s with line := f s.line }

/-- `s` with its `arbiter` changed by `f`. -/
def State.modArbiter (s : State) (f : LineArbiter → LineArbiter) : State := { s with arbiter := f s.arbiter }

/-- `s` with its `tamper` changed by `f`. -/
def State.modTamper (s : State) (f : Tamper → Tamper) : State := { s with tamper := f s.tamper }

/-- `s` with its `elapsed` changed by `f`. -/
def State.modElapsed (s : State) (f : Nat → Nat) : State := { s with elapsed := f s.elapsed }

/-- `s` with its `centre` changed by `f`. -/
def State.modCentre (s : State) (f : CentreLink → CentreLink) : State := { s with centre := f s.centre }

/-- `s` with its `modem` changed by `f`. -/
def State.modModem (s : State) (f : Modem → Modem) : State := { s with modem := f s.modem }

/-- `s` with its `ledger` changed by `f`. -/
def State.modLedger (s : State) (f : Ledger → Ledger) : State := { s with ledger := f s.ledger }

/-- `s` with its `power` changed by `f`. -/
def State.modPower (s : State) (f : Power → Power) : State := { s with power := f s.power }

/-- `s` with its `clock` changed by `f`. -/
def State.modClock (s : State) (f : Clock → Clock) : State := { s with clock := f s.clock }

/-- `s` with its `setPort` changed by `f`. -/
def State.modSetPort (s : State) (f : SetPort → SetPort) : State := { s with setPort := f s.setPort }

/-- `s` with its `service` changed by `f`. -/
def State.modService (s : State) (f : ServicePort → ServicePort) : State := { s with service := f s.service }

/-- `s` with its `config` changed by `f`. -/
def State.modConfig (s : State) (f : ConfigSection → ConfigSection) : State := { s with config := f s.config }

/-- `s` with its `image0` changed by `f`. -/
def State.modImage0 (s : State) (f : ImageSection → ImageSection) : State := { s with image0 := f s.image0 }

/-- `s` with its `image1` changed by `f`. -/
def State.modImage1 (s : State) (f : ImageSection → ImageSection) : State := { s with image1 := f s.image1 }

/-- `s` with its `lifetime` changed by `f`. -/
def State.modLifetime (s : State) (f : Totals → Totals) : State := { s with lifetime := f s.lifetime }

/-- `s` with its `period` changed by `f`. -/
def State.modPeriod (s : State) (f : Totals → Totals) : State := { s with period := f s.period }

/-- `s` with its `history` changed by `f`. -/
def State.modHistory (s : State) (f : List HistoryRecord → List HistoryRecord) : State := { s with history := f s.history }

/-- `s` with its `call` changed by `f`. -/
def State.modCall (s : State) (f : CallSection → CallSection) : State := { s with call := f s.call }

/-- `s` with its `events` changed by `f`. -/
def State.modEvents (s : State) (f : EventsSection → EventsSection) : State := { s with events := f s.events }

/-- `s` with its `nv` changed by `f`. -/
def State.modNv (s : State) (f : Nonvolatile → Nonvolatile) : State := { s with nv := f s.nv }

/-- `s` with its `restores` changed by `f`. -/
def State.modRestores (s : State) (f : Nat → Nat) : State := { s with restores := f s.restores }

end Sys2Proof.Machine
end

