-- ==== Sys2Proof/Machine/Flags.lean ====
section
/-!
DEFINITION. What the rules derive from the state whenever they use it: available credit, column occupancy,
acceptance, service state, the attention line, the free line, the ACTIVE conditions and the facts that the event
queue tells the centre link.
-/

namespace Sys2Proof.Machine

/-! ## Power -/

/-- The blocks run: ACTIVE or STANDBY (R169). -/
def State.running (s : State) : Bool :=
  match s.power.state with
  | .active => true
  | .standby => true
  | .holdup => false
  | .off => false

/-- The power state is ACTIVE. -/
def State.isActive (s : State) : Bool := s.power.state == .active

/-! ## Credit -/

/-- Value of the held escrow records (R31). -/
def escrowValue (records : List EscrowRecord) : Nat := (records.map (·.value)).sum

/-- Available credit A: C plus the value of the held escrow records (R31). -/
def CallSection.available (c : CallSection) : Nat := c.credit + escrowValue c.escrow

/-- Available credit A of the part (R31). -/
def State.available (s : State) : Nat := s.call.available

/-- Column occupancy (R24). -/
def State.occupancy (s : State) : Nat := s.call.escrow.length + s.credit.mirrorEscrow + s.call.queue.length

/-! ## Service causes and service state -/

/-- Whether a service cause is set (R135). -/
def State.hasCause (s : State) : Cause → Bool
  | .boxNearFull => s.tamper.causes.boxNearFull
  | .coinJam => s.tamper.causes.coinJam
  | .centreInhibit => s.config.centreInhibit
  | .noImage => s.tamper.causes.noImage
  | .cordCut => s.tamper.causes.cordCut
  | .lineFault => s.tamper.causes.lineFault

/-- Service state: OUT_OF_ORDER, else FREE_ONLY, else IN_SERVICE (R135). -/
def State.serviceState (s : State) : ServiceState :=
  if s.hasCause .cordCut || s.hasCause .lineFault then .outOfOrder
  else if s.hasCause .boxNearFull || s.hasCause .coinJam || s.hasCause .centreInhibit || s.hasCause .noImage then
    .freeOnly
  else .inService

/-- Set of service causes as a mask in the order of R135 (R192). -/
def State.causeMask (s : State) : BitVec 6 :=
  [Cause.boxNearFull, .coinJam, .centreInhibit, .noImage, .cordCut, .lineFault].foldr
    (fun c m => (m <<< 1) ||| (if s.hasCause c then 1#6 else 0#6)) 0#6

/-! ## Coin path -/

/-- Any of the four jams is set (R6, R20). -/
def State.anyJam (s : State) : Bool :=
  s.coin.jamEntry.isSet || s.coin.jamAccept.isSet || s.coin.jamReturn.isSet || s.credit.releaseJam

/-- Acceptance is open (R6). -/
def State.acceptanceOpen (s : State) : Bool :=
  s.isActive && s.line.session == .opened && s.serviceState == .inService && !s.anyJam
    && decide (s.coin.chute.length < Config.chuteMax)

/-- The session's tariff class is flagged BOX_DIRECT; a session whose class has not resolved counts as not
(R10). -/
def State.boxDirect (s : State) : Bool :=
  match s.rating.tariff with
  | some t => t.boxDirect
  | none => false

/-! ## Line -/

/-- The line phase holds the loop closed (R90). -/
def LinePhase.loopClosed : LinePhase → Bool
  | .idle => false
  | .ringIn => false
  | .seizing => true
  | .ready => true
  | .dialling => true
  | .awaitAnswer => true
  | .connected => true
  | .cleared => true
  | .recall => false
  | .data => true
  | .releasing => false

/-- The line phase is IDLE or RING_IN. -/
def LinePhase.atRest : LinePhase → Bool
  | .idle => true
  | .ringIn => true
  | .seizing => false
  | .ready => false
  | .dialling => false
  | .awaitAnswer => false
  | .connected => false
  | .cleared => false
  | .recall => false
  | .data => false
  | .releasing => false

/-- The seize relay is closed: the phase holds the loop closed and the part is ACTIVE (R90, R107, R169). -/
def State.relayClosed (s : State) : Bool := s.isActive && s.line.phase.loopClosed

/-- The line is free: no owner, no take-back, phase IDLE or RING_IN (R111). -/
def State.lineFree (s : State) : Bool :=
  s.arbiter.owner == .none && s.arbiter.takeBack == .none && s.line.phase.atRest

/-- One of the conditions that hold the part ACTIVE holds (R170). -/
def State.holdsActive (s : State) : Bool :=
  s.arbiter.owner != .none || !s.line.phase.atRest || s.line.hook == .offHook || !s.call.queue.isEmpty
    || s.service.session.isSome || s.coin.transit.isSome

/-! ## Set port -/

/-- Place of a notice in the table of section 10.3, which is its bit in a notice mask (R192). -/
def Notice.index : Notice → Nat
  | .credit => 0
  | .callPhase => 1
  | .lowCredit => 2
  | .deposit => 3
  | .service => 4
  | .coinRejected => 5
  | .digitRefused => 6
  | .noTone => 7
  | .lineWait => 8
  | .reportActive => 9
  | .clockInvalid => 10

/-- A notice is pending (R181). -/
def State.isPending (s : State) (n : Notice) : Bool := maskHas s.setPort.pendingSet n.index

/-- The attention line is asserted: some notice is pending and enabled, and the part is not in HOLDUP or OFF
(R182). -/
def State.attention (s : State) : Bool := s.running && (s.setPort.pendingSet &&& s.setPort.enableSet != 0)

/-! ## Event queue -/

/-- Place of a pair in the table of section 7.3 (R157, section 12.4). -/
def EventPair.index : EventPair → Fin 16
  | .doorCoin => 0
  | .doorUpper => 1
  | .cord => 2
  | .shock => 3
  | .lineLossVoltage => 4
  | .lineLossNoTone => 5
  | .keypad => 6
  | .jamEntry => 7
  | .jamAccept => 8
  | .jamReturn => 9
  | .jamRelease => 10
  | .fraudChute => 11
  | .boxFull => 12
  | .boxAbsent => 13
  | .authFail => 14
  | .powerReturn => 15

/-- Kind and source codes of a pair (section 7.3, R192). -/
def EventPair.codes : EventPair → Nat × Nat
  | .doorCoin => (0, 0)
  | .doorUpper => (1, 0)
  | .cord => (2, 0)
  | .shock => (3, 0)
  | .lineLossVoltage => (4, 0)
  | .lineLossNoTone => (4, 1)
  | .keypad => (5, 0)
  | .jamEntry => (6, 0)
  | .jamAccept => (6, 1)
  | .jamReturn => (6, 2)
  | .jamRelease => (6, 3)
  | .fraudChute => (7, 0)
  | .boxFull => (8, 0)
  | .boxAbsent => (9, 0)
  | .authFail => (10, 0)
  | .powerReturn => (11, 0)

/-- Severity of a pair in the severity table (R121, R128). -/
def State.severityOf (s : State) (p : EventPair) : Severity := s.config.severities.get p.index

/-- A timestamp taken now (R130). -/
def State.timestamp (s : State) : Timestamp :=
  if s.clock.valid then .clock s.clock.dayCount s.clock.day s.clock.second else .elapsed s.elapsed

/-- Number of PENDING records (R134). -/
def State.pendingCount (s : State) : Nat := (s.events.records.filter (·.state == .pending)).length

/-- Oldest PENDING record of a severity (R134, R151). -/
def State.oldestPending (s : State) (v : Severity) : Option EventRecord :=
  s.events.records.find? fun r => r.state == .pending && r.severity == v

/-- Age of a record in seconds (R130). -/
def State.age (s : State) (r : EventRecord) : Nat := s.elapsed - r.created

/-- The queue holds an URGENT PENDING record created more than 30 min earlier (R117). -/
def State.urgentOverdue (s : State) : Bool :=
  s.events.records.any fun r =>
    r.state == .pending && r.severity == .urgent && decide (Config.windowAgeSeconds < s.age r)

/-- Condition Routine of R139: the oldest ROUTINE PENDING record has an age of at least the routine delay, by the
elapsed-time base or because the routine timer set for it has expired (log entry 14). -/
def State.routineDue (s : State) : Bool :=
  match s.oldestPending .routine with
  | some r => s.centre.routineReached || decide (s.config.routineDelay * 60 ≤ s.age r)
  | none => false

/-- A PLACED session is in progress (R139, condition Session). -/
def State.placedSession (s : State) : Bool := s.centre.phase != .idle && s.centre.kind == .placed

/-- The centre link holds the REPORT request (R139). -/
def State.wantsReport (s : State) : Bool :=
  !s.config.centreNumber.isEmpty && s.centre.backoff.isNone
    && ((s.oldestPending .urgent).isSome || s.routineDue || (s.centre.dailyDue && decide (0 < s.pendingCount))
      || s.centre.resume || s.placedSession)

/-! ## Ledger -/

/-- A section is on the dirty list or being written (R164). -/
def State.sectionBusy (s : State) (n : Section) : Bool :=
  s.ledger.dirty.contains n || (match s.ledger.writing with
    | some w => w.name == n
    | none => false)

/-- The drain is at its end: nothing dirty and no write in flight (R172). -/
def State.drained (s : State) : Bool := s.ledger.dirty.isEmpty && s.ledger.writing.isNone

end Sys2Proof.Machine
end

