-- ==== Sys2Proof/Machine/Memory.lean ====
section
/-!
DEFINITION. The 1024 bytes of a tariff image slot as a memory in canonical form: addresses strictly rising, below
1024, and no entry equal to what an unlisted address reads as.

Byte `n` of block `b` stands at address `64 * b + n`.  After a cold start every byte is 0 (R63), so an unlisted
address reads 0.
-/

namespace Sys2Proof.Machine

/-- What an unlisted address reads as: all bytes of a slot are 0 after a cold start (R63). -/
def unlistedByte : Byte := 0

/-- The byte at an address. -/
def memRead : List Host.Cell → Nat → Byte
  | [], _ => unlistedByte
  | (k, v) :: rest, a => if k = a then v else memRead rest a

/-- The memory with one byte written, in canonical form. -/
def memWrite : List Host.Cell → Nat → Byte → List Host.Cell
  | [], a, b => if b = unlistedByte then [] else [(a, b)]
  | (k, v) :: rest, a, b =>
    if a < k then
      if b = unlistedByte then (k, v) :: rest else (a, b) :: (k, v) :: rest
    else if a = k then
      if b = unlistedByte then rest else (a, b) :: rest
    else (k, v) :: memWrite rest a b

/-- The memory with bytes written from an address on. -/
def memWriteBytes (m : List Host.Cell) (a : Nat) : List Byte → List Host.Cell
  | [] => m
  | b :: rest => memWriteBytes (memWrite m a b) (a + 1) rest

/-- Every listed address is at or above `low` and below 1024, addresses rise strictly, and no listed byte equals
what an unlisted address reads as. -/
def memWfFrom : Nat → List Host.Cell → Bool
  | _, [] => true
  | low, (k, v) :: rest =>
    decide (low ≤ k) && decide (k < Config.imageBytes) && decide (v ≠ unlistedByte) && memWfFrom (k + 1) rest

/-- The memory is in canonical form. -/
def memWf (m : List Host.Cell) : Bool := memWfFrom 0 m

/-- The number that two bytes carry, most significant first (R192). -/
def memHalf (m : List Host.Cell) (a : Nat) : Nat := (memRead m a).toNat * 256 + (memRead m (a + 1)).toNat

end Sys2Proof.Machine
end

