-- ==== Sys2Proof/Machine/Tariff.lean ====
section
/-!
DEFINITION. What the tariff store reads from an image (R45 to R48, section 12.6), its validation (R53, R193),
prefix resolution (R57 to R59), band lookup (R60, R61), coin class matching (R4, R5) and the charge computation
(R64).
-/

namespace Sys2Proof.Machine

/-- The byte at an address, as a number. -/
def memNat (m : List Host.Cell) (a : Nat) : Nat := (memRead m a).toNat

/-! ## Header (block 0) -/

/-- Image id (R45). -/
def imageId (m : List Host.Cell) : Nat := memHalf m 0

/-- Code of the answer mode (R193). -/
def answerModeCode (m : List Host.Cell) : Nat := memNat m 2

/-- Answer mode; an image that passed validation holds a code of the list (R193). -/
def imageAnswerMode (m : List Host.Cell) : AnswerMode :=
  match answerModeCode m with
  | 0 => .reversal
  | 1 => .pulse
  | _ => .timed

/-- Timed-answer delay in seconds (R45). -/
def imageAnswerDelay (m : List Host.Cell) : Nat := memNat m 3

/-- Code of the dial method (R193). -/
def dialMethodCode (m : List Host.Cell) : Nat := memNat m 4

/-- Dial method (R45). -/
def imageDialMethod (m : List Host.Cell) : DialMethod := if dialMethodCode m = 1 then .pulse else .dtmf

/-- Charge granule G (R45). -/
def imageGranule (m : List Host.Cell) : Nat := memNat m 5

/-- Warning lead W in seconds (R45). -/
def imageWarningLead (m : List Host.Cell) : Nat := memNat m 6

/-- Default class (R45). -/
def imageDefaultClass (m : List Host.Cell) : Nat := memNat m 7

/-! ## Coin classes (blocks 1 and 2) -/

/-- A measurement window: bounds and senses, true for INCLUSIVE (section 1.2). -/
structure Window where
  low : Nat
  high : Nat
  lowIncl : Bool
  highIncl : Bool
  deriving DecidableEq, Repr

/-- A coin class (section 1.2). -/
structure CoinClass where
  value : Nat
  enabled : Bool
  w1 : Window
  w2 : Window
  w3 : Window
  deriving DecidableEq, Repr

/-- Address of coin class `k`, 0..7: five in block 1, three in block 2 (section 12.6). -/
def coinClassAddress (k : Nat) : Nat := if k < 5 then 64 + 12 * k else 128 + 12 * (k - 5)

/-- The window at an address (section 12.6). -/
def windowAt (m : List Host.Cell) (a : Nat) : Window where
  low := memNat m a
  high := memNat m (a + 1)
  lowIncl := (memRead m (a + 2)).getLsbD 0
  highIncl := (memRead m (a + 2)).getLsbD 1

/-- Coin class `k`, 0..7; its class index is `k + 1` (section 12.6). -/
def coinClassAt (m : List Host.Cell) (k : Nat) : CoinClass :=
  let a := coinClassAddress k
  { value := memHalf m a
    enabled := (memRead m (a + 2)).getLsbD 0
    w1 := windowAt m (a + 3)
    w2 := windowAt m (a + 6)
    w3 := windowAt m (a + 9) }

/-- A measurement wins a window (R4). -/
def Window.wonBy (w : Window) (x : Nat) : Bool :=
  (decide (w.low < x) || (w.lowIncl && decide (x = w.low)))
    && (decide (x < w.high) || (w.highIncl && decide (x = w.high)))

/-- A triple matches a coin class (R4). -/
def CoinClass.matchesTriple (c : CoinClass) (t : Triple) : Bool :=
  c.enabled && c.w1.wonBy t.m1.toNat && c.w2.wonBy t.m2.toNat && c.w3.wonBy t.m3.toNat

/-- The class given to a triple among candidates in index order: the lowest value, and among equal values the
lowest index (R5).  The answer is class index and value. -/
def lowestClass : List (Nat × CoinClass) → Option (Nat × Nat)
  | [] => none
  | (k, c) :: rest =>
    match lowestClass rest with
    | none => some (k, c.value)
    | some (k', v') => if c.value ≤ v' then some (k, c.value) else some (k', v')

/-- Class index 1..8 and value of the class a triple is given by an image, if any (R4, R5). -/
def classifyTriple (m : List Host.Cell) (t : Triple) : Option (Nat × Nat) :=
  lowestClass (((List.range 8).map fun k => (k + 1, coinClassAt m k)).filter fun p => p.2.matchesTriple t)

/-! ## Tariff classes (blocks 3 to 8) -/

/-- Address of tariff class `id` (section 12.6). -/
def tariffClassAddress (id : Nat) : Nat := 64 * (3 + id / 3) + 19 * (id % 3)

/-- Tariff class `id` of an image (R46, section 12.6). -/
def tariffClassAt (m : List Host.Cell) (id : Nat) : TariffClass :=
  let a := tariffClassAddress id
  { id := id
    initialCharge := memHalf m a
    initialPeriod := memHalf m (a + 2)
    stepCharge := memHalf m (a + 4)
    stepPeriod := memHalf m (a + 6)
    minimumDeposit := memHalf m (a + 8)
    factors := #v[memHalf m (a + 10), memHalf m (a + 12), memHalf m (a + 14), memHalf m (a + 16)]
    barred := (memRead m (a + 18)).getLsbD 0
    boxDirect := (memRead m (a + 18)).getLsbD 1 }

/-! ## Prefix entries (blocks 9 to 14) -/

/-- A prefix entry (R47). -/
structure PrefixEntry where
  used : Bool
  count : Nat
  digits : List Nat
  classId : Nat
  deriving DecidableEq, Repr

/-- Nibble `i` of the bytes at an address, high nibble first (section 12.6). -/
def nibbleAt (m : List Host.Cell) (a i : Nat) : Nat :=
  if i % 2 = 0 then memNat m (a + i / 2) / 16 else memNat m (a + i / 2) % 16

/-- Prefix entry `i`, 0..47; its digits are the nibbles within its count (R193, section 12.6). -/
def prefixEntryAt (m : List Host.Cell) (i : Nat) : PrefixEntry :=
  let a := 64 * (9 + i / 8) + 8 * (i % 8)
  let count := memNat m a % 16
  { used := (memRead m a).getLsbD 7
    count := count
    digits := (List.range (min count 12)).map (nibbleAt m (a + 1))
    classId := memNat m (a + 7) }

/-- The used prefix entries of an image, in index order (R47). -/
def usedEntries (m : List Host.Cell) : List PrefixEntry :=
  ((List.range 48).map (prefixEntryAt m)).filter (·.used)

/-! ## Band points (block 15) -/

/-- A band point (R48). -/
structure BandPoint where
  used : Bool
  day : Nat
  minute : Nat
  band : Nat
  deriving DecidableEq, Repr

/-- Band point `i`, 0..15 (section 12.6). -/
def bandPointAt (m : List Host.Cell) (i : Nat) : BandPoint :=
  let a := 960 + 3 * i
  { used := (memRead m a).getLsbD 7
    day := memNat m a / 16 % 8
    minute := memHalf m (a + 1)
    band := memNat m a % 4 }

/-- The used band points of an image, in index order (R48). -/
def usedPoints (m : List Host.Cell) : List BandPoint :=
  ((List.range 16).map (bandPointAt m)).filter (·.used)

/-- Instant of a band point in seconds of the week (R48). -/
def BandPoint.instant (p : BandPoint) : Nat := p.day * 86400 + p.minute * 60

/-! ## Check word and validation -/

/-- Bytes of an image without its check word: the first 1022 (R49). -/
def checkedBytes (m : List Host.Cell) : List Byte := (List.range 1022).map (memRead m)

/-- The check word as carried (section 12.6). -/
def checkWord (m : List Host.Cell) : Nat := memHalf m 1022

/-- Reasons of a failed validation, in the order of section 12.4 from 1 (R53). -/
inductive ValidationFailure where
  | blocks | check | field | window | duplicate
  deriving DecidableEq, Repr

/-- `lo ≤ n ≤ hi`. -/
def inRange (lo hi n : Nat) : Bool := decide (lo ≤ n) && decide (n ≤ hi)

/-- Every header field is in its range (R45, R193). -/
def headerInRange (m : List Host.Cell) : Bool :=
  inRange 1 65535 (imageId m) && inRange 0 2 (answerModeCode m) && inRange 5 60 (imageAnswerDelay m)
    && inRange 0 1 (dialMethodCode m) && inRange 1 100 (imageGranule m) && inRange 5 60 (imageWarningLead m)
    && inRange 0 15 (imageDefaultClass m)

/-- Every field of a tariff class is in its range, and class 0 is not BARRED (R46). -/
def TariffClass.inRange (t : TariffClass) : Bool :=
  Machine.inRange 0 9999 t.initialCharge && Machine.inRange 1 3600 t.initialPeriod
    && Machine.inRange 0 9999 t.stepCharge && Machine.inRange 1 3600 t.stepPeriod
    && Machine.inRange 0 9999 t.minimumDeposit && t.factors.toList.all (Machine.inRange 25 400)
    && !(t.id == 0 && t.barred)

/-- A used prefix entry is in range (R47, R193). -/
def PrefixEntry.inRange (e : PrefixEntry) : Bool :=
  Machine.inRange 1 12 e.count && e.digits.all (Machine.inRange 0 10) && Machine.inRange 0 15 e.classId

/-- A used band point is in range (R48, R193). -/
def BandPoint.inRange (p : BandPoint) : Bool :=
  Machine.inRange 0 6 p.day && Machine.inRange 0 1439 p.minute && Machine.inRange 0 3 p.band

/-- The enabled coin classes of an image (R53). -/
def enabledClasses (m : List Host.Cell) : List CoinClass :=
  ((List.range 8).map (coinClassAt m)).filter (·.enabled)

/-- Step 3 of validation (R53). -/
def fieldsInRange (m : List Host.Cell) : Bool :=
  headerInRange m && (List.range 16).all (fun id => (tariffClassAt m id).inRange)
    && (enabledClasses m).all (fun c => Machine.inRange 1 9999 c.value)
    && (usedEntries m).all (·.inRange) && (usedPoints m).all (·.inRange)

/-- Step 4 of validation (R53). -/
def windowsOrdered (m : List Host.Cell) : Bool :=
  (enabledClasses m).all fun c =>
    decide (c.w1.low ≤ c.w1.high) && decide (c.w2.low ≤ c.w2.high) && decide (c.w3.low ≤ c.w3.high)

/-- No two entries of a list have the same digit count and digits (R47). -/
def noDuplicates : List PrefixEntry → Bool
  | [] => true
  | e :: rest => rest.all (fun f => !(e.count == f.count && e.digits == f.digits)) && noDuplicates rest

/-- Checks 2 to 5 of validation, in order; the first that fails gives the reason (R53). -/
def validateBytes (m : List Host.Cell) : Option ValidationFailure :=
  if checkWord m ≠ (crc16 (checkedBytes m)).toNat then some .check
  else if !fieldsInRange m then some .field
  else if !windowsOrdered m then some .window
  else if !noDuplicates (usedEntries m) then some .duplicate
  else none

/-- Validation of a slot and its loaded-block set (R53). -/
def validateImage (i : ImageSection) : Option ValidationFailure :=
  if i.loaded ≠ 0xFFFF#16 then some .blocks else validateBytes i.bytes

/-! ## Slots -/

/-- The slot that is not `i`. -/
def SlotId.other : SlotId → SlotId
  | .slot0 => .slot1
  | .slot1 => .slot0

/-- The image section of a slot. -/
def State.image (s : State) : SlotId → ImageSection
  | .slot0 => s.image0
  | .slot1 => s.image1

/-- The section that mirrors a slot (R164). -/
def SlotId.sectionName : SlotId → Section
  | .slot0 => .image0
  | .slot1 => .image1

/-- `s` with the image section of a slot changed. -/
def State.modImage (s : State) (i : SlotId) (f : ImageSection → ImageSection) : State :=
  match i with
  | .slot0 => s.modImage0 f
  | .slot1 => s.modImage1 f

/-- The active slot's bytes. -/
def State.activeBytes (s : State) : List Host.Cell := (s.image s.config.activeSlot).bytes

/-- The staged slot: the slot that is not active. -/
def State.stagedSlot (s : State) : SlotId := s.config.activeSlot.other

/-- Answer mode of the active image header, TIMED with no active image (R45). -/
def State.answerMode (s : State) : AnswerMode :=
  if s.config.activePresent then imageAnswerMode s.activeBytes else .timed

/-- Dial method of the active image header, DTMF with no active image (R45). -/
def State.dialMethod (s : State) : DialMethod :=
  if s.config.activePresent then imageDialMethod s.activeBytes else .dtmf

/-- Timed-answer delay in seconds, 20 with no active image (R45). -/
def State.answerDelay (s : State) : Nat :=
  if s.config.activePresent then imageAnswerDelay s.activeBytes else Config.defaultAnswerDelay

/-- Active image id as HELLO reports it, 0 with no active image (R50). -/
def State.activeId (s : State) : Nat := if s.config.activePresent then imageId s.activeBytes else 0

/-- Staged image id as HELLO reports it, 0 when block 0 is not loaded (R50). -/
def State.stagedId (s : State) : Nat :=
  let i := s.image s.stagedSlot
  if maskHas i.loaded 0 then imageId i.bytes else 0

/-! ## Prefix resolution -/

/-- Two digit strings agree at every position where both have a digit (R57). -/
def agree : List Nat → List Nat → Bool
  | [], _ => true
  | _, [] => true
  | a :: as, b :: bs => a == b && agree as bs

/-- A stored digit string as numbers. -/
def digitsNat (d : List Digit) : List Nat := d.map (·.val)

/-- The non-empty free list numbers (R56). -/
def State.freeNumbers (s : State) : List (List Nat) :=
  (s.config.freeList.toList.map digitsNat).filter (fun d => !d.isEmpty)

/-- A candidate is longer than the buffer (R58). -/
def longerThan (buffer : List Nat) (c : List Nat) : Bool := agree c buffer && decide (buffer.length < c.length)

/-- An entry is contained in the buffer: a candidate no longer than it (R57). -/
def PrefixEntry.containedIn (e : PrefixEntry) (buffer : List Nat) : Bool :=
  agree e.digits buffer && decide (e.digits.length ≤ buffer.length)

/-- The longest entry of a list (R58); the longest contained entry of a valid image is unique. -/
def longestEntry : List PrefixEntry → Option PrefixEntry
  | [] => none
  | e :: rest =>
    match longestEntry rest with
    | none => some e
    | some f => if f.digits.length < e.digits.length then some e else some f

/-- Answer of the tariff store to a resolution (section 3.5). -/
inductive Answer where
  | resolved (classId : Nat)
  | waiting
  | unknown
  deriving DecidableEq, Repr

/-- Class of the longest entry contained in the buffer (R58). -/
def State.containedClass (s : State) (buffer : List Nat) : Option Nat :=
  (longestEntry ((usedEntries s.activeBytes).filter (·.containedIn buffer))).map (·.classId)

/-- Some free list number is longer than the buffer. -/
def State.freeLonger (s : State) (buffer : List Nat) : Bool := s.freeNumbers.any (longerThan buffer)

/-- The answer after a digit: R58 with an active image, R59 without one.  Without one, a buffer that only a shorter free
list number agrees with is answered NONE (log entry 47). -/
def State.resolveDigit (s : State) (digits : List Digit) : Answer :=
  let buffer := digitsNat digits
  if s.config.activePresent then
    if s.freeLonger buffer || (usedEntries s.activeBytes).any (fun e => longerThan buffer e.digits) then .waiting
    else if s.freeNumbers.contains buffer then .resolved 0
    else match s.containedClass buffer with
      | some id => .resolved id
      | none => .waiting
  else if s.freeLonger buffer then .waiting
  else if s.freeNumbers.contains buffer then .resolved 0
  else .unknown

/-- The final answer at end of dialling (R59). -/
def State.resolveFinal (s : State) (digits : List Digit) : Answer :=
  let buffer := digitsNat digits
  if s.config.activePresent then
    if s.freeNumbers.contains buffer then .resolved 0
    else match s.containedClass buffer with
      | some id => .resolved id
      | none => .resolved (imageDefaultClass s.activeBytes)
  else if s.freeNumbers.contains buffer && !s.freeLonger buffer then .resolved 0
  else .unknown

/-- The tariff class handed over for a class id (R66).  With no active image the class is class 0; the spec gives
it no fields then, and they are read by no rule (log entry 16). -/
def State.classRecord (s : State) (id : Nat) : TariffClass :=
  if s.config.activePresent then tariffClassAt s.activeBytes id
  else ⟨id, 0, 0, 0, 0, 0, #v[0, 0, 0, 0], false, false⟩

/-! ## Bands -/

/-- The used point with the greatest instant, the later index among equal ones (R48, R60). -/
def latestPoint : List BandPoint → Option BandPoint
  | [] => none
  | p :: rest =>
    match latestPoint rest with
    | none => some p
    | some q => if q.instant < p.instant then some p else some q

/-- Band at a week time in seconds (R60). -/
def bandAt (m : List Host.Cell) (t : Nat) : Nat :=
  let points := usedPoints m
  match latestPoint (points.filter fun p => decide (p.instant ≤ t)) with
  | some p => p.band
  | none =>
    match latestPoint points with
    | some p => p.band
    | none => 0

/-- Week time of the clock in seconds (R60). -/
def Clock.weekTime (c : Clock) : Nat := c.day * 86400 + c.second

/-- Band at the current week time plus an offset in seconds (R60, R61). -/
def State.band (s : State) (offset : Nat) : Nat :=
  if s.config.activePresent && s.clock.valid then
    let t := s.clock.weekTime + offset
    bandAt s.activeBytes (if Config.weekSeconds ≤ t then t - Config.weekSeconds else t)
  else 0

/-! ## Charges -/

/-- Division rounded up. -/
def ceilDiv (a b : Nat) : Nat := (a + b - 1) / b

/-- Charge X from a base, a factor and the granule (R64). -/
def charge (base factor granule : Nat) : Nat := ceilDiv (ceilDiv (base * factor) 100) granule * granule

/-- Factor of a class for a band 0..3 (R46). -/
def TariffClass.factor (t : TariffClass) (band : Nat) : Nat := (t.factors.toList.drop band).headD 0

/-- Charge with a base, for a class, at the band of the current week time plus an offset (R64, R65). -/
def State.chargeOf (s : State) (t : TariffClass) (base offset : Nat) : Nat :=
  charge base (t.factor (s.band offset)) (imageGranule s.activeBytes)

/-- Deposit D of a class at its handover: 0 for class 0, else the greater of MD and the initial charge (R66). -/
def State.depositOf (s : State) (t : TariffClass) : Nat :=
  if t.id = 0 then 0 else max t.minimumDeposit (s.chargeOf t t.initialCharge 0)

end Sys2Proof.Machine
end

