-- ==== Sys2Proof/Machine/Formats.lean ====
section
/-!
DEFINITION. How the part builds what it sends: codes, timestamps, records and payloads (12_formats_and_pin_summary.md,
R192).
-/

namespace Sys2Proof.Machine

/-! ## Codes: the position of a value in its list (R192) -/

/-- Position in the order of R90. -/
def LinePhase.code : LinePhase → Nat
  | .idle => 0
  | .ringIn => 1
  | .seizing => 2
  | .ready => 3
  | .dialling => 4
  | .awaitAnswer => 5
  | .connected => 6
  | .cleared => 7
  | .recall => 8
  | .data => 9
  | .releasing => 10

/-- Position in the list NONE, USER, REPORT, POLL (R109). -/
def Purpose.code : Purpose → Nat
  | .none => 0
  | .user => 1
  | .report => 2
  | .poll => 3

/-- Position in the list NONE, OPEN, SPENT (chapter 5). -/
def SessionState.code : SessionState → Nat
  | .none => 0
  | .opened => 1
  | .spent => 2

/-- Position in the order of section 12.2; 0xFF while no session has ended. -/
def endCode : Option EndReason → Nat
  | none => 255
  | some .hook => 0
  | some .abandoned => 1
  | some .credit => 2
  | some .cord => 3
  | some .reset => 4
  | some .power => 5

/-- Position in the list IN_SERVICE, FREE_ONLY, OUT_OF_ORDER (chapter 7). -/
def ServiceState.code : ServiceState → Nat
  | .inService => 0
  | .freeOnly => 1
  | .outOfOrder => 2

/-- Position in the list CLOSED, NO_MATCH, FULL, DOUBLE (R13). -/
def RejectReason.code : RejectReason → Nat
  | .closed => 0
  | .noMatch => 1
  | .full => 2
  | .double => 3

/-- Position in the list BARRED, SERVICE (section 10.3). -/
def RefusalReason.code : RefusalReason → Nat
  | .barred => 0
  | .service => 1

/-- Position in the order of section 12.4. -/
def ReportReason.code : ReportReason → Nat
  | .urgent => 0
  | .routine => 1
  | .daily => 2
  | .poll => 3
  | .resume => 4

/-- Position in the list PENDING, SENDING, REPORTED (R129). -/
def RecordState.code : RecordState → Nat
  | .pending => 0
  | .sending => 1
  | .reported => 2

/-- Code of a validation failure in RESULT(INVALID) (section 12.4). -/
def ValidationFailure.code : ValidationFailure → Nat
  | .blocks => 1
  | .check => 2
  | .field => 3
  | .window => 4
  | .duplicate => 5

/-- Code of a set port reply (section 12.2). -/
def SetCode.code : SetCode → Nat
  | .none => 0
  | .taken => 1
  | .refused => 2
  | .status => 3
  | .notices => 4
  | .power => 5

/-- Code of a set port refusal reason; 0 with no refusal (section 12.2). -/
def setReasonCode : Option SetReason → Nat
  | none => 0
  | some .format => 1
  | some .noSession => 2
  | some .full => 3
  | some .barred => 4
  | some .service => 5
  | some .invalid => 6
  | some .set => 7
  | some .range => 8

/-- Code of a service port reply (section 12.3). -/
def ServiceCode.code : ServiceCode → Nat
  | .ok => 0
  | .denied => 1
  | .locked => 2
  | .busy => 3
  | .noSession => 4
  | .range => 5
  | .format => 6
  | .empty => 7
  | .totals => 8
  | .history => 9
  | .events => 10
  | .closed => 11

/-! ## Records -/

/-- A timestamp as sent: 5 bytes (R192).  Bits 4 to 6 of byte 0 are 0 with the valid flag set too (log entry 63). -/
def Timestamp.encode : Timestamp → List Byte
  | .clock dayCount day second =>
    byteOf (128 + day + 8 * (second / 65536)) :: (be16 dayCount ++ be16 (second % 65536))
  | .elapsed seconds => 0 :: be32 seconds

/-- The two detail bytes of an event record (section 12.5). -/
def Detail.encode : Detail → List Byte
  | .absent => [0, 0]
  | .number n => be16 n
  | .late => [0, 0]
  | .power callOpen refunded => [flagByte callOpen, byteOf refunded]

/-- Byte 4 of an event record (section 12.5).  Bits 3, 6 and 7, which the section does not name, are 0 (log entry 63). -/
def EventRecord.flags (r : EventRecord) : Nat :=
  (if r.severity = .urgent then 1 else 0) + (if r.amended then 2 else 0) + (if r.detail = .absent then 0 else 4)
    + 16 * r.state.code

/-- An event record as sent: 18 bytes (section 12.5). -/
def EventRecord.encode (r : EventRecord) : List Byte :=
  be16 r.seq.toNat ++ [byteOf r.pair.codes.1, byteOf r.pair.codes.2, byteOf r.flags, byteOf r.repeats]
    ++ r.detail.encode ++ r.first.encode ++ r.last.encode

/-- A totals set as sent: 60 bytes (section 12.3). -/
def Totals.encode (t : Totals) : List Byte :=
  (t.counts.toList.map be32).flatten ++ be32 t.settled ++ be32 t.collected ++ be32 t.refunded ++ be32 t.charged
    ++ be32 t.forfeited ++ be32 t.paidCalls ++ be32 t.freeCalls

/-- A history record as sent in HISTORY and CLOSED (section 12.3). -/
def HistoryRecord.encode (h : HistoryRecord) : List Byte :=
  1 :: (h.closedAt.encode ++ [byteOf h.collector.val] ++ h.totals.encode ++ [flagByte h.swapObserved])

/-- Records from a position onward, at most `most` of them, behind their count and the position (R155, R189). -/
def recordsFrom (records : List EventRecord) (position : Byte) (most : Nat) : List Byte :=
  [byteOf records.length, position] ++ (((records.drop position.toNat).take most).map EventRecord.encode).flatten

/-! ## Set port payloads (section 12.2) -/

/-- D in STATUS: while the resolution is WAITING_DEPOSIT, absent otherwise (R180, R192). -/
def State.statusDeposit (s : State) : Nat :=
  match s.line.resolution with
  | .waitingDeposit _ d => d
  | .unresolved => 65535
  | .resolved _ => 65535

/-- Session class in STATUS: the id of the class record, or all ones (R84, R180). -/
def State.statusClass (s : State) : Nat :=
  match s.rating.tariff with
  | some t => t.id
  | none => 255

/-- The STATUS payload: 28 bytes (R180). -/
def State.statusBytes (s : State) : List Byte :=
  [byteOf s.line.phase.code, byteOf s.arbiter.owner.code, byteOf s.line.session.code, byteOf (endCode s.line.lastEnd)]
    ++ be16 s.statusDeposit
    ++ [flagByte s.arbiter.waiting, byteOf s.serviceState.code, s.causeMask.setWidth 8, s.events.latches.setWidth 8,
        byteOf s.statusClass]
    ++ be16 s.available ++ be16 s.call.credit ++ [byteOf s.call.escrow.length, flagByte s.rating.warning]
    ++ be32 s.rating.charged ++ be16 s.clock.dayCount ++ [byteOf s.clock.day] ++ be24 s.clock.second
    ++ [flagByte s.clock.valid]

/-- The NOTICES payload: 8 bytes; a parameter whose notice is not pending is all ones (R182, R192). -/
def State.noticeBytes (s : State) : List Byte :=
  be16 s.setPort.pendingSet.toNat
    ++ be16 (if s.isPending .deposit then s.setPort.depositParam else 65535)
    ++ [byteOf (if s.isPending .coinRejected then s.setPort.rejectParam.code else 255),
        byteOf (if s.isPending .digitRefused then s.setPort.refusalParam.code else 255)]
    ++ be16 s.setPort.enableSet.toNat

/-! ## Service port payloads (section 12.3) -/

/-- The TOTALS payload (R189). -/
def State.totalsBytes (s : State) : List Byte :=
  s.lifetime.encode ++ s.period.encode ++ be16 s.call.boxCount ++ be16 s.config.boxCapacity

/-- The HISTORY payload for an index (R189). -/
def State.historyBytes (s : State) (index : Nat) : List Byte :=
  match s.history[index]? with
  | some h => h.encode
  | none => [0]

/-! ## Centre link payloads (section 12.4) -/

/-- Code of the session's reason. -/
def reasonCode : Option ReportReason → Nat
  | some r => r.code
  | none => 0

/-- The HELLO payload: 14 bytes (R150). -/
def State.helloBytes (s : State) : List Byte :=
  be32 s.config.terminalId.toNat ++ [byteOf (reasonCode s.centre.reason), byteOf s.pendingCount]
    ++ be16 s.activeId ++ be16 s.stagedId ++ be16 (s.image s.stagedSlot).loaded.toNat
    ++ [flagByte s.config.activationPending, flagByte s.clock.valid]

/-- Part 2 of the audit (R155). -/
def State.auditState (s : State) : List Byte :=
  be16 s.call.boxCount ++ be16 s.config.boxCapacity
    ++ [byteOf s.serviceState.code, s.causeMask.setWidth 8, s.events.latches.setWidth 8, byteOf s.pendingCount]

/-- The AUDIT payload for a part number, none above 2 (R155). -/
def State.auditBytes (s : State) (part : Byte) : Option (List Byte) :=
  match part.toNat with
  | 0 => some (part :: s.lifetime.encode)
  | 1 => some (part :: s.period.encode)
  | 2 => some (part :: s.auditState)
  | _ => none

end Sys2Proof.Machine
end

