-- ==== Sys2Proof/Machine/Sections.lean ====
section
/-!
DEFINITION. The contents of each section of nonvolatile memory as bytes, and the checks over them (R164 to R166).

The spec names what a section holds and the CRC-16 over it, and gives no order of its bytes but for the image
sections; the order here is the model's (log entry 56).  A record, a totals set and a history record stand as they
are sent (section 12.3, section 12.5); the creation instant of a record is not stored (R164).
-/

namespace Sys2Proof.Machine

/-- A stored digit string: its length, then its digits. -/
def digitBytes (d : List Digit) : List Byte := byteOf d.length :: d.map fun x => byteOf x.val

/-- A stored collector entry: a present flag, then the code. -/
def collectorBytes : Option Code → List Byte
  | none => [0]
  | some code => 1 :: code.map fun x => byteOf x.val

/-- Position of a slot. -/
def SlotId.code : SlotId → Nat
  | .slot0 => 0
  | .slot1 => 1

/-- Position in the list OPEN, CLOSE, BOTH (R192). -/
def EdgeSelect.code : EdgeSelect → Nat
  | .opened => 0
  | .closed => 1
  | .both => 2

/-- Position in the list URGENT, ROUTINE (R192). -/
def Severity.code : Severity → Nat
  | .urgent => 0
  | .routine => 1

/-- The CONFIG section (R164). -/
def ConfigSection.encode (c : ConfigSection) : List Byte :=
  [byteOf c.activeSlot.code, flagByte c.activePresent, flagByte c.activationPending]
    ++ (c.freeList.toList.map digitBytes).flatten ++ [flagByte c.centreInhibit] ++ digitBytes c.centreNumber
    ++ be32 c.terminalId.toNat ++ be16 c.routineDelay ++ be16 (c.dailyTime.getD 65535) ++ be16 c.boxCapacity
    ++ [flagByte (c.overflow == .reject), byteOf c.ringCount, flagByte (c.lineFaultMode == .quiet),
        flagByte c.forcedWindows]
    ++ (c.edges.toList.map fun e => byteOf e.code) ++ [c.enables.setWidth 8]
    ++ (c.severities.toList.map fun v => byteOf v.code) ++ (c.collectors.toList.map collectorBytes).flatten
    ++ [byteOf c.failedLogins, flagByte c.lockout]

/-- The HISTORY section (R164, R189). -/
def historySection (hs : List HistoryRecord) : List Byte := byteOf hs.length :: (hs.map HistoryRecord.encode).flatten

/-- A held escrow record (R25). -/
def EscrowRecord.encode (e : EscrowRecord) : List Byte := byteOf e.coinClass :: (be16 e.value ++ be32 e.settledAt)

/-- A release queue entry (R26). -/
def ReleaseEntry.encode (e : ReleaseEntry) : List Byte :=
  byteOf e.coinClass :: (be16 e.value ++ [flagByte (e.dest == .ret)])

/-- The CALL section (R164). -/
def CallSection.encode (c : CallSection) : List Byte :=
  flagByte c.sessionOpen :: byteOf c.escrow.length :: (c.escrow.map EscrowRecord.encode).flatten
    ++ be16 c.credit ++ be16 c.boxCount ++ byteOf c.queue.length :: (c.queue.map ReleaseEntry.encode).flatten

/-- The EVENTS section (R164). -/
def EventsSection.encode (e : EventsSection) : List Byte :=
  byteOf e.records.length :: (e.records.map EventRecord.encode).flatten
    ++ be16 e.nextSeq.toNat ++ [e.latches.setWidth 8]

/-- The bytes of an image section: its 1024 image bytes and the loaded-block set (R166). -/
def ImageSection.encode (i : ImageSection) : List Byte :=
  (List.range Config.imageBytes).map (memRead i.bytes) ++ be16 i.loaded.toNat

/-- The check of a two-slot section's slot: the CRC-16 over its generation and contents (R145, R165). -/
def slotCheck (generation : BitVec 16) (contents : List Byte) : Half := crc16 (be16 generation.toNat ++ contents)

/-- The check of an image section (R145, R166). -/
def ImageSection.check (i : ImageSection) : Half := crc16 i.encode

end Sys2Proof.Machine
end

