-- ==== Sys2Proof/Machine/Operands.lean ====
section
/-!
DEFINITION. What the payloads of the centre's commands carry, form by form: the values of CONFIG_SET by item (R157,
R192, section 12.4), clock values (R176), and part numbers, positions and switches (R155, R156).  A payload whose
length does not fit its command, or whose field holds a code outside its list, gives nothing and is answered
RESULT(RANGE) (R157, R192).
-/

namespace Sys2Proof.Machine

/-- A payload of exactly one byte. -/
def oneByte : List Byte → Option Byte
  | [b] => some b
  | _ => none

/-- A number in exactly `width` bytes (R192). -/
def wholeNumber (width : Nat) (bytes : List Byte) : Option Nat :=
  if bytes.length = width then some (ofBe bytes) else none

/-- A number in exactly `width` bytes and in its range (R157). -/
def rangedNumber (width low high : Nat) (bytes : List Byte) : Option Nat :=
  (wholeNumber width bytes).filter fun n => decide (low ≤ n) && decide (n ≤ high)

/-- One of two values, coded 0 and 1 (R192). -/
def twoValued {α : Type} (zero one : α) (bytes : List Byte) : Option α :=
  match oneByte bytes with
  | some b => if b = 0 then some zero else if b = 1 then some one else none
  | none => none

/-- Digits, each of 0..9 or `*` (R56, R139, R192). -/
def digitsOf : List Byte → Option (List Digit)
  | [] => some []
  | b :: rest =>
    if h : b.toNat < 11 then (digitsOf rest).map fun ds => ⟨b.toNat, h⟩ :: ds else none

/-- A digit string: a count byte, then that many digits, at most 24 (R56, R139, R192). -/
def digitString : List Byte → Option (List Digit)
  | [] => none
  | n :: rest => if rest.length = n.toNat ∧ rest.length ≤ Config.bufferMax then digitsOf rest else none

/-- The digits of a login code are 0..9: neither `*` nor `#` is one (log entry 54). -/
def codeDigits : List Byte → Option Code
  | [] => some []
  | b :: rest => if h : b.toNat < 10 then (codeDigits rest).map fun ds => ⟨b.toNat, h⟩ :: ds else none

/-- A login code: six digits 0..9, one per byte (R187, R192). -/
def loginCode (bytes : List Byte) : Option Code := if bytes.length = 6 then codeDigits bytes else none

/-- A collector entry: a present flag followed by six digits; with the flag clear the digits say nothing (section
12.4, log entry 20). -/
def collectorEntry : List Byte → Option (Option Code)
  | [] => none
  | f :: rest =>
    if rest.length ≠ 6 then none
    else if f = 0 then some none
    else if f = 1 then (loginCode rest).map some
    else none

/-- An edge select (R121, R192). -/
def edgeSelect (bytes : List Byte) : Option EdgeSelect :=
  match oneByte bytes with
  | some b => if b = 0 then some .opened else if b = 1 then some .closed else if b = 2 then some .both else none
  | none => none

/-- The daily report time: a minute of the day, or all ones for NONE (R142, R192). -/
def dailyValue (bytes : List Byte) : Option (Option Nat) :=
  match wholeNumber 2 bytes with
  | some n => if n = 65535 then some none else if n ≤ 1439 then some (some n) else none
  | none => none

/-- A set of the five inputs (R121, R192, log entry 19). -/
def latchSet (bytes : List Byte) : Option (BitVec 5) :=
  (rangedNumber 1 0 31 bytes).map (BitVec.ofNat 5)

/-- What a CONFIG_SET asks for (R157). -/
inductive ConfigChange where
  | centreNumber (digits : List Digit)
  | terminalId (id : BitVec 32)
  | routineDelay (minutes : Nat)
  | dailyTime (minute : Option Nat)
  | boxCapacity (coins : Nat)
  | overflow (action : OverflowAction)
  | freeNumber (index : Fin 4) (digits : List Digit)
  | ringCount (rings : Nat)
  | lineFault (mode : LineFaultMode)
  | forcedWindows (enabled : Bool)
  | edge (index : Fin 4) (select : EdgeSelect)
  | enable (input : Input) (enabled : Bool)
  | severity (index : Fin 16) (value : Severity)
  | latchClear (which : BitVec 5)
  | collector (index : Fin 8) (entry : Option Code)
  deriving DecidableEq, Repr

/-- The input that the `k`-th of the five enable items belongs to, in the order in which R121 lists the enables
(log entry 18). -/
def enableInput : Nat → Input
  | 0 => .coinDoor
  | 1 => .upperDoor
  | 2 => .cord
  | 3 => .box
  | _ => .shock

/-- The value of a CONFIG_SET item, by the item's number (R157, section 12.4). -/
def configValue (item : Nat) (v : List Byte) : Option ConfigChange :=
  if item = 0 then (digitString v).map .centreNumber
  else if item = 1 then (wholeNumber 4 v).map fun n => .terminalId (BitVec.ofNat 32 n)
  else if item = 2 then (rangedNumber 2 0 1440 v).map .routineDelay
  else if item = 3 then (dailyValue v).map .dailyTime
  else if item = 4 then (rangedNumber 2 200 3000 v).map .boxCapacity
  else if item = 5 then (twoValued .saturate .reject v).map .overflow
  else if item < 10 then (digitString v).map (.freeNumber (Fin.ofNat 4 (item - 6)))
  else if item = 10 then (rangedNumber 1 2 15 v).map .ringCount
  else if item = 11 then (twoValued .signal .quiet v).map .lineFault
  else if item = 12 then (twoValued true false v).map .forcedWindows
  else if item < 17 then (edgeSelect v).map (.edge (Fin.ofNat 4 (item - 13)))
  else if item < 22 then (twoValued true false v).map (.enable (enableInput (item - 17)))
  else if item < 38 then (twoValued .urgent .routine v).map (.severity (Fin.ofNat 16 (item - 22)))
  else if item = 38 then (latchSet v).map .latchClear
  else if item < 47 then (collectorEntry v).map (.collector (Fin.ofNat 8 (item - 39)))
  else none

/-- What a CONFIG_SET payload asks for: an item byte and a value (section 12.4). -/
def configChange : List Byte → Option ConfigChange
  | [] => none
  | item :: v => configValue item.toNat v

/-- Clock values as a CLOCK_SET carries them (R176). -/
structure ClockValues where
  dayCount : Nat
  day : Nat
  second : Nat
  deriving DecidableEq, Repr

/-- Every clock value is in its range (R176); a day count is 0..65535 by its width. -/
def ClockValues.inRange (v : ClockValues) : Bool := decide (v.day ≤ 6) && decide (v.second ≤ 86399)

/-- The payload of the centre's CLOCK_SET (section 12.4). -/
def clockValues : List Byte → Option ClockValues
  | [d1, d0, w, s2, s1, s0] => some ⟨ofBe [d1, d0], w.toNat, ofBe [s2, s1, s0]⟩
  | _ => none

/-- The payload of BLOCK_LOAD: a block index 0..15 and exactly 64 bytes (R52). -/
def blockOf : List Byte → Option (Nat × List Byte)
  | [] => none
  | i :: bytes => if i.toNat ≤ 15 ∧ bytes.length = Config.blockBytes then some (i.toNat, bytes) else none

/-- The payload of SERVICE_SET: SET 1 or CLEAR 0 (R156, section 12.4). -/
def inhibitOf (bytes : List Byte) : Option Bool := twoValued false true bytes

/-- Sequence number of an ACK, if it carries one (R150, R152). -/
def ackSeq : List Byte → Option (BitVec 16)
  | [a, b] => some (BitVec.ofNat 16 (ofBe [a, b]))
  | _ => none

end Sys2Proof.Machine
end

