-- ==== Sys2Proof/Machine/Ops.lean ====
section
/-!
DEFINITION. The operations that every block shares: the time base, notices, the dirty list, the event queue,
latches, service causes, and the parts of the line unit and the rating unit that a change of credit or of service
reaches.
-/

namespace Sys2Proof.Machine

/-! ## Time -/

/-- The time base is at least `t`: the step being taken says that the instant `t` has come (log entry 2). -/
def State.reach (s : State) (t : Nat) : State := s.modNow fun n => max n t

/-! ## Notices (R181) -/

/-- A notice with no parameter is raised. -/
def State.raise (s : State) (n : Notice) : State :=
  s.modSetPort fun p => { p with pendingSet := maskAdd p.pendingSet n.index }

/-- DEPOSIT is raised with D (R94). -/
def State.raiseDeposit (s : State) (d : Nat) : State :=
  (s.raise .deposit).modSetPort fun p => { p with depositParam := d }

/-- COIN_REJECTED is raised with its reason (R13). -/
def State.raiseRejected (s : State) (r : RejectReason) : State :=
  (s.raise .coinRejected).modSetPort fun p => { p with rejectParam := r }

/-- DIGIT_REFUSED is raised with its reason (R94). -/
def State.raiseRefused (s : State) (r : RefusalReason) : State :=
  (s.raise .digitRefused).modSetPort fun p => { p with refusalParam := r }

/-! ## Dirty list (R167) -/

/-- A section is appended to the dirty list unless it is on it. -/
def State.mark (s : State) (n : Section) : State :=
  s.modLedger fun l => if l.dirty.contains n then l else { l with dirty := l.dirty ++ [n] }

/-- A section's live contents are the same in two states. -/
def State.sameSection (a b : State) : Section → Bool
  | .config => decide (a.config = b.config)
  | .image0 => decide (a.image0 = b.image0)
  | .image1 => decide (a.image1 = b.image1)
  | .lifetime => decide (a.lifetime = b.lifetime)
  | .period => decide (a.period = b.period)
  | .history => decide (a.history = b.history)
  | .call => decide (a.call = b.call)
  | .events => decide (a.events = b.events)

/-- A section is appended to the dirty list when its live contents have changed since `before`; contents left as they
were mark nothing (R167, log entry 49). -/
def State.markSince (s before : State) (n : Section) : State := if before.sameSection s n then s else s.mark n

/-- The sections that a change of money marks, in the order of R33, R35 and R37. -/
def State.markMoneySince (s before : State) : State :=
  ((s.markSince before .call).markSince before .lifetime).markSince before .period

/-! ## Event queue -/

/-- A record with an occurrence coalesced into it (R131). -/
def EventRecord.coalesce (r : EventRecord) (v : Severity) (t : Timestamp) (d : Detail) : EventRecord :=
  { r with
    repeats := min (r.repeats + 1) Config.byteMax
    last := t
    detail := if d = .absent then r.detail else d
    severity := if v = .urgent then .urgent else r.severity
    amended := r.amended || r.state == .sending }

/-- A record takes an occurrence of a pair: same pair, PENDING or SENDING (R131). -/
def EventRecord.takes (r : EventRecord) (p : EventPair) : Bool := r.pair == p && r.state != .reported

/-- Records with room made for one more: a full queue loses its oldest REPORTED record (R132). -/
def makeRoom (records : List EventRecord) : List EventRecord :=
  if records.length < Config.recordsMax then records else records.eraseP (·.state == .reported)

/-- A new record of an occurrence (R129). -/
def State.newRecord (s : State) (p : EventPair) (d : Detail) : EventRecord where
  seq := s.events.nextSeq
  pair := p
  severity := s.severityOf p
  first := s.timestamp
  last := s.timestamp
  repeats := 1
  detail := d
  state := .pending
  amended := false
  created := s.elapsed

/-- An occurrence is handed to the event queue (R131, R132). -/
def State.occur (s : State) (p : EventPair) (d : Detail) : State :=
  let s' := s.modEvents fun e =>
    if e.records.any (·.takes p) then
      { e with records := e.records.map fun r =>
          if r.takes p then r.coalesce (s.severityOf p) s.timestamp d else r }
    else
      { e with records := makeRoom e.records ++ [s.newRecord p d], nextSeq := e.nextSeq + 1 }
  s'.markSince s .events

/-- EVENTS with the record of a sequence number changed. -/
def EventsSection.change (e : EventsSection) (seq : BitVec 16) (f : EventRecord → EventRecord) : EventsSection :=
  { e with records := e.records.map fun r => if r.seq == seq then f r else r }

/-- The record with a sequence number changed in state; a request that changes nothing marks nothing (R133, R167). -/
def State.changeRecord (s : State) (seq : BitVec 16) (f : EventRecord → EventRecord) : State :=
  (s.modEvents fun e => e.change seq f).markSince s .events

/-- Send: a PENDING record becomes SENDING (R133). -/
def EventRecord.send (r : EventRecord) : EventRecord :=
  if r.state = .pending then { r with state := .sending } else r

/-- Acknowledge: a SENDING record becomes REPORTED, or PENDING with amended cleared when amended is set (R133). -/
def EventRecord.acknowledge (r : EventRecord) : EventRecord :=
  if r.state = .sending then
    if r.amended then { r with state := .pending, amended := false } else { r with state := .reported }
  else r

/-- Return: a SENDING record becomes PENDING, amended unchanged (R133). -/
def EventRecord.giveBack (r : EventRecord) : EventRecord :=
  if r.state = .sending then { r with state := .pending } else r

/-! ## Latches (R123) -/

/-- Place of an input in the order of the latches (R192). -/
def Input.index : Input → Nat
  | .coinDoor => 0
  | .upperDoor => 1
  | .cord => 2
  | .shock => 3
  | .box => 4

/-- A latch is set; SERVICE is raised and EVENTS marked when it was clear (R122, R123). -/
def State.setLatch (s : State) (i : Input) : State :=
  if maskHas s.events.latches i.index then s
  else ((s.modEvents fun e => { e with latches := maskAdd e.latches i.index }).mark .events).raise .service

/-- The latches of a mask are cleared; EVENTS is marked when one changed (R123). -/
def State.clearLatches (s : State) (which : BitVec 5) : State :=
  if s.events.latches &&& which = 0 then s
  else (s.modEvents fun e => { e with latches := e.latches &&& ~~~which }).mark .events

/-! ## Line phase -/

/-- The line phase becomes `p`; a change raises CALL_PHASE (R90). -/
def State.setPhase (s : State) (p : LinePhase) : State :=
  if s.line.phase = p then s else (s.modLine fun l => { l with phase := p }).raise .callPhase

/-- The dial buffer is emptied: resolution UNRESOLVED, end of dialling not reached, cursor 0 (R89, R94, R101). -/
def LineUnit.emptied (l : LineUnit) : LineUnit :=
  { l with buffer := [], resolution := .unresolved, endOfDialling := false, cursor := 0 }

/-- Time a digit takes to send (R97).  Under PULSE, `*` takes a time the spec does not state (log entry 17). -/
def digitTime (m : DialMethod) (d : Digit) : Nat :=
  match m with
  | .dtmf => Config.dtmfDigit
  | .pulse =>
    if d.val = 0 then 10 * Config.dialPulse
    else if d.val = 10 then Config.starPulseTime
    else d.val * Config.dialPulse

/-- The digit at the cursor starts, if the buffer holds one there (R97). -/
def State.startDigit (s : State) : State :=
  match s.line.buffer[s.line.cursor]? with
  | some d => s.modLine fun l => { l with digitTimer := some (s.now + digitTime l.dialMethod d) }
  | none => s

/-- Dial-out begins: DIALLING with the cursor at 0 and the first digit started, under the dial method that the
active header gives now (R45, R94, R97). -/
def State.startDialOut (s : State) : State :=
  ((s.modLine fun l => { l with cursor := 0, dialMethod := s.dialMethod, pauseTimer := none, digitTimer := none }).setPhase
    .dialling).startDigit

/-! ## Rating unit: what the line unit and the credit unit tell it -/

/-- The line unit has emptied the dial buffer (R67). -/
def RatingUnit.bufferEmptied (r : RatingUnit) : RatingUnit :=
  if r.phase = .priced then { r with phase := .idle, tariff := none, deposit := none } else r

/-- The line was released without answer (R67, R82). -/
def RatingUnit.unanswered (r : RatingUnit) : RatingUnit :=
  if r.phase = .priced then { r with phase := .stopped, deposit := none } else r

/-- The timers stop, the warning flag clears and the next charge becomes absent (R75, R82, R83). -/
def RatingUnit.quieted (r : RatingUnit) : RatingUnit :=
  { r with periodTimer := none, warningTimer := none, warning := false, nextCharge := none }

/-- Far-end clear (R82). -/
def RatingUnit.cleared (r : RatingUnit) : RatingUnit :=
  if r.phase = .running then { r.quieted with phase := .stopped } else r

/-- Recall for a follow-on call (R82). -/
def RatingUnit.recalled (r : RatingUnit) : RatingUnit :=
  if r.phase = .running ∨ r.phase = .stopped then
    { r.quieted with phase := .idle, tariff := none, deposit := none }
  else r

/-- The USER session ends (R83). -/
def RatingUnit.ended (r : RatingUnit) : RatingUnit :=
  { r.quieted with phase := .idle, tariff := none, deposit := none }

/-- A new A is announced: the warning flag clears when A covers the next charge (R80). -/
def RatingUnit.credited (r : RatingUnit) (a : Nat) : RatingUnit :=
  match r.nextCharge with
  | some x => if r.warning && decide (x ≤ a) then { r with warning := false } else r
  | none => r

/-! ## Refusal of the dial buffer and the deposit wait -/

/-- The dial buffer is refused: emptied, the interdigit timer stopped, the rating unit told and DIGIT_REFUSED
raised (R94). -/
def State.refuseBuffer (s : State) (r : RefusalReason) : State :=
  ((s.modLine fun l => { l.emptied with interdigitTimer := none }).modRating RatingUnit.bufferEmptied).raiseRefused r

/-- A session that waits for its deposit is tested again (R95). -/
def State.recheckDeposit (s : State) : State :=
  match s.line.resolution with
  | .waitingDeposit id d =>
    if s.line.phase ≠ .ready then s
    else if id ≠ 0 ∧ s.serviceState ≠ .inService then s.refuseBuffer .service
    else if d ≤ s.available then (s.modLine fun l => { l with resolution := .resolved id }).startDialOut
    else s
  | .unresolved => s
  | .resolved _ => s

/-! ## Service causes (R135, R136) -/

/-- The set of causes with one put in or out. -/
def State.putCause (s : State) (c : Cause) (v : Bool) : State :=
  match c with
  | .boxNearFull => s.modTamper fun t => { t with causes := { t.causes with boxNearFull := v } }
  | .coinJam => s.modTamper fun t => { t with causes := { t.causes with coinJam := v } }
  | .centreInhibit => (s.modConfig fun c => { c with centreInhibit := v }).mark .config
  | .noImage => s.modTamper fun t => { t with causes := { t.causes with noImage := v } }
  | .cordCut => s.modTamper fun t => { t with causes := { t.causes with cordCut := v } }
  | .lineFault => s.modTamper fun t => { t with causes := { t.causes with lineFault := v } }

/-- A cause is set or cleared: nothing when it is as asked; else SERVICE is raised, and the line unit is told when
the service state changes (R135, R136). -/
def State.changeCause (s : State) (c : Cause) (v : Bool) : State :=
  if s.hasCause c = v then s
  else
    let s' := (s.putCause c v).raise .service
    if s'.serviceState = s.serviceState then s' else s'.recheckDeposit

/-- The last-jam test: with the four jams clear, the cause COIN_JAM clears (R20, R30). -/
def State.lastJamTest (s : State) : State := if s.anyJam then s else s.changeCause .coinJam false

/-! ## Release of the line (R92) -/

/-- Every timer of a seizure stops and a digit send is cut short (R92). -/
def LineUnit.timersStopped (l : LineUnit) : LineUnit :=
  { l with dialToneTimer := none, interdigitTimer := none, digitTimer := none, pauseTimer := none, answerTimer := none,
           timedAnswerTimer := none, clearTimer := none, recallTimer := none }

/-- A take-back that waits for YIELD goes on to wait for the guard (R116). -/
def TakeBack.released : TakeBack → TakeBack
  | .none => .none
  | .yieldWait r => .releaseWait r
  | .releaseWait r => .releaseWait r

/-- The modem stops: nothing sent, nothing waiting, no turnaround (R143, R162). -/
def Modem.silenced (m : Modem) : Modem := ⟨none, [], none, m.looks⟩

/-- The dial buffer after a release of the line: the centre number leaves it with the REPORT or POLL seizure, and a USER
call's digits stay (R92, R103, log entry 37). -/
def LineUnit.bufferReleased (l : LineUnit) : LineUnit :=
  if l.purpose = .report ∨ l.purpose = .poll then l.emptied else l

/-- The line is released: the loop opens, the seizure's timers stop, the 800 ms guard starts, and the modem falls
silent.  A release asked in RELEASING or with the loop at rest changes nothing (R92, R116, R143).  The reference polarity
becomes none at every release (log entry 48). -/
def State.releaseLine (s : State) : State :=
  if s.line.phase.atRest || s.line.phase == .releasing then s
  else
    let unanswered := s.line.phase == .awaitAnswer && s.line.purpose == .user
    let s1 := (s.modLine fun l =>
      { l.bufferReleased.timersStopped with guardTimer := some (s.now + Config.pause), reference := none }).setPhase .releasing
    let s2 := (s1.modModem Modem.silenced).modArbiter fun a =>
      { a with takeBack := a.takeBack.released, yieldTimer := none }
    if unanswered then s2.modRating RatingUnit.unanswered else s2

end Sys2Proof.Machine
end

