-- ==== Sys2Proof/Machine/CreditOps.lean ====
section
/-!
DEFINITION. The operations of the credit unit (chapter 2): announcement of A, totals, collections, takes, settles,
the refund of a session end, and the release queue.
-/

namespace Sys2Proof.Machine

/-- A change of A is announced: CREDIT is raised, the line unit tests a deposit wait again and the rating unit its
warning flag.  An A equal to `before` is not announced (R32). -/
def State.announceFrom (s : State) (before : Nat) : State :=
  if s.available = before then s
  else
    let s1 := (s.raise .credit).recheckDeposit
    s1.modRating fun r => r.credited s1.available

/-- Both sets of totals are changed alike (R41). -/
def State.modTotals (s : State) (f : Totals → Totals) : State := (s.modLifetime f).modPeriod f

/-- The settled count of class `k` rises by one (R33, R41). -/
def bumpCount (counts : Vector Nat 8) (k : Nat) : Vector Nat 8 :=
  Vector.ofFn fun i => if i.val + 1 = k then satAdd Config.totalMax counts[i] 1 else counts[i]

/-- A total raised by an amount (R41). -/
def raiseTotal (t v : Nat) : Nat := satAdd Config.totalMax t v

/-- settled_value and the settled count of a class rise (R33). -/
def Totals.addSettled (t : Totals) (k v : Nat) : Totals :=
  { t with counts := bumpCount t.counts k, settled := raiseTotal t.settled v }

/-- collected_value rises. -/
def Totals.addCollected (t : Totals) (v : Nat) : Totals := { t with collected := raiseTotal t.collected v }

/-- refunded_value rises. -/
def Totals.addRefunded (t : Totals) (v : Nat) : Totals := { t with refunded := raiseTotal t.refunded v }

/-- charged_value rises. -/
def Totals.addCharged (t : Totals) (v : Nat) : Totals := { t with charged := raiseTotal t.charged v }

/-- forfeited_value rises. -/
def Totals.addForfeited (t : Totals) (v : Nat) : Totals := { t with forfeited := raiseTotal t.forfeited v }

/-- A paid call is counted (R71). -/
def Totals.addPaid (t : Totals) : Totals := { t with paidCalls := raiseTotal t.paidCalls 1 }

/-- A free call is counted (R71). -/
def Totals.addFree (t : Totals) : Totals := { t with freeCalls := raiseTotal t.freeCalls 1 }

/-! ## Box count -/

/-- The box count is at least the capacity minus 12 (R39). -/
def State.boxAtThreshold (s : State) : Bool := decide (s.config.boxCapacity - Config.boxMargin ≤ s.call.boxCount)

/-- BOX_NEAR_FULL is evaluated: set and BOX_FULL raised when it goes from clear to set, cleared with no event when
the count is below the threshold (R39). -/
def State.evaluateBox (s : State) : State :=
  if s.boxAtThreshold then
    if s.hasCause .boxNearFull then s
    else (s.changeCause .boxNearFull true).occur .boxFull (.number s.call.boxCount)
  else s.changeCause .boxNearFull false

/-! ## Collections and takes -/

/-- The head escrow record is collected: its value goes to C and collected_value, the box count rises and a BOX
release is appended (R35). -/
def State.collectHead (s : State) : State :=
  match s.call.escrow with
  | [] => s
  | e :: rest =>
    (((s.modCall fun c =>
        { c with escrow := rest, credit := c.credit + e.value, boxCount := c.boxCount + 1,
                 queue := c.queue ++ [⟨e.coinClass, e.value, .box⟩] }).modTotals
      fun t => t.addCollected e.value).markMoneySince s).evaluateBox

/-- Escrow records are collected, one for each record of the list at most, while C is less than `x` (R35). -/
def State.collectFor (s : State) (x : Nat) : List EscrowRecord → State
  | [] => s
  | _ :: rest => if x ≤ s.call.credit then s else s.collectHead.collectFor x rest

/-- Answer to a take request (R35). -/
inductive TakeAnswer where
  | taken | short | noSession
  deriving DecidableEq, Repr

/-- C falls by a charge and charged_value rises by it (R35). -/
def State.chargeCredit (s : State) (x : Nat) : State :=
  ((s.modCall fun c => { c with credit := c.credit - x }).modTotals fun t => t.addCharged x).markMoneySince s

/-- A take request for a charge `x` (R35). -/
def State.take (s : State) (x : Nat) : TakeAnswer × State :=
  if !s.call.sessionOpen then (.noSession, s)
  else if s.available < x then (.short, s)
  else if x = 0 then (.taken, s)
  else (.taken, ((s.collectFor x s.call.escrow).chargeCredit x).announceFrom s.available)

/-! ## Settles -/

/-- The chute mirror without a record (R23). -/
def CreditUnit.withoutRecord (c : CreditUnit) (r : ChuteRecord) : CreditUnit :=
  { c with
    mirrorEscrow := if r.route = .escrow then c.mirrorEscrow - 1 else c.mirrorEscrow
    mirrorSum := if r.mark = .current then c.mirrorSum - r.value else c.mirrorSum }

/-- The chute mirror with a new record, which carries CURRENT (R23). -/
def CreditUnit.withRecord (c : CreditUnit) (r : ChuteRecord) : CreditUnit :=
  { c with
    mirrorEscrow := if r.route = .escrow then c.mirrorEscrow + 1 else c.mirrorEscrow
    mirrorSum := c.mirrorSum + r.value }

/-- The new C when a BOX coin of value `v` settles with mark CURRENT (R34). -/
def CallSection.creditWith (c : CallSection) (v : Nat) : Nat :=
  min (c.credit + v) (Config.creditMax - escrowValue c.escrow)

/-- The money effect of a settle, by route and mark (R33, R34); what BOX_NEAR_FULL makes of it comes after (`State.boxCoin`,
log entry 45). -/
def State.settleMoney (s : State) (r : ChuteRecord) : State :=
  let s0 := s.modTotals fun t => t.addSettled r.coinClass r.value
  match r.route, r.mark with
  | .escrow, .current =>
    s0.modCall fun c => { c with escrow := c.escrow ++ [⟨r.coinClass, r.value, s.now⟩] }
  | .box, .current =>
    (s0.modCall fun c =>
        { c with credit := c.creditWith r.value, boxCount := c.boxCount + 1 }).modTotals
      fun t => (t.addCollected r.value).addForfeited (s.call.credit + r.value - s.call.creditWith r.value)
  | .escrow, .ended =>
    (s0.modCall fun c => { c with queue := c.queue ++ [⟨r.coinClass, r.value, .ret⟩] }).modTotals
      fun t => t.addRefunded r.value
  | .box, .ended =>
    (s0.modCall fun c => { c with boxCount := c.boxCount + 1 }).modTotals
      fun t => (t.addCollected r.value).addForfeited r.value

/-- A coin that went to the cash box evaluates BOX_NEAR_FULL (R33, R39). -/
def State.boxCoin (s : State) (r : ChuteRecord) : State :=
  match r.route with
  | .box => s.evaluateBox
  | .escrow => s

/-- A settle handed over by the coin path (R33): the mirror loses the record, the money effect is made and marked,
BOX_NEAR_FULL evaluated, and A announced if it changed.  A settle that both raises A and sets BOX_NEAR_FULL acts as if
the service change came first (log entry 45). -/
def State.settle (s : State) (r : ChuteRecord) : State :=
  (((((s.modCredit fun c => c.withoutRecord r).settleMoney r).markMoneySince s).boxCoin r).announceFrom s.available)

/-! ## Session end -/

/-- The RETURN releases of held escrow records, oldest first (R37). -/
def refunds (records : List EscrowRecord) : List ReleaseEntry :=
  records.map fun e => ⟨e.coinClass, e.value, .ret⟩

/-- The money effect of a session end: every held record refunded, C forfeited, the session flag CLOSED (R37). -/
def State.refundAndForfeit (s : State) : State :=
  (s.modCall fun c =>
      { c with sessionOpen := false, escrow := [], credit := 0, queue := c.queue ++ refunds c.escrow }).modTotals
    fun t => (s.call.escrow.foldl (fun t e => t.addRefunded e.value) t).addForfeited s.call.credit

/-- The credit unit at the end of a USER session (R23, R37). -/
def State.creditSessionEnd (s : State) : State :=
  (((s.modCredit fun c => { c with mirrorSum := 0 }).refundAndForfeit).markMoneySince s).announceFrom s.available

/-! ## Release queue -/

/-- The head's destination can start: BOX needs the box PRESENT (R27). -/
def State.headCanStart (s : State) : Bool :=
  match s.call.queue with
  | [] => false
  | e :: _ => e.dest == .ret || s.credit.boxPresent

/-- A release starts for the head entry when every condition of R27 holds. -/
def State.startRelease (s : State) : State :=
  if s.isActive && s.credit.inFlight.isNone && !s.credit.releaseJam && s.headCanStart then
    s.modCredit fun c => { c with inFlight := some s.now }
  else s

/-- The head entry leaves the release queue (R26). -/
def State.dropHead (s : State) : State := (s.modCall fun c => { c with queue := c.queue.tail }).markSince s .call

/-- The RELEASE jam clears, with its retry timer, and the last-jam test is made (R30). -/
def State.clearReleaseJam (s : State) : State :=
  if s.credit.releaseJam then
    (s.modCredit fun c => { c with releaseJam := false, retryTimer := none }).lastJamTest
  else s

/-- The release in flight is confirmed: its timer stops, the head leaves the queue and a set jam clears (R28,
R30). -/
def State.confirmRelease (s : State) : State :=
  ((s.modCredit fun c => { c with inFlight := none }).dropHead).clearReleaseJam

/-- Destination of the release in flight, if one is (R28). -/
def State.flightDestination (s : State) : Option Destination :=
  match s.credit.inFlight, s.call.queue with
  | some _, e :: _ => some e.dest
  | _, _ => none

end Sys2Proof.Machine
end

