-- ==== Sys2Proof/Machine/RatingOps.lean ====
section
/-!
DEFINITION. The operations of the rating unit (chapter 4) that do not end the session: pricing, periods and
warning checks.
-/

namespace Sys2Proof.Machine

/-- A class is handed over: the call record starts afresh and D is computed; PRICED (R66). -/
def State.price (s : State) (id : Nat) : State :=
  let t := s.classRecord id
  s.modRating fun r =>
    { r with phase := .priced, tariff := some t, deposit := some (s.depositOf t), periodIndex := 0, nextCharge := none,
             warning := false, charged := 0 }

/-- The step charge of a class at the current week time plus an offset (R73, R78). -/
def State.stepChargeOf (s : State) (t : TariffClass) (offset : Nat) : Nat := s.chargeOf t t.stepCharge offset

/-- A warning check in REVERSAL or TIMED mode (R78). -/
def State.warningCheck (s : State) (t : TariffClass) (offset : Nat) : State :=
  let x := s.stepChargeOf t offset
  let s1 := s.modRating fun r => { r with nextCharge := some x }
  if s.available < x then (s1.modRating fun r => { r with warning := true }).raise .lowCredit else s1

/-- A warning check of a pulse-rated call (R79). -/
def State.pulseCheck (s : State) (t : TariffClass) : State :=
  let x := s.stepChargeOf t 0
  let s1 := s.modRating fun r => { r with nextCharge := some x, warning := decide (s.available < x) }
  if s.available < x ∧ s.rating.warning = false then s1.raise .lowCredit else s1

/-- The warning is armed at the start of a period of `length` seconds (R77). -/
def State.armWarning (s : State) (t : TariffClass) (length : Nat) : State :=
  let w := imageWarningLead s.activeBytes
  if w < length then s.modRating fun r => { r with warningTimer := some (s.now + (length - w) * 1000) }
  else s.warningCheck t length

/-- A period of `length` seconds starts (R72, R77). -/
def State.startPeriod (s : State) (t : TariffClass) (length : Nat) : State :=
  (s.modRating fun r => { r with periodTimer := some (s.now + length * 1000), warningTimer := none }).armWarning t length

/-- A TAKEN charge is added to the call charged total (R65). -/
def State.addCharged (s : State) (x : Nat) : State :=
  s.modRating fun r => { r with charged := satAdd Config.totalMax r.charged x }

/-- The answered call is reported for accounting: a paid or a free call (R71). -/
def State.countCall (s : State) (free : Bool) : State :=
  ((s.modTotals fun t => if free then t.addFree else t.addPaid).markSince s .lifetime).markSince s .period

/-- What follows a TAKEN charge: the period and its warning in REVERSAL and TIMED modes, the warning check of a
pulse-rated call in PULSE mode (R70, R73, R74). -/
def State.afterCharge (s : State) (t : TariffClass) (length : Nat) : State :=
  if s.answerMode = .pulse then s.pulseCheck t else s.startPeriod t length

end Sys2Proof.Machine
end

