-- ==== Sys2Proof/Machine/SessionOps.lean ====
section
/-!
DEFINITION. The end of a USER session across the blocks (R89), what the rating unit does at an answer and at a
step charge, and the sending of digits up to the answer wait.
-/

namespace Sys2Proof.Machine

/-! ## Activation (R54, R55) -/

/-- The slots swap: steps 1 to 4 of R54.  Active present becomes YES and NO_IMAGE clears if it was NO. -/
def State.swapSlots (s : State) : State :=
  let old := s.config.activeSlot
  let s1 := (((s.modConfig fun c =>
      { c with activeSlot := old.other, activePresent := true, activationPending := false }).modImage old
    fun i => { i with loaded := 0 }).markSince s .config).markSince s old.sectionName
  if s.config.activePresent then s1 else s1.changeCause .noImage false

/-- A pending activation is carried out, or dropped when validation fails (R55). -/
def State.runPendingActivation (s : State) : State :=
  if s.config.activationPending then
    match validateImage (s.image s.stagedSlot) with
    | none => s.swapSlots
    | some _ => (s.modConfig fun c => { c with activationPending := false }).mark .config
  else s

/-! ## REPORT request and routine timer (R139) -/

/-- The routine timer follows the oldest ROUTINE PENDING record: set for it and for the routine delay once, and
stopped while there is none (R139, log entry 14). -/
def State.reviewRoutine (s : State) : State :=
  match s.oldestPending .routine with
  | none => s.modCentre fun c => { c with routineTimer := none, routineFor := none, routineReached := false }
  | some r =>
    if s.centre.routineFor = some (r.seq, s.config.routineDelay) then s
    else
      let wait := s.config.routineDelay * 60 - s.age r
      s.modCentre fun c =>
        { c with
          routineFor := some (r.seq, s.config.routineDelay)
          routineTimer := if wait = 0 then none else some (s.now + wait * 1000)
          routineReached := decide (wait = 0) }

/-- The conditions of R139 are tested: the REPORT request is held or withdrawn. -/
def State.reviewReport (s : State) : State :=
  let s1 := s.reviewRoutine
  s1.modArbiter fun a => { a with reportHeld := s1.wantsReport }

/-! ## End of a USER session (R89, R112, R117) -/

/-- The conditions under which a session end arms a forced window (R117). -/
def State.armsWindow (s : State) : Bool :=
  s.config.forcedWindows && s.urgentOverdue && s.arbiter.reportHeld && s.arbiter.spacing.isNone
    && s.arbiter.window == .closed

/-- The line arbiter at a session end: the owner USER and the USER request end, the resume hold-off starts and the
forced window is tested (R109, R110, R112, R114, R117). -/
def State.arbiterSessionEnd (s : State) : State :=
  let s1 := s.modArbiter fun a =>
    { a with owner := if a.owner = .user then .none else a.owner
             userHeld := false, waiting := false, holdOff := some (s.now + Config.resumeHoldOff) }
  let s2 := s1.reviewReport
  if s2.armsWindow then s2.modArbiter fun a => { a with window := .armed, parkedReport := true } else s2

/-- The chute records take the mark ENDED (R16). -/
def CoinPath.markEnded (c : CoinPath) : CoinPath :=
  { c with chute := c.chute.map fun r => { r with mark := .ended } }

/-- Session state after an end: NONE at on-hook and at a power return, else SPENT while the handset is lifted
(R88, R107). -/
def LineUnit.stateAfter (l : LineUnit) (r : EndReason) : SessionState :=
  if r = .hook ∨ r = .power then .none
  else match l.hook with
    | .offHook => .spent
    | .onHook => .none

/-- The line unit's own part of a session end (R89): the release of a USER seizure, then the buffer, the purpose
and the session state. -/
def State.lineSessionEnd (s : State) (reason : EndReason) : State :=
  let s1 := if s.line.purpose = .user then
      s.releaseLine.modLine fun l => { l.timersStopped.emptied with purpose := .none, reference := none }
    else s
  (s1.modLine fun l =>
    { l with abandonTimer := none, session := l.stateAfter reason, lastEnd := some reason }).raise .callPhase

/-- A USER session ends (R89).  The line unit acts first, then tells the credit unit, the coin path, the rating
unit, the tariff store and the line arbiter, in that order. -/
def State.sessionEnd (s : State) (reason : EndReason) : State :=
  (((((s.lineSessionEnd reason).creditSessionEnd).modCoin CoinPath.markEnded).modRating
    RatingUnit.ended).runPendingActivation).arbiterSessionEnd

/-! ## Charges of a call -/

/-- The credit cut (R75): the rating unit stops, the line unit releases and ends the session with reason CREDIT. -/
def State.cut (s : State) : State :=
  (s.modRating fun r => { r.quieted with phase := .stopped }).sessionEnd .credit

/-- The answer of a call reported to the rating unit (R70, R81). -/
def State.ratingAnswer (s : State) : State :=
  match s.rating.phase, s.rating.tariff with
  | .priced, some t =>
    if t.id = 0 then
      (s.modRating fun r => { r with phase := .running, deposit := none }).countCall true
    else
      let x := s.chargeOf t t.initialCharge 0
      match s.take x with
      | (.taken, s1) =>
        (((s1.modRating fun r =>
            { r with phase := .running, deposit := none, periodIndex := 0 }).addCharged x).afterCharge t
          t.initialPeriod).countCall false
      | (.short, s1) => (s1.modRating fun r => { r with deposit := none }).cut
      | (.noSession, s1) => s1.modRating fun r => { r with phase := .idle, tariff := none, deposit := none }
  | _, _ => s

/-- A step charge of a RUNNING call of class other than 0 (R73, R74). -/
def State.stepCharge (s : State) : State :=
  match s.rating.phase, s.rating.tariff with
  | .running, some t =>
    if t.id = 0 then s
    else
      let s0 := s.modRating fun r => { r with periodIndex := satAdd Config.periodIndexMax r.periodIndex 1 }
      let x := s0.stepChargeOf t 0
      match s0.take x with
      | (.taken, s1) =>
        let s2 := s1.addCharged x
        if s2.answerMode = .pulse then s2.pulseCheck t
        else (s2.modRating fun r => { r with warning := false }).startPeriod t t.stepPeriod
      | (.short, s1) => s1.cut
      | (.noSession, s1) => s1.modRating RatingUnit.ended
  | _, _ => s

/-! ## Answer wait (R99) -/

/-- Answer of a USER call: CONNECTED, the answer timers and the abandonment timer stop, the rating unit is told
(R99). -/
def State.answerCall (s : State) : State :=
  ((s.modLine fun l =>
    { l with answerTimer := none, timedAnswerTimer := none, abandonTimer := none }).setPhase .connected).ratingAnswer

/-- The line polarity differs from the reference polarity (R99). -/
def LineUnit.reversed (l : LineUnit) : Bool :=
  match l.reference with
  | some p => l.polarity != p
  | none => false

/-- Entry to AWAIT_ANSWER for a USER call: the answer timer, and by mode the timed-answer delay or an answer
already present (R99). -/
def State.awaitUserAnswer (s : State) : State :=
  let m := s.answerMode
  let s1 := (s.modLine fun l =>
    { l with
      pauseTimer := none
      answerMode := m
      answerTimer := some (s.now + Config.answerWait)
      timedAnswerTimer := if m = .timed then some (s.now + s.answerDelay * 1000) else none }).setPhase .awaitAnswer
  if m = .reversal ∧ s1.line.reversed = true then s1.answerCall else s1

/-- The centre link enters AWAIT_GREET with its timer (R149). -/
def CentreLink.awaitGreet (c : CentreLink) (ends : Nat) : CentreLink :=
  { c with phase := .awaitGreet, phaseTimer := some ends }

/-- A placed session's line turns to DATA and the centre link enters AWAIT_GREET; nothing more when the centre
link no longer waits for it (R103, R148). -/
def State.enterData (s : State) (wait : Nat) : State :=
  (s.setPhase .data).modCentre fun c =>
    if c.phase = .dial ∨ c.phase = .awaitAnswer then c.awaitGreet (s.now + wait) else c

/-- The last digit of the centre number has completed (R103, R148). -/
def State.awaitCentre (s : State) : State :=
  let m := s.answerMode
  let s1 := s.modLine fun l => { l with pauseTimer := none, answerMode := m }
  if m = .reversal then
    let s2 := (s1.setPhase .awaitAnswer).modCentre fun c =>
      if c.phase = .dial then { c with phase := .awaitAnswer, phaseTimer := some (s.now + Config.centreLongWait) } else c
    if s2.line.reversed then s2.enterData Config.centreGreetWait else s2
  else s1.enterData Config.centreLongWait

/-- Sending has ended: end of dialling reached, cursor at the length of the buffer, no digit in progress (R98). -/
def LineUnit.sendingEnded (l : LineUnit) : Bool :=
  l.endOfDialling && decide (l.buffer.length ≤ l.cursor) && l.digitTimer.isNone

/-- In DIALLING, the answer wait starts when sending has ended (R98, R103). -/
def State.checkSent (s : State) : State :=
  if s.line.phase == .dialling && s.line.sendingEnded then
    if s.line.purpose = .report then s.awaitCentre else s.awaitUserAnswer
  else s

/-! ## Resolution of the dial buffer (R94) -/

/-- What a digit's taking leads to: taken, or the buffer refused (R94, R179). -/
def State.resolveBuffer (s : State) (a : Answer) : Option RefusalReason × State :=
  match a with
  | .waiting => (none, s)
  | .unknown => (some .service, s.refuseBuffer .service)
  | .resolved id =>
    let t := s.classRecord id
    if t.barred then (some .barred, s.refuseBuffer .barred)
    else if id ≠ 0 ∧ s.serviceState ≠ .inService then (some .service, s.refuseBuffer .service)
    else
      let d := s.depositOf t
      let s1 := s.price id
      if s1.available < d then
        (none, (s1.modLine fun l => { l with resolution := .waitingDeposit id d }).raiseDeposit d)
      else (none, (s1.modLine fun l => { l with resolution := .resolved id }).startDialOut)

/-- End of dialling is reached (R98): the interdigit timer stops, an unresolved buffer gets its final answer in
READY, and in DIALLING the answer wait may start. -/
def State.reachEnd (s : State) : Option RefusalReason × State :=
  let s1 := s.modLine fun l => { l with endOfDialling := true, interdigitTimer := none }
  if s1.line.phase = .ready ∧ s1.line.resolution = .unresolved then s1.resolveBuffer (s1.resolveFinal s1.line.buffer)
  else (none, s1.checkSent)

end Sys2Proof.Machine
end

