-- ==== Sys2Proof/Machine/CentreOps.lean ====
section
/-!
DEFINITION. The operations of the centre link and its modem (chapter 8): frames and their numbers, resends, the
upload, the end of a session by completion, failure or suspension, and the reply to a command.
-/

namespace Sys2Proof.Machine

/-! ## Frame types of the part (section 12.4) -/

/-- HELLO. -/
def typeHello : Byte := 0x11
/-- EVENT. -/
def typeEvent : Byte := 0x13
/-- DONE. -/
def typeDone : Byte := 0x14
/-- REJECT. -/
def typeReject : Byte := 0x15
/-- YIELD. -/
def typeYield : Byte := 0x16
/-- RESULT. -/
def typeResult : Byte := 0x30
/-- AUDIT. -/
def typeAudit : Byte := 0x31
/-- QUEUE_DATA. -/
def typeQueueData : Byte := 0x32

/-- The frame is a reply to a command (R154). -/
def Frame.isReply (f : Frame) : Bool := f.ftype == typeResult || f.ftype == typeAudit || f.ftype == typeQueueData

/-- Reasons of REJECT (section 12.4). -/
inductive RejectCode where
  | badFrame | unexpected
  deriving DecidableEq, Repr

/-- Payload of a REJECT (section 12.4). -/
def RejectCode.bytes : RejectCode → List Byte
  | .badFrame => [0]
  | .unexpected => [1]

/-- Results of a command (R154, section 12.4). -/
inductive CommandResult where
  | ok | cancelled | pending | invalid (f : ValidationFailure) | range
  deriving DecidableEq, Repr

/-- Payload of a RESULT (section 12.4). -/
def CommandResult.bytes : CommandResult → List Byte
  | .ok => [0, 0]
  | .cancelled => [1, 0]
  | .pending => [2, 0]
  | .invalid f => [3, byteOf f.code]
  | .range => [4, 0]

/-! ## Sending (R146) -/

/-- The first waiting frame starts, if the part is not sending, the turnaround has passed and no centre carrier is
present.  Whether one is present at this look is a free value (R146, log entry 55). -/
def Modem.startNext (m : Modem) : Modem :=
  match m.waiting with
  | [] => m
  | f :: rest =>
    if m.sending.isNone ∧ m.turnaround.isNone then
      if Config.carrierPresent m.looks then { m with looks := m.looks + 1 }
      else { m with sending := some f, waiting := rest, looks := m.looks + 1 }
    else m

/-- A frame is ready to be sent: it goes as soon as the frames before it and the rule of R146 let it. -/
def Modem.enqueue (m : Modem) (f : Frame) : Modem :=
  ({ m with waiting := m.waiting ++ [f] } : Modem).startNext

/-- A frame is sent, or sent again, with the number and contents it has (R146). -/
def State.sendFrame (s : State) (f : Frame) : State := s.modModem fun m => m.enqueue f

/-- A new frame with the next own frame number (R146). -/
def State.newFrame (s : State) (ftype : Byte) (payload : List Byte) : Frame := ⟨ftype, s.centre.ownFrame, payload⟩

/-- A new frame is sent and the own frame number rises by one, from 255 to 0 (R146). -/
def State.sendNew (s : State) (ftype : Byte) (payload : List Byte) : State :=
  (s.sendFrame (s.newFrame ftype payload)).modCentre fun c => { c with ownFrame := c.ownFrame + 1 }

/-- A REJECT is sent; it changes neither the record in flight, the resend count nor the last reply (R147). -/
def State.sendReject (s : State) (r : RejectCode) : State := s.sendNew typeReject r.bytes

/-- A new frame is sent that waits for acknowledgement (R150, R152). -/
def State.sendAwaited (s : State) (ftype : Byte) (payload : List Byte) : State :=
  (s.sendNew ftype payload).modCentre fun c => { c with awaited := some (s.newFrame ftype payload) }

/-- A new frame is sent and becomes the last reply (R153, R154). -/
def State.sendReply (s : State) (ftype : Byte) (payload : List Byte) : State :=
  (s.sendNew ftype payload).modCentre fun c => { c with lastReply := some (s.newFrame ftype payload) }

/-- The last reply is sent again, or nothing when there is none (R147, R154). -/
def State.resendReply (s : State) : State :=
  match s.centre.lastReply with
  | some f => s.sendFrame f
  | none => s

/-! ## Receiving (R143, R147, R154) -/

/-- The receiver is active: the line phase is DATA and the part is not sending (R143). -/
def State.hears (s : State) : Bool := s.running && s.line.phase == .data && s.modem.sending.isNone

/-- A frame has been received, valid or discarded: the turnaround starts (R146), and a valid frame restarts the
idle timer in CENTRE_TURN (R154). -/
def State.received (s : State) (valid : Bool) : State :=
  (s.modModem fun m => { m with turnaround := some (s.now + Config.turnaround) }).modCentre fun c =>
    if valid ∧ c.phase = .centreTurn then { c with idleTimer := some (s.now + Config.centreIdle) } else c

/-- The answer to a discarded frame (R147). -/
def State.answerDiscarded (s : State) : State :=
  if s.centre.phase = .centreTurn then s.sendReject .badFrame else s

/-- The answer to a valid frame of a type the phase does not take (R147). -/
def State.answerUnexpected (s : State) : State :=
  match s.centre.phase with
  | .awaitGreet => s.sendReject .unexpected
  | .ident => s.sendReject .unexpected
  | .upload => s.sendReject .unexpected
  | .centreTurn => s.sendReject .unexpected
  | .idle => s
  | .dial => s
  | .awaitAnswer => s
  | .closing => s
  | .suspended => s

/-! ## Failure (R141, R159) -/

/-- The record in flight is given back to the queue as PENDING (R133, R159, R160). -/
def State.returnRecord (s : State) : State :=
  match s.centre.inFlight with
  | some seq => (s.changeRecord seq EventRecord.giveBack).modCentre fun c => { c with inFlight := none }
  | none => s

/-- The count and the backoff after a failed session: only a PLACED one counts (R141). -/
def CentreLink.countFailure (c : CentreLink) (now : Nat) : CentreLink :=
  if c.kind = .placed then
    { c with
      attempts := min (c.attempts + 1) Config.byteMax
      backoff := some (now + Config.backoff (min (c.attempts + 1) Config.byteMax)) }
  else c

/-- The session has ended: IDLE with no kind, the phase's timer stopped, nothing awaited and no resend counted (R158,
R159, R160). -/
def CentreLink.sessionOver (c : CentreLink) : CentreLink :=
  { c with phase := .idle, kind := .none, phaseTimer := none, idleTimer := none, awaited := none, resends := 0 }

/-- The session fails (R159). -/
def State.failSession (s : State) : State :=
  ((s.returnRecord).modCentre fun c => (c.countFailure s.now).sessionOver).releaseLine

/-! ## Identification and upload (R150 to R153) -/

/-- Entry to IDENT: HELLO is sent (R149, R150). -/
def State.enterIdent (s : State) : State :=
  (s.modCentre fun c => { c with phase := .ident, phaseTimer := none }).sendAwaited typeHello s.helloBytes

/-- The frame that waits for acknowledgement is sent again, or the session fails when two resends have been made, whether
the timer, a REJECT or a second GREET asks for the third (R150, R152, log entry 50).  The phase timer stops as the resend is
made, at a REJECT or a second GREET too (log entry 62). -/
def State.resendAwaited (s : State) : State :=
  if s.centre.resends < Config.resendMax then
    let s1 := s.modCentre fun c => { c with resends := c.resends + 1, phaseTimer := none }
    match s.centre.awaited with
    | some f => s1.sendFrame f
    | none => s1
  else s.failSession

/-- The upload is complete: DONE is sent and the centre has its turn (R141, R142, R153). -/
def State.completeUpload (s : State) : State :=
  (s.modCentre fun c =>
    { c with uploadDone := true, attempts := 0, backoff := none, dailyDue := false, resume := false,
             phase := .centreTurn, phaseTimer := none, awaited := none }).sendReply typeDone []

/-- The next record to send: the oldest URGENT one PENDING, else the oldest ROUTINE one (R151). -/
def State.nextRecord (s : State) : Option EventRecord :=
  match s.oldestPending .urgent with
  | some r => some r
  | none => s.oldestPending .routine

/-- The selection of R151: the next record is sent, or the upload is complete. -/
def State.selectNext (s : State) : State :=
  match s.nextRecord with
  | some r =>
    ((s.changeRecord r.seq EventRecord.send).modCentre fun c =>
      { c with inFlight := some r.seq, resends := 0, phaseTimer := none }).sendAwaited typeEvent r.send.encode
  | none => s.completeUpload

/-- HELLO is acknowledged (R150). -/
def State.acknowledgeHello (s : State) : State :=
  (s.modCentre fun c => { c with phase := .upload, phaseTimer := none, resends := 0, awaited := none }).selectNext

/-- The record in flight is acknowledged (R152). -/
def State.acknowledgeRecord (s : State) (seq : BitVec 16) : State :=
  ((s.changeRecord seq EventRecord.acknowledge).modCentre fun c =>
    { c with inFlight := none, phaseTimer := none, awaited := none, lastAcked := some seq }).selectNext

/-! ## Suspension (R160) -/

/-- The centre link's own part of a suspension: every timer of the session stops and the resume flag is set unless
the upload is complete (R160). -/
def CentreLink.suspended (c : CentreLink) : CentreLink :=
  { c with phase := .suspended, phaseTimer := none, idleTimer := none, awaited := none,
           resume := c.resume || !c.uploadDone }

/-- What the modem was sending or had waiting is dropped, and YIELD is sent, if the line is in DATA (R160). -/
def State.sendYield (s : State) : State :=
  if s.line.phase = .data then
    (s.modModem fun m => { m with sending := none, waiting := [] }).sendNew typeYield []
  else s

/-- A session is suspended; in IDLE or SUSPENDED nothing changes (R160). -/
def State.suspend (s : State) : State :=
  if s.centre.phase = .idle ∨ s.centre.phase = .suspended then s
  else ((s.returnRecord).modCentre CentreLink.suspended).sendYield

/-! ## Grant of a session (R140) -/

/-- What a grant clears (R140). -/
def CentreLink.granted (c : CentreLink) : CentreLink :=
  { c with phaseTimer := none, idleTimer := none, resends := 0, inFlight := none, lastCommand := none, lastReply := none,
           uploadDone := false, ownFrame := 0, awaited := none, lastAcked := none, resetYield := none }

/-- Reason of a placed session (R140). -/
def State.placedReason (s : State) : ReportReason :=
  if s.centre.resume then .resume
  else if (s.oldestPending .urgent).isSome then .urgent
  else if s.centre.dailyDue then .daily
  else .routine

/-- The centre link at a REPORT grant (R140, R148). -/
def State.placeSession (s : State) : State :=
  s.modCentre fun c =>
    { c.granted with phase := .dial, kind := .placed, reason := some s.placedReason, number := s.config.centreNumber }

/-- The centre link at a POLL grant (R140, R149). -/
def State.answerSession (s : State) : State :=
  s.modCentre fun c =>
    { c.granted with phase := .awaitGreet, kind := .answered, reason := some .poll,
                     phaseTimer := some (s.now + Config.centreGreetWait) }

/-! ## Ends of a session -/

/-- A far-end clear in DATA: a failure before the centre turn, an end of the session in it, and the line released (R103, R158,
R159).  In CLOSING with the line still in DATA, where END's RESULT is not yet sent, the centre link is left as it is and the
line is released at once, so that the waiting RESULT is dropped (log entry 60). -/
def State.dataCleared (s : State) : State :=
  match s.centre.phase with
  | .awaitGreet => s.failSession
  | .ident => s.failSession
  | .upload => s.failSession
  | .centreTurn => (s.modCentre fun c => { c with phase := .closing, idleTimer := none }).releaseLine
  | .idle => s.releaseLine
  | .dial => s.releaseLine
  | .awaitAnswer => s.releaseLine
  | .closing => s.releaseLine
  | .suspended => s.releaseLine

/-- The centre link at the end of the guard that follows its seizure (R158, R160, R163). -/
def CentreLink.guardEnded (c : CentreLink) : CentreLink :=
  { c.sessionOver with reason := none, lastCommand := none, lastReply := none, resetYield := none }

/-- What a sent frame starts (R146, R150, R152, R153, R154, R158, R160). -/
def State.frameSentEffect (s : State) (f : Frame) : State :=
  match s.centre.phase with
  | .ident =>
    if s.centre.awaited = some f then
      s.modCentre fun c => { c with phaseTimer := some (s.now + Config.centreAckWait) }
    else s
  | .upload =>
    if s.centre.awaited = some f then
      s.modCentre fun c => { c with phaseTimer := some (s.now + Config.centreAckWait) }
    else s
  | .centreTurn => s.modCentre fun c => { c with idleTimer := some (s.now + Config.centreIdle) }
  | .closing => if s.centre.lastReply = some f then s.releaseLine else s
  | .suspended => if f.ftype = typeYield then s.releaseLine.modCentre fun c => { c with resetYield := none } else s
  | .idle => s
  | .dial => s
  | .awaitAnswer => s
  | .awaitGreet => s

/-! ## Commands (R154) -/

/-- The command with this frame number is a command sent twice (R154). -/
def State.sentTwice (s : State) (number : Byte) : Bool := s.centre.lastCommand == some number

/-- A reply to an earlier command still waits to be sent (R154). -/
def State.replyWaits (s : State) : Bool := s.modem.waiting.any Frame.isReply

/-- The reply to a command: the frame sent becomes the last reply, and the command's number the last command frame
number (R154). -/
def State.reply (s : State) (number ftype : Byte) (payload : List Byte) : State :=
  (s.sendReply ftype payload).modCentre fun c => { c with lastCommand := some number }

/-- The reply RESULT to a command (R154). -/
def State.replyResult (s : State) (number : Byte) (r : CommandResult) : State := s.reply number typeResult r.bytes

/-- A frame whose payload is longer than 80 bytes is discarded (R144). -/
def fits (payload : List Byte) : Bool := decide (payload.length ≤ Config.framePayloadMax)

/-- A frame from the centre: heard or not, discarded or valid, and a valid one handed to `valid` (R143, R144,
R147). -/
def State.hear (s : State) (payload : List Byte) (valid : State → State) : State :=
  if fits payload then valid (s.received true) else (s.received false).answerDiscarded

/-- A command frame in the phase in progress: outside CENTRE_TURN it is of a type the phase does not take; in it, it
is not taken while a reply waits, answered again when sent twice, and carried out by `carryOut` otherwise (R147,
R154). -/
def State.command (s : State) (number : Byte) (carryOut : State → State) : State :=
  if s.centre.phase ≠ .centreTurn then s.answerUnexpected
  else if s.replyWaits then s
  else if s.sentTwice number then s.resendReply
  else carryOut s

end Sys2Proof.Machine
end

