-- ==== Sys2Proof/Machine/ArbiterOps.lean ====
section
/-!
DEFINITION. The operations of the line arbiter (chapter 6): grants, the take-back of the line, and what a USER request
finds.
-/

namespace Sys2Proof.Machine

/-- The loop closes and dial tone is awaited for 3 s (R91). -/
def State.seize (s : State) : State :=
  (s.modLine fun l => { l with dialToneTimer := some (s.now + Config.dialTone) }).setPhase .seizing

/-- A USER grant: the request and its waiting mark end, the dial buffer is empty, and the line is seized unless
LINE_FAULT leaves the loop open (R91, R106, R110, R112, R118). -/
def State.grantUser (s : State) : State :=
  let s1 := (s.modArbiter fun a => { a with owner := .user, userHeld := false, waiting := false }).modLine fun l =>
    { l.emptied with purpose := .user }
  if s1.hasCause .lineFault && s1.line.phase == .idle then s1 else s1.seize

/-- A POLL grant: the loop closes in DATA with the polarity of that moment as reference, the rings are forgotten and
the centre link starts its answered session (R104, R109, R110, R113). -/
def State.grantPoll (s : State) : State :=
  ((((s.modArbiter fun a => { a with owner := .poll, pollHeld := false }).modLine fun l =>
      { l with purpose := .poll, ringCount := 0, silenceTimer := none, reference := some l.polarity,
               answerMode := s.answerMode }).setPhase .data).answerSession).raise .reportActive

/-- A REPORT grant: the line is seized and the centre link's placed session has it (R103, R109, R113). -/
def State.grantReport (s : State) : State :=
  ((((s.modArbiter fun a => { a with owner := .report }).modLine fun l => { l with purpose := .report }).seize).placeSession).raise
    .reportActive

/-- A forced window opens at its REPORT grant: the parked grant is USER again, both timers start, and a USER request
already held takes its waiting mark (R118). -/
def State.openWindow (s : State) : State :=
  let s1 := s.modArbiter fun a =>
    { a with window := .opened, parkedReport := false, windowTimer := some (s.now + Config.windowTime),
             spacing := some (s.now + Config.windowSpacing), waiting := a.waiting || a.userHeld }
  if s.arbiter.userHeld then s1.raise .lineWait else s1

/-- Step 1 of R111 with the REPORT request not held: the parked grant returns to USER and the window closes. -/
def State.fallBack (s : State) : State :=
  if s.arbiter.parkedReport && !s.arbiter.reportHeld then
    s.modArbiter fun a => { a with parkedReport := false, window := .closed }
  else s

/-- Steps 1 to 4 of R111 for a free line.  REPORT is not granted in RING_IN. -/
def State.firstGrant (s : State) : State :=
  if s.arbiter.parkedReport && s.line.phase == .idle then s.grantReport.openWindow
  else if s.arbiter.userHeld then s.grantUser
  else if s.arbiter.pollHeld then s.grantPoll
  else if s.arbiter.reportHeld && s.arbiter.holdOff.isNone && s.line.phase == .idle then s.grantReport
  else s

/-- The grants of R111, applied whenever the line is free. -/
def State.applyGrants (s : State) : State := if s.lineFree then s.fallBack.firstGrant else s

/-- The line is taken back from REPORT or POLL with a reason: the centre link suspends, and the release waits for
YIELD in DATA, for the running guard in RELEASING, and is asked at once elsewhere (R115, R118). -/
def State.takeLineBack (s : State) (r : TakeReason) : State :=
  let s1 := s.suspend
  if s.line.phase = .data then
    s1.modArbiter fun a => { a with takeBack := .yieldWait r, yieldTimer := some (s.now + Config.yieldLimit) }
  else
    (s1.modArbiter fun a => { a with takeBack := .releaseWait r, yieldTimer := none }).releaseLine

/-- A POLL request becomes held; one that arrives while POLL owns the line changes nothing (R110). -/
def LineArbiter.requestPoll (a : LineArbiter) : LineArbiter := if a.owner = .poll then a else { a with pollHeld := true }

/-- REPORT or POLL owns the line. -/
def LineArbiter.centreOwns (a : LineArbiter) : Bool := a.owner == .report || a.owner == .poll

/-- A USER request becomes held: it waits behind an open forced window, preempts an ordinary REPORT or POLL, and
otherwise is left to the grants; one that arrives while USER owns the line changes nothing (R110, R111, R115, R118). -/
def State.requestUser (s : State) : State :=
  let s1 := s.modArbiter fun a => { a with userHeld := true }
  if s.arbiter.owner = .user then s
  else if s.arbiter.centreOwns && s.arbiter.takeBack == .none then
    if s.arbiter.window = .opened then (s1.modArbiter fun a => { a with waiting := true }).raise .lineWait
    else s1.takeLineBack .preempt
  else s1

/-- The arbiter at the end of the guard that followed a REPORT or POLL seizure (R109, R113, R116, R118). -/
def LineArbiter.guardEnded (a : LineArbiter) : LineArbiter :=
  { a with
    owner := .none
    takeBack := .none
    yieldTimer := none
    window := if a.window = .opened then .closed else a.window
    windowTimer := if a.window = .opened then none else a.windowTimer }

/-- An OPEN forced window becomes CLOSED, and its timer stops (R118, R119). -/
def LineArbiter.windowClosed (a : LineArbiter) : LineArbiter :=
  { a with
    window := if a.window = .opened then .closed else a.window
    windowTimer := if a.window = .opened then none else a.windowTimer }

/-- The arbiter and the centre link at a set-processor reset: a running centre session is taken back with reason
RESET, and a take-back already under way stays as it is (R119, R160). -/
def State.resetCentre (s : State) : State :=
  if s.centre.phase = .idle ∨ s.arbiter.takeBack ≠ .none then s
  else
    let s1 := s.suspend.modArbiter fun a => { a with takeBack := .releaseWait .reset, yieldTimer := none }
    if s.line.phase = .data then s1.modCentre fun c => { c with resetYield := some (s.now + Config.yieldLimit) }
    else s1.releaseLine

/-- What a set-processor reset that finds a session leaves at its start value: the dial buffer, the resend count, an OPEN
forced window and the yield limit timer (the reset columns of R108, R119 and R163, log entry 43). -/
def State.resetCalls (s : State) : State :=
  ((s.modLine LineUnit.emptied).modCentre fun c => { c with resends := 0 }).modArbiter fun a =>
    { a.windowClosed with yieldTimer := none }

end Sys2Proof.Machine
end

