-- ==== Sys2Proof/Machine/TamperOps.lean ====
section
/-!
DEFINITION. The operations of the tamper monitor (chapter 7): edges of the housing inputs, the collector exemption, and
the opening and end of a collector session as it sees them.
-/

namespace Sys2Proof.Machine

/-- The input that a qualified door or cord switch is. -/
def doorInput : DoorInput → Input
  | .coinDoor => .coinDoor
  | .upperDoor => .upperDoor
  | .cord => .cord

/-- The event pair of an input (R122, R124). -/
def Input.pair : Input → EventPair
  | .coinDoor => .doorCoin
  | .upperDoor => .doorUpper
  | .cord => .cord
  | .shock => .shock
  | .box => .boxAbsent

/-- An input is enabled (R121). -/
def State.enabled (s : State) (i : Input) : Bool := maskHas s.config.enables i.index

/-- Place of a switch input in the edge selects (R121); SHOCK has none. -/
def Input.edgeIndex : Input → Fin 4
  | .coinDoor => 0
  | .upperDoor => 1
  | .cord => 2
  | .shock => 2
  | .box => 3

/-- An edge select names an edge to a level (R121, R122). -/
def EdgeSelect.names (e : EdgeSelect) (l : Level) : Bool :=
  match e with
  | .opened => l == .opened
  | .closed => l == .closed
  | .both => true

/-- A qualified edge of a switch input: the latch, and the occurrence when the input is enabled and its edge select
names the edge (R122). -/
def State.takeEdge (s : State) (i : Input) (l : Level) : State :=
  let s1 := s.setLatch i
  if s.enabled i && (s.config.edges.get i.edgeIndex).names l then s1.occur i.pair .absent else s1

/-- A qualified edge of an input that the collector exemption covers: nothing while a collector session is open
(R126). -/
def State.takeExemptEdge (s : State) (i : Input) (l : Level) : State :=
  if s.tamper.collectorOpen then s else s.takeEdge i l

/-- Level of a switch input. -/
def Tamper.switch (t : Tamper) : DoorInput → SwitchState
  | .coinDoor => t.coinDoor
  | .upperDoor => t.upperDoor
  | .cord => t.cord

/-- A switch input takes a qualified level (R120). -/
def Tamper.setSwitch (t : Tamper) (i : DoorInput) (l : Level) : Tamper :=
  match i with
  | .coinDoor => { t with coinDoor := ⟨l, true⟩ }
  | .upperDoor => { t with upperDoor := ⟨l, true⟩ }
  | .cord => { t with cord := ⟨l, true⟩ }

/-- The CORD's own effect at an OPEN edge: CORD_CUT, the restore timer stopped, and an OPEN session ended (R125). -/
def State.cordOpened (s : State) : State :=
  let s1 := (s.changeCause .cordCut true).modTamper fun t => { t with cordRestore := none }
  if s1.line.session = .opened then s1.sessionEnd .cord else s1

/-- The CORD's own effect at a CLOSE edge: the restore timer starts (R125). -/
def State.cordClosed (s : State) : State :=
  s.modTamper fun t => { t with cordRestore := some (s.now + Config.cordRestore) }

/-- The swap tracker follows a BOX edge during a collector session (R126). -/
def Tamper.followBox (t : Tamper) (l : Level) : Tamper :=
  if t.collectorOpen then
    match l with
    | .opened => { t with swapRemoved := true }
    | .closed => if t.swapRemoved then { t with swapRemoved := false, swapObserved := true } else t
  else t

/-- A collector session opens (R126). -/
def Tamper.collectorOpens (t : Tamper) : Tamper :=
  { t with collectorOpen := true, swapRemoved := false, swapObserved := false }

/-- A collector session ends: a coin door or box left open is taken as opened now (R127). -/
def State.collectorEnds (s : State) : State :=
  let s1 := s.modTamper fun t => { t with collectorOpen := false, swapRemoved := false }
  let s2 := if s1.tamper.coinDoor.level = .opened then s1.takeEdge .coinDoor .opened else s1
  if s2.tamper.box.level = .opened then s2.takeEdge .box .opened else s2

end Sys2Proof.Machine
end

