-- ==== Sys2Proof/Machine/LedgerOps.lean ====
section
/-!
DEFINITION. The ledger store's writes and reads of nonvolatile memory (R164 to R168).
-/

namespace Sys2Proof.Machine

/-- Write time of a section in ms (R164). -/
def Section.writeTime : Section → Nat
  | .config => 8
  | .image0 => 30
  | .image1 => 30
  | .lifetime => 6
  | .period => 6
  | .history => 6
  | .call => 6
  | .events => 6

/-- A slot of a two-slot section. -/
def TwoSlot.slot {α : Type} (t : TwoSlot α) : SlotId → NvSlot α
  | .slot0 => t.slot0
  | .slot1 => t.slot1

/-- A two-slot section with one slot replaced. -/
def TwoSlot.put {α : Type} (t : TwoSlot α) (i : SlotId) (n : NvSlot α) : TwoSlot α :=
  match i with
  | .slot0 => { t with slot0 := n }
  | .slot1 => { t with slot1 := n }

/-- Of two valid slots, the one whose copy is taken, by their generations (R165). -/
def newerOf (g0 g1 : BitVec 16) : SlotId :=
  if g0 = g1 then .slot0
  else if g0 = g1 + 1 then .slot0
  else if g1 = g0 + 1 then .slot1
  else if g1.toNat < g0.toNat then .slot0
  else .slot1

/-- A slot is valid when its check matches its generation and contents, whose bytes `bytes` gives (R165). -/
def NvSlot.valid {α : Type} (bytes : α → List Byte) (n : NvSlot α) : Bool :=
  n.check == some (slotCheck n.generation (bytes n.contents))

/-- The slot that holds the newest valid copy, none when the section is lost (R165). -/
def TwoSlot.newest {α : Type} (bytes : α → List Byte) (t : TwoSlot α) : Option SlotId :=
  match t.slot0.valid bytes, t.slot1.valid bytes with
  | true, false => some .slot0
  | false, true => some .slot1
  | true, true => some (newerOf t.slot0.generation t.slot1.generation)
  | false, false => none

/-- The newest valid copy (R165). -/
def TwoSlot.restored {α : Type} (bytes : α → List Byte) (t : TwoSlot α) : Option α :=
  (t.newest bytes).map fun i => (t.slot i).contents

/-- The slot that the next write goes to: the one without the newest valid copy, or slot 0 (R165). -/
def TwoSlot.target {α : Type} (bytes : α → List Byte) (t : TwoSlot α) : SlotId :=
  match t.newest bytes with
  | some i => i.other
  | none => .slot0

/-- The generation of the next write: one above the newest valid copy's, or 0 (R165). -/
def TwoSlot.nextGeneration {α : Type} (bytes : α → List Byte) (t : TwoSlot α) : BitVec 16 :=
  match t.newest bytes with
  | some i => (t.slot i).generation + 1
  | none => 0

/-- A write starts: its slot takes the captured contents and the next generation, and has no check (R165). -/
def TwoSlot.startWrite {α : Type} (bytes : α → List Byte) (t : TwoSlot α) (contents : α) : TwoSlot α :=
  t.put (t.target bytes) ⟨t.nextGeneration bytes, contents, none⟩

/-- A slot takes the check over its generation and contents. -/
def NvSlot.sealed {α : Type} (bytes : α → List Byte) (n : NvSlot α) : NvSlot α :=
  { n with check := some (slotCheck n.generation (bytes n.contents)) }

/-- A write completes: its slot takes its check and is valid (R165). -/
def TwoSlot.endWrite {α : Type} (bytes : α → List Byte) (t : TwoSlot α) (i : SlotId) : TwoSlot α :=
  t.put i ((t.slot i).sealed bytes)

/-- An image section is valid when its check matches (R166). -/
def NvImage.valid (n : NvImage) : Bool := n.check == some n.contents.check

/-- A write of an image section completes: the section takes its check (R166). -/
def NvImage.sealed (n : NvImage) : NvImage := { n with check := some n.contents.check }

/-- The slot that a write of a section goes to; an image section has one (R165, R166). -/
def Nonvolatile.target (n : Nonvolatile) : Section → SlotId
  | .config => n.config.target ConfigSection.encode
  | .image0 => .slot0
  | .image1 => .slot0
  | .lifetime => n.lifetime.target Totals.encode
  | .period => n.period.target Totals.encode
  | .history => n.history.target historySection
  | .call => n.call.target CallSection.encode
  | .events => n.events.target EventsSection.encode

/-- EVENTS as a write captures it: the creation instants are held live only, and stand as 0 (R130, R164). -/
def EventsSection.stored (e : EventsSection) : EventsSection :=
  { e with records := e.records.map fun r => { r with created := 0 } }

/-- Nonvolatile memory as a write of a section starts, which captures the live contents (R165, R166, R168). -/
def State.capture (s : State) (name : Section) : Nonvolatile :=
  match name with
  | .config => { s.nv with config := s.nv.config.startWrite ConfigSection.encode s.config }
  | .image0 => { s.nv with image0 := ⟨s.image0, none⟩ }
  | .image1 => { s.nv with image1 := ⟨s.image1, none⟩ }
  | .lifetime => { s.nv with lifetime := s.nv.lifetime.startWrite Totals.encode s.lifetime }
  | .period => { s.nv with period := s.nv.period.startWrite Totals.encode s.period }
  | .history => { s.nv with history := s.nv.history.startWrite historySection s.history }
  | .call => { s.nv with call := s.nv.call.startWrite CallSection.encode s.call }
  | .events => { s.nv with events := s.nv.events.startWrite EventsSection.encode s.events.stored }

/-- Nonvolatile memory as the write in flight completes (R165, R166). -/
def Nonvolatile.complete (n : Nonvolatile) (w : SectionWrite) : Nonvolatile :=
  match w.name with
  | .config => { n with config := n.config.endWrite ConfigSection.encode w.slot }
  | .image0 => { n with image0 := n.image0.sealed }
  | .image1 => { n with image1 := n.image1.sealed }
  | .lifetime => { n with lifetime := n.lifetime.endWrite Totals.encode w.slot }
  | .period => { n with period := n.period.endWrite Totals.encode w.slot }
  | .history => { n with history := n.history.endWrite historySection w.slot }
  | .call => { n with call := n.call.endWrite CallSection.encode w.slot }
  | .events => { n with events := n.events.endWrite EventsSection.encode w.slot }

/-- With no write in flight and a section on the dirty list, the head's write starts (R168). -/
def State.startDrain (s : State) : State :=
  match s.ledger.writing, s.ledger.dirty with
  | none, name :: rest =>
    (s.modNv fun _ => s.capture name).modLedger fun _ =>
      ⟨rest, some ⟨name, s.nv.target name, s.now + name.writeTime⟩⟩
  | _, _ => s

/-- The write in flight completes (R168). -/
def State.completeWrite (s : State) (w : SectionWrite) : State :=
  (s.modNv fun n => n.complete w).modLedger fun l => { l with writing := none }

end Sys2Proof.Machine
end

