-- ==== Sys2Proof/Machine/ServiceOps.lean ====
section
/-!
DEFINITION. The operations of the service port (chapter 11): slots, the taking of requests, login and lockout, reads
and the closing of the period.
-/

namespace Sys2Proof.Machine

/-- Request type of a frame (section 12.3). -/
def ServiceFrame.typeByte : ServiceFrame → Byte
  | .login _ _ => 1
  | .readTotals => 2
  | .readHistory _ => 3
  | .readEvents _ => 4
  | .closePeriod => 5
  | .logout => 6
  | .malformed t => t

/-- The part answers its address: it runs and no restore sequence does (R185). -/
def State.servicePowered (s : State) : Bool := s.running && !s.power.restoring

/-- A reply is returned by a read: it carries the overflow flag as it stands, which the read clears (R185). -/
def ServicePort.deliver (p : ServicePort) (r : ServiceReply) : ServicePort :=
  { p with lastRead := some ⟨r, p.overflow⟩, overflow := false, readHeld := false }

/-- A reply is built: it goes to a held read, or to the free transmit slot (R185). -/
def State.putReply (s : State) (r : ServiceReply) : State :=
  s.modService fun p => if p.readHeld then p.deliver r else { p with tx := p.tx ++ [r] }

/-- A reply with a payload. -/
def State.answer (s : State) (request : Byte) (code : ServiceCode) (payload : List Byte) : State :=
  s.putReply ⟨request, code, payload⟩

/-- The session timer restarts at a request taken with a session open (R186). -/
def State.restartSession (s : State) : State :=
  s.modService fun p => { p with sessionTimer := some (s.now + Config.collectorSession) }

/-! ## Login (R187) -/

/-- A login succeeds. -/
def State.openCollector (s : State) (index : Fin 8) : State :=
  let s1 := ((s.modService fun p => { p with session := some index }).restartSession).modTamper Tamper.collectorOpens
  (s1.modConfig fun c => { c with failedLogins := 0 }).markSince s .config

/-- A login fails: the third failure in a row sets the lockout and raises AUTH_FAIL (R187). -/
def State.failLogin (s : State) : State :=
  if Config.failedLoginMax ≤ s.config.failedLogins + 1 then
    (((s.modConfig fun c => { c with failedLogins := 0, lockout := true }).markSince s .config).modService fun p =>
      { p with lockoutTimer := some (s.now + Config.lockout) }).occur .authFail .absent
  else (s.modConfig fun c => { c with failedLogins := c.failedLogins + 1 }).markSince s .config

/-- LOGIN with no session open (R187). -/
def State.login (s : State) (index : Fin 8) (code : Code) : State :=
  if s.config.lockout then s.answer 1 .locked []
  else if s.config.collectors.get index = some code then (s.openCollector index).answer 1 .ok []
  else s.failLogin.answer 1 .denied []

/-! ## End of a session (R188) -/

/-- The collector session ends, and the tamper monitor is told (R127, R188). -/
def State.endSession (s : State) : State :=
  (s.modService fun p => { p with session := none, sessionTimer := none }).collectorEnds

/-- A held CLOSE_PERIOD is answered NO_SESSION at the end of its session (R188). -/
def State.dropHeldClose (s : State) : State :=
  if s.service.closing then (s.modService fun p => { p with closing := false }).answer 5 .noSession [] else s

/-! ## Closing the period (R190) -/

/-- The history record of a close made now (R189, R190). -/
def State.closeRecord (s : State) (index : Fin 8) : HistoryRecord :=
  ⟨s.timestamp, index, s.period, s.tamper.swapObserved⟩

/-- The box count becomes 0 after an observed swap, and BOX_NEAR_FULL clears; CALL is marked when the count changed
(R39, R40, R190). -/
def State.zeroBox (s : State) : State :=
  let s1 := (s.modCall fun c => { c with boxCount := 0 }).modTamper fun t => { t with swapObserved := false }
  (s1.markSince s .call).evaluateBox

/-- The close is carried out in one step (R190). -/
def State.carryOutClose (s : State) (index : Fin 8) : State :=
  let h := s.closeRecord index
  let s1 := (((s.modHistory fun hs => (h :: hs).take Config.historyMax).modPeriod fun _ => Totals.zero).markSince s
    .history).markSince s .period
  (if s.tamper.swapObserved then s1.zeroBox else s1).answer 5 .closed h.encode

/-- The checks of CLOSE_PERIOD, in order: refused BUSY, held, or carried out (R190). -/
def State.tryClose (s : State) : State :=
  match s.service.session with
  | none => (s.modService fun p => { p with closing := false }).answer 5 .noSession []
  | some index =>
    if s.call.sessionOpen || !s.call.queue.isEmpty then
      (s.modService fun p => { p with closing := false }).answer 5 .busy []
    else if s.sectionBusy .period || s.sectionBusy .history then s.modService fun p => { p with closing := true }
    else (s.modService fun p => { p with closing := false }).carryOutClose index

/-! ## Taking requests (R185, R186) -/

/-- A request with no session open: only LOGIN is served (R186). -/
def State.serveClosed (s : State) (f : ServiceFrame) : State :=
  match f with
  | .login index code => s.login index code
  | .malformed t => s.answer t .format []
  | .readTotals => s.answer f.typeByte .noSession []
  | .readHistory _ => s.answer f.typeByte .noSession []
  | .readEvents _ => s.answer f.typeByte .noSession []
  | .closePeriod => s.answer f.typeByte .noSession []
  | .logout => s.answer f.typeByte .noSession []

/-- A request with a session open (R186, R188, R189, R190); each restarts the session timer, one refused FORMAT too (log
entry 30). -/
def State.serveOpen (s : State) (f : ServiceFrame) : State :=
  let s1 := s.restartSession
  match f with
  | .login _ _ => s1.answer f.typeByte .busy []
  | .readTotals => s1.answer f.typeByte .totals s1.totalsBytes
  | .readHistory i =>
    if i.toNat < Config.historyMax then s1.answer f.typeByte .history (s1.historyBytes i.toNat)
    else s1.answer f.typeByte .range []
  | .readEvents p => s1.answer f.typeByte .events (recordsFrom s1.events.records p 2)
  | .closePeriod => s1.tryClose
  | .logout => s1.endSession.answer f.typeByte .ok []
  | .malformed t => s1.answer t .format []

/-- A request is carried out (R186). -/
def State.serve (s : State) (f : ServiceFrame) : State :=
  if s.service.session.isSome then s.serveOpen f else s.serveClosed f

/-- The oldest frame can be taken: no request is in progress and a transmit slot is free (R185). -/
def ServicePort.canTake (p : ServicePort) : Bool := !p.closing && decide (p.tx.length < Config.slotMax)

/-- Frames are taken one at a time, oldest first, as long as one can be; at most `n` of them (R185). -/
def State.pump (s : State) : Nat → State
  | 0 => s
  | n + 1 =>
    match s.service.rx with
    | [] => s
    | f :: rest =>
      if s.service.canTake then ((s.modService fun p => { p with rx := rest }).serve f).pump n else s

/-- Every frame that can be taken is taken (R185). -/
def State.pumpAll (s : State) : State := s.pump s.service.rx.length

/-- A write: its frame goes to the free receive slot and is taken as soon as it can be, or is dropped with the
overflow flag set when both are full.  Nothing is taken from a bus that a held read occupies (R185). -/
def State.serviceFrameIn (s : State) (f : ServiceFrame) : State :=
  if s.service.readHeld then s
  else if s.service.rx.length < Config.slotMax then (s.modService fun p => { p with rx := p.rx ++ [f] }).pumpAll
  else s.modService fun p => { p with overflow := true }

/-- The reply EMPTY (R185, section 12.3). -/
def ServiceReply.emptyReply : ServiceReply := ⟨0, .empty, []⟩

/-- A read: the oldest transmit slot, a held clock line while a request waits or is in progress, or EMPTY (R185). -/
def State.serviceReadOut (s : State) : State :=
  match s.service.tx with
  | r :: rest => (s.modService fun p => { (p.deliver r) with tx := rest }).pumpAll
  | [] =>
    if s.service.closing || !s.service.rx.isEmpty then s.modService fun p => { p with readHeld := true }
    else s.modService fun p => p.deliver .emptyReply

end Sys2Proof.Machine
end

