-- ==== Sys2Proof/Machine/PowerOps.lean ====
section
/-!
DEFINITION. The power states (R169 to R172), the restore sequence of a power return (R173) and the cold start (R174).
-/

namespace Sys2Proof.Machine

/-! ## Entry to HOLDUP (R171) -/

/-- The coin path at the entry to HOLDUP (R21). -/
def CoinPath.holdup (c : CoinPath) : CoinPath :=
  { c with
    entry := .empty
    measureTimer := none
    transit := none
    chute := []
    returnWait := []
    jamEntry := { c.jamEntry with clearRun := none }
    jamAccept := { c.jamAccept with clearRun := none }
    jamReturn := { c.jamReturn with clearRun := none }
    hold := ⟨none, none, none, none⟩ }

/-- The credit unit at the entry to HOLDUP (R23, R43). -/
def CreditUnit.holdup (c : CreditUnit) : CreditUnit :=
  { c with mirrorEscrow := 0, mirrorSum := 0, inFlight := none, retryTimer := none }

/-- The rating unit at the entry to HOLDUP (R85). -/
def RatingUnit.holdup (r : RatingUnit) : RatingUnit := { r with periodTimer := none, warningTimer := none }

/-- The line unit at the entry to HOLDUP (R107). -/
def LineUnit.holdup (l : LineUnit) : LineUnit :=
  { l.timersStopped with guardTimer := none, abandonTimer := none, silenceTimer := none }

/-- The line arbiter at the entry to HOLDUP (R119). -/
def LineArbiter.holdup (a : LineArbiter) : LineArbiter :=
  { a with yieldTimer := none, holdOff := none, windowTimer := none, spacing := none }

/-- The tamper monitor at the entry to HOLDUP (R137). -/
def Tamper.holdup (t : Tamper) : Tamper := { t with shockCount := 0, shockTimer := none, shockEnabled := false, cordRestore := none }

/-- The centre link at the entry to HOLDUP (R162). -/
def CentreLink.holdup (c : CentreLink) : CentreLink :=
  { c.sessionOver with inFlight := none, backoff := none, routineTimer := none, resetYield := none }

/-- The service port at the entry to HOLDUP (R185, R187, R188). -/
def ServicePort.holdup (p : ServicePort) : ServicePort :=
  { p with sessionTimer := none, lockoutTimer := none, closing := false, readHeld := false }

/-- The part enters HOLDUP: every block stops its work, and nothing held in a section changes (R171). -/
def State.enterHoldup (s : State) : State :=
  ((((((((((s.modCoin CoinPath.holdup).modCredit CreditUnit.holdup).modRating RatingUnit.holdup).modLine
    LineUnit.holdup).modArbiter LineArbiter.holdup).modTamper Tamper.holdup).modCentre CentreLink.holdup).modModem
    Modem.silenced).modService ServicePort.holdup).modPower fun p =>
      { p with state := .holdup, clearTimer := none, returnPending := false })

/-! ## OFF (R172) -/

/-- The supply has fallen: nothing runs, the clock is lost, and the dirty list and the write in flight with it; the
slot being written stays not valid (R168, R172). -/
def State.enterOff (s : State) : State :=
  ((s.modPower fun p =>
      { p with state := .off, clearTimer := none, returnPending := false, restoring := false, held := [] }).modClock
    fun _ => ⟨0, 0, 0, false, s.now⟩).modLedger fun _ => ⟨[], none⟩

/-! ## ACTIVE and STANDBY (R170) -/

/-- The coin path at the entry to STANDBY: the stage and the return wait list are emptied, and the hold timers of S2a,
S2b and S3 stop (R21). -/
def CoinPath.standby (c : CoinPath) : CoinPath :=
  { c with entry := .empty, measureTimer := none, returnWait := [], hold := ⟨c.hold.s1, none, none, none⟩ }

/-- The power state follows the conditions of R170.  A beam that is still interrupted at the return to ACTIVE keeps its hold
timer stopped until its next interruption (log entry 44). -/
def State.powerReview (s : State) : State :=
  match s.power.state with
  | .active =>
    if s.holdsActive then s else (s.modCoin CoinPath.standby).modPower fun p => { p with state := .standby }
  | .standby => if s.holdsActive then s.modPower fun p => { p with state := .active } else s
  | .holdup => s
  | .off => s

/-! ## Start values (R22, R44, R86, R108, R119, R138, R163, R184, R191) -/

/-- A hold timer of a beam found interrupted or clear at a start (R22). -/
def holdAt (interrupted : Bool) (now : Nat) : Timer := if interrupted then some (now + Config.beamHold) else none

/-- The coin path at a power return: its start values with the beams as they stand, each interrupted one with its
hold timer started (R22). -/
def CoinPath.restart (c : CoinPath) (now : Nat) : CoinPath :=
  { CoinPath.start with
    beams := c.beams
    hold := ⟨holdAt c.beams.s1 now, holdAt c.beams.s2a now, holdAt c.beams.s2b now, holdAt c.beams.s3 now⟩
    flap := c.flap }

/-- Step 1 of R173: every block that no section restores takes its start values.  The time base, the command queue,
nonvolatile memory, the beams, the line polarity, the levels of the warning and reset inputs and what the two serial
ports last put out stand as they are. -/
def State.restart (s : State) : State :=
  { State.reset with
    now := s.now
    pending := s.pending
    coin := s.coin.restart s.now
    tamper := Tamper.start
    line := { LineUnit.start with polarity := s.line.polarity }
    centre := CentreLink.start
    modem := s.modem.silenced
    ledger := ⟨[], none⟩
    power := ⟨.standby, none, s.power.warningLevel, false, false, []⟩
    clock := s.clock
    setPort := { SetPort.start with resetLow := s.setPort.resetLow, shifted := s.setPort.shifted }
    service := { ServicePort.start with lastRead := s.service.lastRead }
    events := EventsSection.cold
    nv := s.nv
    restores := s.restores }

/-- The clock starts over with its valid flag clear, and CLOCK_INVALID is raised (R175). -/
def State.clockLost (s : State) : State :=
  (s.modClock fun _ => ⟨0, 0, 0, false, s.now⟩).raise .clockInvalid

/-- ACTIVE or STANDBY as the conditions of R170 give (R177). -/
def State.settlePower (s : State) : State :=
  s.modPower fun p => { p with state := if s.holdsActive then .active else .standby }

/-- The elapsed-time base restarts and a POWER_RETURN occurrence is handed to the queue (R130, R137, R173). -/
def State.powerReturned (s : State) (callOpen : Bool) (refunded : Nat) : State :=
  s.occur .powerReturn (.power callOpen refunded)

/-! ## Cold start (R174) -/

/-- The dirty list of a cold start, in the order of R174. -/
def coldDirty : List Section := [.config, .lifetime, .period, .history, .call, .events, .image0, .image1]

/-- A cold start: every section's live contents at their cold values, all eight on the dirty list, the causes built
with NO_IMAGE alone, the clock invalid, and POWER_RETURN handed to the empty queue (R174). -/
def State.coldStart (s : State) : State :=
  (((((s.restart.modLedger fun _ => ⟨coldDirty, none⟩).modTamper fun t =>
    { t with causes := { t.causes with noImage := true } }).raise .service).clockLost).powerReturned false
      0).reviewReport.settlePower

/-! ## Restore (R62, R165, R166, R173) -/

/-- Contents of an image section as restored: the stored contents when its check matches, else a slot with an empty
loaded-block set whose bytes are not stated (R62, R166, log entry 6). -/
def NvImage.restored (n : NvImage) (restores : Nat) : ImageSection :=
  if n.valid then n.contents
  else
    ⟨memWriteBytes [] 0 ((List.range Config.imageBytes).map (Config.damagedImageByte restores)), 0⟩

/-- Event records as restored: SENDING becomes PENDING and each creation instant is 0 (R130, R137). -/
def EventsSection.restarted (e : EventsSection) : EventsSection :=
  { e with records := e.records.map fun r => { r.giveBack with created := 0 } }

/-- EVENTS stands on the dirty list when the restore made a SENDING record PENDING: behind what steps 3 to 6 of R173 have
marked (log entry 52). -/
def State.markRestarted (s : State) : State :=
  match s.nv.events.restored EventsSection.encode with
  | some e => if e.restarted = e then s else s.mark .events
  | none => s

/-- A lost two-slot section is appended to the dirty list (R165). -/
def State.markLost {α : Type} (s : State) (bytes : α → List Byte) (t : TwoSlot α) (name : Section) : State :=
  if (t.newest bytes).isNone then s.mark name else s

/-- Step 2 of R173 with CONFIG found: every section's newest valid copy, the cold contents for a lost one.  A SENDING
record made PENDING here marks nothing yet (`State.markRestarted`, log entry 52). -/
def State.loadSections (s : State) (c : ConfigSection) : State :=
  let n := s.nv
  let s1 := { s.restart with
    config := c
    image0 := n.image0.restored s.restores
    image1 := n.image1.restored (s.restores + 1)
    lifetime := (n.lifetime.restored Totals.encode).getD .zero
    period := (n.period.restored Totals.encode).getD .zero
    history := (n.history.restored historySection).getD []
    call := (n.call.restored CallSection.encode).getD .cold
    events := ((n.events.restored EventsSection.encode).getD .cold).restarted
    restores := s.restores + 2 }
  ((((s1.markLost Totals.encode n.lifetime .lifetime).markLost Totals.encode n.period .period).markLost historySection
    n.history .history).markLost CallSection.encode n.call .call).markLost EventsSection.encode n.events .events

/-- The check of the section that held a slot matched (R62). -/
def Nonvolatile.imageValid (n : Nonvolatile) : SlotId → Bool
  | .slot0 => n.image0.valid
  | .slot1 => n.image1.valid

/-- The active slot is usable (R62). -/
def State.activeUsable (s : State) : Bool :=
  s.nv.imageValid s.config.activeSlot && decide (validateBytes s.activeBytes = none)

/-- The tariff store evaluates the slots: an active image that is not usable is no longer present (R62).  CONFIG, which
this changes, stands on the dirty list behind the lost sections of `State.loadSections` (log entry 59). -/
def State.evaluateSlots (s : State) : State :=
  if s.config.activePresent && !s.activeUsable then
    (s.modConfig fun c => { c with activePresent := false }).mark .config
  else s

/-- Step 3 of R173: a session found open ends with reason POWER (R37, R43, R107, R119). -/
def State.endRestoredSession (s : State) : State :=
  if s.call.sessionOpen then
    (s.creditSessionEnd.modLine fun l => { l with lastEnd := some .power }).raise .callPhase
  else s

/-- Step 5 of R173: the causes are built again and SERVICE is raised (R43, R137). -/
def State.rebuildCauses (s : State) : State :=
  ((s.modTamper fun t => { t with causes := ⟨false, false, !s.config.activePresent, false, false⟩ }).evaluateBox).raise
    .service

/-- Step 7 of R173: a lockout restored set runs 15 min again (R187). -/
def State.restartLockout (s : State) : State :=
  if s.config.lockout then s.modService fun p => { p with lockoutTimer := some (s.now + Config.lockout) } else s

/-- Steps 3 to 7 of R173. -/
def State.restoreSteps (s : State) (fromOff : Bool) : State :=
  let callOpen := s.call.sessionOpen
  let refunded := if callOpen then s.call.escrow.length else 0
  let s5 := ((s.evaluateSlots.endRestoredSession).runPendingActivation).rebuildCauses
  let s5' := if fromOff then s5.clockLost else s5
  (((s5'.powerReturned callOpen refunded).markRestarted.restartLockout).reviewReport.settlePower).modPower fun p =>
    { p with restoring := true }

/-- A power return from OFF or from HOLDUP (R173): a cold start when CONFIG is lost, else the restore sequence, which
runs until RESTORE_SEQUENCE_END. -/
def State.powerReturn (s : State) (fromOff : Bool) : State :=
  match s.nv.config.restored ConfigSection.encode with
  | none => s.coldStart
  | some c => (s.loadSections c).restoreSteps fromOff

end Sys2Proof.Machine
end

