-- ==== Sys2Proof/Machine/Finish.lean ====
section
/-!
DEFINITION. What every step ends with: the conditions that the rules test "whenever one of them may have changed".
A held CLOSE_PERIOD is tested when the dirty list changed (R190), the REPORT request is held or withdrawn (R139), a free
line is granted (R111), the power state follows its conditions (R170), a release starts (R27) and the drain goes on
(R168), in that order (log entry 3).
-/

namespace Sys2Proof.Machine

/-- A held CLOSE_PERIOD makes its checks again, and the requests behind it are taken when it is answered (R185,
R190). -/
def State.recheckClose (s : State) : State := if s.service.closing then s.tryClose.pumpAll else s

/-- The tests that run while the part is ACTIVE or STANDBY. -/
def State.settleBlocks (s : State) (dirtyBefore : List Section) : State :=
  let s1 := if s.ledger.dirty = dirtyBefore then s else s.recheckClose
  (((s1.reviewReport).applyGrants).powerReview).startRelease

/-- The end of a step that began in `before` (log entry 3). -/
def State.finish (before s : State) : State :=
  match s.power.state with
  | .off => s
  | .holdup => s.startDrain
  | .active => (s.settleBlocks before.ledger.dirty).startDrain
  | .standby => (s.settleBlocks before.ledger.dirty).startDrain

/-- A step that runs in ACTIVE and STANDBY and changes nothing elsewhere (R169). -/
def State.whileRunning (s : State) (f : State → State) : State := if s.running then s.finish (f s) else s

/-- The expiry of a timer: at its instant, and nothing when the timer is stopped (log entry 2). -/
def State.onExpiry (s : State) (t : Timer) (f : State → State) : State :=
  match t with
  | some ends => s.whileRunning fun s => f (s.reach ends)
  | none => s

end Sys2Proof.Machine
end

