-- ==== Sys2Proof/Machine/Arbitration.lean ====
section
/-!
DEFINITION. The meanings of the line arbiter's timers (chapter 6).
-/

namespace Sys2Proof.Machine

/-- YIELD_LIMIT_EXPIRY (R116): the take-back goes on to RELEASE_WAIT and the line is released. -/
def execYieldLimitExpiry (s : State) : Host.Outcome State Fault Refusal :=
  .next (s.onExpiry s.arbiter.yieldTimer fun s =>
    (s.modArbiter fun a => { a with yieldTimer := none, takeBack := a.takeBack.released }).releaseLine)

/-- RESUME_HOLD_OFF_EXPIRY (R114). -/
def execResumeHoldOffExpiry (s : State) : Host.Outcome State Fault Refusal :=
  .next (s.onExpiry s.arbiter.holdOff fun s => s.modArbiter fun a => { a with holdOff := none })

/-- The forced window's end at its timer: the waiting caller takes the line back, and with none REPORT keeps it
(R118). -/
def State.windowOver (s : State) : State :=
  let s1 := s.modArbiter fun a => { a with windowTimer := none, window := .closed }
  if s.arbiter.userHeld && s.arbiter.centreOwns && s.arbiter.takeBack == .none then s1.takeLineBack .window else s1

/-- WINDOW_TIMER_EXPIRY (R118). -/
def execWindowTimerExpiry (s : State) : Host.Outcome State Fault Refusal :=
  .next (s.onExpiry s.arbiter.windowTimer State.windowOver)

/-- WINDOW_SPACING_EXPIRY (R118). -/
def execWindowSpacingExpiry (s : State) : Host.Outcome State Fault Refusal :=
  .next (s.onExpiry s.arbiter.spacing fun s => s.modArbiter fun a => { a with spacing := none })

end Sys2Proof.Machine
end

