-- ==== Sys2Proof/Machine/Images.lean ====
section
/-!
DEFINITION. The meanings of the centre's tariff store commands: STAGE_CLEAR, BLOCK_LOAD and STAGE_ACTIVATE (chapter 3).
-/

namespace Sys2Proof.Machine

/-- A frame of the centre that carries a command, and the tests that follow every step (R143, R154). -/
def State.onCommand (s : State) (number : Byte) (payload : List Byte) (carryOut : State → State) : State :=
  if s.hears then s.finish (s.hear payload fun s => s.command number carryOut) else s

/-- A change of the staged image cancels a pending activation (R51, R52): CONFIG is marked when the flag changed. -/
def State.cancelActivation (s : State) : State :=
  if s.config.activationPending then (s.modConfig fun c => { c with activationPending := false }).mark .config else s

/-- The result of a change of the staged image (R51, R52). -/
def State.cancelResult (s : State) : CommandResult := if s.config.activationPending then .cancelled else .ok

/-- STAGE_CLEAR carried out (R51). -/
def State.stageCleared (s : State) (number : Byte) (payload : List Byte) : State :=
  if payload = [] then
    ((((s.modImage s.stagedSlot fun i => { i with loaded := 0 }).markSince s s.stagedSlot.sectionName).cancelActivation).replyResult
      number s.cancelResult)
  else s.replyResult number .range

/-- STAGE_CLEAR (R51). -/
def execStageClear (number : Byte) (payload : List Byte) (s : State) : Host.Outcome State Fault Refusal :=
  .next (s.onCommand number payload fun s => s.stageCleared number payload)

/-- An image section with a block replaced (R52). -/
def ImageSection.load (i : ImageSection) (block : Nat) (bytes : List Byte) : ImageSection :=
  ⟨memWriteBytes i.bytes (Config.blockBytes * block) bytes, maskAdd i.loaded block⟩

/-- BLOCK_LOAD carried out (R52). -/
def State.blockLoaded (s : State) (number : Byte) (payload : List Byte) : State :=
  match blockOf payload with
  | none => s.replyResult number .range
  | some (block, bytes) =>
    ((((s.modImage s.stagedSlot fun i => i.load block bytes).markSince s s.stagedSlot.sectionName).cancelActivation).replyResult
      number s.cancelResult)

/-- BLOCK_LOAD (R52). -/
def execBlockLoad (number : Byte) (payload : List Byte) (s : State) : Host.Outcome State Fault Refusal :=
  .next (s.onCommand number payload fun s => s.blockLoaded number payload)

/-- An activation is pended: CONFIG is marked when the flag changed (R54). -/
def State.pendActivation (s : State) : State :=
  if s.config.activationPending then s
  else (s.modConfig fun c => { c with activationPending := true }).mark .config

/-- STAGE_ACTIVATE carried out (R54). -/
def State.stageActivated (s : State) (number : Byte) (payload : List Byte) : State :=
  if payload = [] then
    match validateImage (s.image s.stagedSlot) with
    | some f => s.replyResult number (.invalid f)
    | none =>
      if s.line.session = .opened then s.pendActivation.replyResult number .pending
      else s.swapSlots.replyResult number .ok
  else s.replyResult number .range

/-- STAGE_ACTIVATE (R54). -/
def execStageActivate (number : Byte) (payload : List Byte) (s : State) : Host.Outcome State Fault Refusal :=
  .next (s.onCommand number payload fun s => s.stageActivated number payload)

end Sys2Proof.Machine
end

