-- ==== Sys2Proof/Machine/LineOps.lean ====
section
/-!
DEFINITION. The operations of the line unit's own steps (chapter 5): the hook, dial tone, digits, answer, clear, recall,
ringing and line voltage.
-/

namespace Sys2Proof.Machine

/-! ## Hook and session (R88, R104) -/

/-- An off-hook in RING_IN forgets the rings and withdraws the POLL request (R104, R110). -/
def State.quitRinging (s : State) : State :=
  if s.line.phase = .ringIn then
    (((s.modLine fun l => { l with ringCount := 0, silenceTimer := none }).setPhase .idle).modArbiter fun a =>
      { a with pollHeld := false })
  else s

/-- The abandonment timer starts or restarts (R102). -/
def LineUnit.abandonFrom (l : LineUnit) (now : Nat) : LineUnit := { l with abandonTimer := some (now + Config.abandonment) }

/-- The session state is OPEN and the abandonment timer starts (R88, R102). -/
def LineUnit.opened (l : LineUnit) (now : Nat) : LineUnit := { (l.abandonFrom now) with session := .opened }

/-- The dial buffer of a session just opened: empty, unless a REPORT that keeps the line in a forced window is still
sending the centre number from it (R88, R103, R118, log entry 37). -/
def LineUnit.freshBuffer (l : LineUnit) : LineUnit := if l.phase = .dialling then l else l.emptied

/-- A USER session opens (R36, R88, R110). -/
def State.openSession (s : State) : State :=
  (((((s.modLine fun l => l.opened s.now).raise .callPhase).modCall fun c => { c with sessionOpen := true }).markSince s
    .call).requestUser).modLine LineUnit.freshBuffer

/-- A qualified off-hook (R88). -/
def State.liftHook (s : State) : State :=
  let s1 := (s.modLine fun l => { l with hook := .offHook }).quitRinging
  if s1.line.session = .none then s1.openSession else s1

/-- A qualified on-hook (R88). -/
def State.hangUp (s : State) : State :=
  let s1 := s.modLine fun l => { l with hook := .onHook }
  match s.line.session with
  | .opened => s1.sessionEnd .hook
  | .spent => (s1.modLine fun l => { l with session := .none }).raise .callPhase
  | .none => s1

/-! ## Dial tone and guard (R91, R92, R103) -/

/-- Dial tone is qualified (R91): READY for USER; for REPORT, READY and at once DIALLING with the centre number (R103). -/
def State.dialToneFound (s : State) : State :=
  let s1 := (s.modLine fun l => { l with dialToneTimer := none, reference := some l.polarity }).setPhase .ready
  match s.line.purpose with
  | .user => s1.modLine LineUnit.emptied
  | .report =>
    (s1.modLine fun l =>
      { l with buffer := s.centre.number, resolution := .unresolved, endOfDialling := true, noToneCount := 0 }).startDialOut
  | .none => s1
  | .poll => s1

/-- A REPORT seizure without dial tone is counted under SIGNAL, and the second raises LINE_LOSS(NO_TONE) (R103). -/
def State.countNoTone (s : State) : State :=
  match s.config.lineFaultMode with
  | .quiet => s
  | .signal =>
    if 1 ≤ s.line.noToneCount then
      (s.modLine fun l => { l with noToneCount := 0 }).occur .lineLossNoTone .absent
    else s.modLine fun l => { l with noToneCount := l.noToneCount + 1 }

/-- No dial tone within 3 s (R91, R103, R159). -/
def State.noDialTone (s : State) : State :=
  let s1 := s.modLine fun l => { l with dialToneTimer := none }
  match s.line.purpose with
  | .user => (s1.raise .noTone).releaseLine
  | .report => (if s1.centre.phase = .dial then s1.releaseLine.failSession else s1.releaseLine).countNoTone
  | .none => s1
  | .poll => s1

/-- The end of the release guard: IDLE, and a REPORT or POLL seizure ends with its owner (R92, R109, R158, R160).  The
rings counted in the guard stay counted, after a preempted POLL too (R104, R115, log entry 58). -/
def State.guardEnd (s : State) : State :=
  let s1 := (s.modLine fun l => { l with guardTimer := none }).setPhase .idle
  if s.line.purpose = .report ∨ s.line.purpose = .poll then
    ((s1.modLine fun l => { l with purpose := .none }).modArbiter LineArbiter.guardEnded).modCentre CentreLink.guardEnded
  else s1

/-! ## Digits (R93 to R98) -/

/-- Refusal of the set port for a refusal of the dial buffer (R179). -/
def RefusalReason.toSet : RefusalReason → SetReason
  | .barred => .barred
  | .service => .service

/-- Sending rests: no digit in progress and none left to send (R97). -/
def LineUnit.rests (l : LineUnit) : Bool := l.digitTimer.isNone && decide (l.buffer.length ≤ l.cursor)

/-- A digit is appended to the dial buffer; in DIALLING it starts at once when sending rests and no pause runs (R93,
R97). -/
def State.appendDigit (s : State) (d : Digit) : State :=
  let s1 := s.modLine fun l => { l with buffer := l.buffer ++ [d] }
  if s.line.phase == .dialling && s.line.rests && s.line.pauseTimer.isNone then s1.startDigit else s1

/-- After an append: the resolution while the class is open, and end of dialling at the 24th digit (R93, R94). -/
def State.afterAppend (s : State) : Option RefusalReason × State :=
  let r := if s.line.resolution = .unresolved then s.resolveBuffer (s.resolveDigit s.line.buffer) else (none, s)
  match r with
  | (some e, s1) => (some e, s1)
  | (none, s1) => if s1.line.buffer.length < Config.bufferMax then (none, s1) else s1.reachEnd

/-- A keyed digit that passed the checks of R93 is taken (R93, R98, R102). -/
def State.takeKey (s : State) (key : Key) : Option RefusalReason × State :=
  let s1 := s.modLine fun l => l.abandonFrom s.now
  if h : key.val < 11 then
    ((s1.modLine fun l => { l with interdigitTimer := some (s.now + Config.interdigit) }).appendDigit
      ⟨key.val, h⟩).afterAppend
  else s1.reachEnd

/-- The checks of R93, in order: the refusal of the first that applies. -/
def State.digitRefusal (s : State) (key : Key) : Option SetReason :=
  if s.line.session ≠ .opened then some .noSession
  else if s.line.purpose ≠ .user then some .invalid
  else if s.hasCause .lineFault ∧ s.line.phase = .idle then some .service
  else if (s.line.phase ≠ .ready ∧ s.line.phase ≠ .dialling) ∨ s.line.endOfDialling = true then some .invalid
  else if 10 ≤ key.val ∧ s.dialMethod = .pulse then some .invalid
  else if key.val = 11 ∧ s.line.buffer = [] then some .invalid
  else if key.val = 11 then none
  else if Config.bufferMax ≤ s.line.buffer.length then some .full
  else none

/-- A DIGIT request: refused by R93, or taken, with a refusal of the buffer that the digit led to (R93, R94, R179). -/
def State.keyDigit (s : State) (key : Key) : Option SetReason × State :=
  match s.digitRefusal key with
  | some r => (some r, s)
  | none => ((s.takeKey key).1.map RefusalReason.toSet, (s.takeKey key).2)

/-- A DIAL_CLEAR request (R96). -/
def State.clearDial (s : State) : Option SetReason × State :=
  if s.line.session ≠ .opened then (some .noSession, s)
  else if s.line.phase ≠ .ready then (some .invalid, s)
  else
    (none, (s.modLine fun l => { (l.emptied.abandonFrom s.now) with interdigitTimer := none }).modRating
      RatingUnit.bufferEmptied)

/-- The recall break starts (R101). -/
def State.startRecall (s : State) : State :=
  (((s.modLine fun l =>
      { (l.timersStopped.emptied.abandonFrom s.now) with recallTimer := some (s.now + Config.pause) }).setPhase
    .recall).modRating RatingUnit.recalled)

/-- A FOLLOW_ON request (R101). -/
def State.followOn (s : State) : Option SetReason × State :=
  if s.line.session ≠ .opened then (some .noSession, s)
  else if s.line.phase = .connected ∨ s.line.phase = .cleared then (none, s.startRecall)
  else (some .invalid, s)

/-- A digit has completed: the cursor advances, and the next digit follows at once under DTMF and after the pause under
PULSE; the answer wait starts when sending has ended (R97, R98). -/
def State.digitSent (s : State) : State :=
  let s1 := s.modLine fun l => { l with digitTimer := none, cursor := l.cursor + 1 }
  (match s.line.dialMethod with
    | .dtmf => s1.startDigit
    | .pulse => s1.modLine fun l => { l with pauseTimer := some (s.now + Config.pause) }).checkSent

/-- The inter-digit pause has ended: the next digit starts, if there is one (R97). -/
def State.pauseEnded (s : State) : State :=
  let s1 := s.modLine fun l => { l with pauseTimer := none }
  if s1.line.phase = .dialling then s1.startDigit else s1

/-! ## Answer and clear (R99, R100, R103) -/

/-- The polarity that is not `p`. -/
def Polarity.flip : Polarity → Polarity
  | .normal => .reversed
  | .reversed => .normal

/-- The polarity that a reversal is measured from: the reference polarity, or NORMAL with none (log entry 4). -/
def LineUnit.base (l : LineUnit) : Polarity := l.reference.getD .normal

/-- A reversal held for 20 ms (R99, R103): answer of a USER call, or DATA for REPORT, in REVERSAL mode. -/
def State.polarityReversed (s : State) : State :=
  let s1 := s.modLine fun l => { l with polarity := l.base.flip }
  if s.line.phase = .awaitAnswer ∧ s.line.answerMode = .reversal then
    match s.line.purpose with
    | .user => s1.answerCall
    | .report => s1.enterData Config.centreGreetWait
    | .none => s1
    | .poll => s1
  else s1

/-- A far-end clear of a USER call (R82, R100). -/
def State.farEndClear (s : State) : State :=
  ((s.modLine fun l => { (l.abandonFrom s.now) with clearTimer := some (s.now + Config.clearWait) }).setPhase
    .cleared).modRating RatingUnit.cleared

/-- A far-end clear by the phase that recognises one: CONNECTED or DATA (R100, R103). -/
def State.clearBack (s : State) : State :=
  match s.line.phase with
  | .connected => s.farEndClear
  | .data => s.dataCleared
  | .idle => s
  | .ringIn => s
  | .seizing => s
  | .ready => s
  | .dialling => s
  | .awaitAnswer => s
  | .cleared => s
  | .recall => s
  | .releasing => s

/-- A return of the polarity held for 20 ms: far-end clear in REVERSAL mode (R100). -/
def State.polarityReturned (s : State) : State :=
  let s1 := s.modLine fun l => { l with polarity := l.base }
  if s.line.answerMode = .reversal then s1.clearBack else s1

/-- A loss of loop current of 300 ms: far-end clear in PULSE and TIMED modes (R100). -/
def State.currentLost (s : State) : State := if s.line.answerMode = .reversal then s else s.clearBack

/-! ## Ringing and line voltage (R104, R105) -/

/-- A ring counts with the handset on its cradle in IDLE, RING_IN and RELEASING (R104). -/
def LineUnit.countsRing (l : LineUnit) : Bool := l.hook == .onHook && (l.phase.atRest || l.phase == .releasing)

/-- A ring (R104), in the guard that follows a preempted POLL too (R115, log entry 58). -/
def State.ringOnce (s : State) : State :=
  if s.line.countsRing then
    let n := min (s.line.ringCount + 1) Config.ringMax
    let s1 := s.modLine fun l => { l with ringCount := n, silenceTimer := some (s.now + Config.ringSilence) }
    let s2 := if s.line.phase = .idle then s1.setPhase .ringIn else s1
    if s.config.ringCount ≤ n then s2.modArbiter LineArbiter.requestPoll else s2
  else s

/-- The ring silence has run out (R104). -/
def State.ringsOver (s : State) : State :=
  let s1 := (s.modLine fun l => { l with ringCount := 0, silenceTimer := none }).modArbiter fun a =>
    { a with pollHeld := false }
  if s.line.phase = .ringIn then s1.setPhase .idle else s1

/-- The line voltage has been absent for more than 5 s over the open loop (R105). -/
def State.voltageLost (s : State) : State :=
  if s.line.phase.atRest && s.line.voltagePresent then
    ((s.modLine fun l => { l with voltagePresent := false }).occur .lineLossVoltage .absent).changeCause .lineFault true
  else s

/-- The line voltage has been present for 5 s over the open loop (R105). -/
def State.voltageBack (s : State) : State :=
  if s.line.phase.atRest && !s.line.voltagePresent then
    (s.modLine fun l => { l with voltagePresent := true }).changeCause .lineFault false
  else s

end Sys2Proof.Machine
end

