-- ==== Sys2Proof/Machine/Wire.lean ====
section
/-!
DEFINITION. The frames of the three links as bytes: how the part reads a set port transaction (R178), a service port
write (R185) and the bytes of the data link (R144), and how the frames the part sends stand as bytes (12.2 to 12.4).

Each reading is total and answers what the part makes of the bytes: the command that the bytes spell, or the refusal.
-/

namespace Sys2Proof.Machine

/-- Sum modulo 256 of the bytes before it (R192). -/
def byteSum (bytes : List Byte) : Byte := bytes.foldl (fun a b => a + b) 0

/-! ## Set port (R178, section 12.2) -/

/-- What a transaction's bytes are (R178). -/
inductive SetFrame where
  | readOnly
  | refused (request : Byte)
  | taken (c : Instr)
  deriving DecidableEq, Repr

/-- The request that a type and a payload spell, none when the type is unknown or the payload does not fit it (R178,
R179, R192). -/
def setRequest (t : Byte) (payload : List Byte) : Option Instr :=
  match t.toNat, payload with
  | 1, [] => some .statusRead
  | 2, [] => some .noticeRead
  | 3, [a, b] => some (.noticeClear (BitVec.ofNat 16 (ofBe [a, b])))
  | 4, [a, b] => some (.noticeEnable (BitVec.ofNat 16 (ofBe [a, b])))
  | 5, [d] => if h : d.toNat < 12 then some (.digit ⟨d.toNat, h⟩) else none
  | 6, [] => some .dialClear
  | 7, [] => some .followOn
  | 8, [d1, d0, w, s2, s1, s0] =>
    some (.setPortClockSet (BitVec.ofNat 16 (ofBe [d1, d0])) w (BitVec.ofNat 24 (ofBe [s2, s1, s0])))
  | 9, [k] => some (.keypadFault k)
  | _, _ => none

/-- The request behind a type and a length: bytes beyond the frame are ignored, and too few bytes or a wrong sum
refuse it (R178). -/
def setBody (t n : Byte) (rest : List Byte) : SetFrame :=
  let payload := rest.take n.toNat
  match rest.drop n.toNat with
  | [] => .refused t
  | sum :: _ =>
    if sum = byteSum (t :: n :: payload) then
      match setRequest t payload with
      | some c => .taken c
      | none => .refused t
    else .refused t

/-- A transaction's bytes, read as one request frame (R178). -/
def setFrame : List Byte → SetFrame
  | [] => .readOnly
  | [t] => if t = 0 then .readOnly else .refused t
  | t :: n :: rest => if t = 0 then .readOnly else setBody t n rest

/-- A request frame as the set processor sends it (section 12.2). -/
def setBytes (t : Byte) (payload : List Byte) : List Byte :=
  let body := t :: byteOf payload.length :: payload
  body ++ [byteSum body]

/-- A reply frame as shifted out (section 12.2). -/
def SetReply.encode (r : SetReply) : List Byte :=
  let body := r.request :: byteOf r.code.code :: byteOf (setReasonCode r.reason) :: byteOf r.payload.length :: r.payload
  body ++ [byteSum body]

/-- A reply that answers no request (R178, log entry 7). -/
def SetReply.unasked (c : SetCode) : SetReply := ⟨Config.replyTypeOfNoRequest, c, none, []⟩

/-- The bytes that a transaction shifts out; none while the reset line is low (R178, R183, R184). -/
def ShiftedOut.encode : ShiftedOut → List Byte
  | .noReply => []
  | .noneYet => (SetReply.unasked .none).encode
  | .power => (SetReply.unasked .power).encode
  | .reply r => r.encode

/-! ## Service port (R185, section 12.3) -/

/-- The request that a type and a payload spell; `malformed` when the type is unknown or the payload does not fit it
(R185, R186, R192). -/
def serviceRequest (t : Byte) (payload : List Byte) : ServiceFrame :=
  match t.toNat, payload with
  | 1, i :: code =>
    if h : i.toNat < 8 then
      match loginCode code with
      | some c => .login ⟨i.toNat, h⟩ c
      | none => .malformed t
    else .malformed t
  | 2, [] => .readTotals
  | 3, [i] => .readHistory i
  | 4, [p] => .readEvents p
  | 5, [] => .closePeriod
  | 6, [] => .logout
  | _, _ => .malformed t

/-- The request behind a type and a length (R185). -/
def serviceBody (t n : Byte) (rest : List Byte) : ServiceFrame :=
  let payload := rest.take n.toNat
  match rest.drop n.toNat with
  | [] => .malformed t
  | sum :: _ => if sum = byteSum (t :: n :: payload) then serviceRequest t payload else .malformed t

/-- A write's bytes, read as one request frame (R185). -/
def serviceFrame : List Byte → ServiceFrame
  | [] => .malformed 0
  | [t] => .malformed t
  | t :: n :: rest => serviceBody t n rest

/-- Payload of a request (section 12.3). -/
def ServiceFrame.payload : ServiceFrame → List Byte
  | .login index code => byteOf index.val :: code.map fun d => byteOf d.val
  | .readTotals => []
  | .readHistory i => [i]
  | .readEvents p => [p]
  | .closePeriod => []
  | .logout => []
  | .malformed _ => []

/-- A request frame as the terminal writes it (section 12.3). -/
def ServiceFrame.encode (f : ServiceFrame) : List Byte := setBytes f.typeByte f.payload

/-- A reply frame as read, with the overflow flag it carried (section 12.3). -/
def ServiceRead.encode (r : ServiceRead) : List Byte :=
  let body := r.reply.request :: byteOf r.reply.code.code :: flagByte r.overflow :: byteOf r.reply.payload.length ::
    r.reply.payload
  body ++ [byteSum body]

/-! ## Data link (R144, section 12.4) -/

/-- The sync byte (R144). -/
def syncByte : Byte := 0xA7

/-- The bytes of a frame that its check covers: type to the last payload byte (R144). -/
def Frame.body (f : Frame) : List Byte := f.ftype :: f.number :: byteOf f.payload.length :: f.payload

/-- A frame as sent, from its sync byte to its two check bytes (R144, R145). -/
def Frame.encode (f : Frame) : List Byte := syncByte :: (f.body ++ be16 (crc16 f.body).toNat)

/-- The command that a valid frame of the centre is (section 12.4); a type that the part does not know, or that only
the part sends, is a valid frame of a type no phase takes (R192). -/
def Frame.command (f : Frame) : Instr :=
  match f.ftype.toNat with
  | 0x10 => .greet f.number f.payload
  | 0x12 => .ack f.number f.payload
  | 0x15 => .reject f.number f.payload
  | 0x20 => .auditRead f.number f.payload
  | 0x21 => .queueRead f.number f.payload
  | 0x22 => .clockSet f.number f.payload
  | 0x23 => .serviceSet f.number f.payload
  | 0x24 => .configSet f.number f.payload
  | 0x25 => .stageClear f.number f.payload
  | 0x26 => .blockLoad f.number f.payload
  | 0x27 => .stageActivate f.number f.payload
  | 0x28 => .endTurn f.number f.payload
  | _ => .unknownFrameType f.ftype f.number f.payload

/-! ### Bytes and frames as the receiver takes them (R143, R144) -/

/-- The parity bit that makes the number of ones among the eight data bits and itself odd (R143). -/
def parityBit (b : Byte) : Bool := (List.range 8).foldl (fun p i => p ^^ b.getLsbD i) true

/-- A byte as its eleven bits: start, data with the least significant bit first, odd parity, stop.  A start bit is 0 and a
stop bit 1, as asynchronous modems of the family have them (R143, log entry 57). -/
def byteBits (b : Byte) : List Bool := false :: ((List.range 8).map b.getLsbD ++ [parityBit b, true])

/-- What reaches the receiver: a byte, a byte error, or more than 20 ms with no byte (R143). -/
inductive LinkItem where
  | byte (b : Byte)
  | error
  | gap
  deriving DecidableEq, Repr

/-- The byte with these data bits, the least significant first (R143). -/
def byteOfData (data : List Bool) : Byte := BitVec.ofNat 8 (data.foldr (fun d n => 2 * n + d.toNat) 0)

/-- What eleven bits make: a byte, or a byte error when the parity is even or the stop bit missing (R143). -/
def itemOfBits (bits : List Bool) : LinkItem :=
  let data := (bits.drop 1).take 8
  match bits.drop 9 with
  | [parity, true] => if parity = parityBit (byteOfData data) then .byte (byteOfData data) else .error
  | _ => .error

/-- The receiver: waiting for a sync byte, or in a frame with the bytes taken since its sync byte (R144). -/
inductive Receiver where
  | waiting
  | inFrame (got : List Byte)
  deriving DecidableEq, Repr

/-- The bytes of a frame that its check covers and the two that carry it, with the command they spell, or a discarded frame
(R144). -/
def frameCommand (got : List Byte) : Instr :=
  match got with
  | t :: k :: _ :: rest =>
    let f : Frame := ⟨t, k, rest.take (rest.length - 2)⟩
    if rest.drop (rest.length - 2) = be16 (crc16 f.body).toNat then f.command else .badFrame
  | _ => .badFrame

/-- The receiver after the bytes taken since a sync byte, and the command they end in: a length above 80 discards the frame at
once, and the last check byte ends it (R144). -/
def Receiver.after (got : List Byte) : Receiver × Option Instr :=
  match got with
  | _ :: _ :: n :: rest =>
    if Config.framePayloadMax < n.toNat then (.waiting, some .badFrame)
    else if rest.length < n.toNat + 2 then (.inFrame got, none)
    else (.waiting, some (frameCommand got))
  | _ => (.inFrame got, none)

/-- The receiver takes one item: outside a frame it waits for the sync byte and ignores everything else; inside one a byte
error or a gap discards the frame (R143, R144). -/
def Receiver.take (r : Receiver) (x : LinkItem) : Receiver × Option Instr :=
  match r, x with
  | .waiting, .byte b => if b = syncByte then (.inFrame [], none) else (.waiting, none)
  | .waiting, .error => (.waiting, none)
  | .waiting, .gap => (.waiting, none)
  | .inFrame got, .byte b => Receiver.after (got ++ [b])
  | .inFrame _, .error => (.waiting, some .badFrame)
  | .inFrame _, .gap => (.waiting, some .frameGapExpiry)

/-- The commands that a run of items makes, from a state of the receiver on (R143, R144, R147). -/
def Receiver.run (r : Receiver) : List LinkItem → List Instr
  | [] => []
  | x :: rest => (r.take x).2.toList ++ (r.take x).1.run rest

/-- The commands that a run of items makes for a receiver that waits for a frame (R143, R144). -/
def linkCommands (items : List LinkItem) : List Instr := Receiver.waiting.run items

end Sys2Proof.Machine
end

