-- ==== Sys2Proof/Machine/SetOps.lean ====
section
/-!
DEFINITION. The operations of the set port (chapter 10): transactions, replies, notices and the set-processor reset.
-/

namespace Sys2Proof.Machine

/-- What a transaction shifts out (R178, R183, R184). -/
def State.shiftOut (s : State) : ShiftedOut :=
  match s.setPort.lastReply with
  | some r => .reply r
  | none => .noneYet

/-- A transaction whose reply is not the last reply is not taken: code POWER in HOLDUP and while the restore sequence
runs, whatever the reset line's level (log entry 53), no reply while the reset line is low; none in OFF (R178, R183). -/
def State.untaken (s : State) : Option ShiftedOut :=
  match s.power.state with
  | .off => none
  | .holdup => some .power
  | .active => if s.power.restoring then some .power else if s.setPort.resetLow then some .noReply else none
  | .standby => if s.power.restoring then some .power else if s.setPort.resetLow then some .noReply else none

/-- A record of what a transaction shifted out. -/
def State.shifts (s : State) (o : ShiftedOut) : State := s.modSetPort fun p => { p with shifted := o }

/-- A transaction: the last reply is shifted out, and the request taken at the release of select becomes the next one's
reply; `take` carries the request out and builds its reply, none for a read-only transaction (R178). -/
def State.transaction (s : State) (take : State → Option SetReply × State) : State :=
  match s.untaken with
  | some o => s.shifts o
  | none =>
    if s.running then
      let r := take (s.shifts s.shiftOut)
      s.finish (match r.1 with
        | some reply => r.2.modSetPort fun p => { p with lastReply := some reply }
        | none => r.2)
    else s

/-- A reply TAKEN (R179). -/
def takenReply (request : Byte) : SetReply := ⟨request, .taken, none, []⟩

/-- A reply REFUSED with its reason (R178, R179). -/
def refusedReply (request : Byte) (r : SetReason) : SetReply := ⟨request, .refused, some r, []⟩

/-- The reply to a request that is taken or refused (R179). -/
def outcomeReply (request : Byte) : Option SetReason → SetReply
  | none => takenReply request
  | some r => refusedReply request r

/-- The request and its reply, for a request that the line unit takes or refuses (R179). -/
def withOutcome (request : Byte) (r : Option SetReason × State) : Option SetReply × State :=
  (some (outcomeReply request r.1), r.2)

/-- Members of a notice set: bits that name no notice are passed over (R182, log entry 22). -/
def noticeSet (mask : Half) : BitVec 11 := mask.setWidth 11

/-- NOTICE_CLEAR: the notices named leave the pending set, and with SERVICE named every pending latch is cleared (R123,
R182). -/
def State.clearNotices (s : State) (mask : Half) : State :=
  let s1 := s.modSetPort fun p => { p with pendingSet := p.pendingSet &&& ~~~noticeSet mask }
  if maskHas (noticeSet mask) Notice.service.index then s1.clearLatches 0x1F#5 else s1

/-- The clock takes new values, its valid flag is set and its second starts afresh (R176). -/
def State.setClock (s : State) (v : ClockValues) : State :=
  s.modClock fun _ => ⟨v.dayCount, v.day, v.second, true, s.now⟩

/-- The set port's CLOCK_SET (R176); which refusal answers a request that both apply to is a free value (log entry 5). -/
def State.offerClock (s : State) (v : ClockValues) : Option SetReason × State :=
  if s.clock.valid then
    (some (if !v.inRange && Config.clockSetRangeFirst then .range else .set), s)
  else if v.inRange then (none, s.setClock v)
  else (some .range, s)

/-- The collector session ends if one is open, with a held close answered (R127, R183, R188). -/
def State.resetService (s : State) : State :=
  if s.service.session.isSome then s.endSession.dropHeldClose.pumpAll else s

/-- A session of some kind is there for a reset to end: a USER session is OPEN, a centre session is under way or a
collector session is open (R183). -/
def State.sessionUnderWay (s : State) : Bool :=
  s.line.session == .opened || s.centre.phase != .idle || s.service.session.isSome

/-- The qualified reset's effects, block by block in the order of R183: set port, line unit, centre link, service port;
what the reset columns of the start tables name takes its start value (R108, R119, R163).  With no session of any kind
only the set port's own state changes (R183, log entry 43). -/
def State.resetEffects (s : State) : State :=
  let s1 := s.modSetPort fun p => { p with pendingSet := 0, enableSet := 0, lastReply := none }
  if s.sessionUnderWay then
    let s2 := if s1.line.session = .opened then s1.sessionEnd .reset else s1
    s2.resetCentre.resetCalls.resetService
  else s1

end Sys2Proof.Machine
end

