-- ==== Sys2Proof/Machine/Centre.lean ====
section
/-!
DEFINITION. The meanings of the centre link's steps: its timers, the frames of the data link and the centre's commands
(chapter 8).
-/

namespace Sys2Proof.Machine

/-! ## Scheduling (R139, R141) -/

/-- ROUTINE_TIMER_EXPIRY (R139): the record it was set for has reached the routine delay. -/
def execRoutineTimerExpiry (s : State) : Host.Outcome State Fault Refusal :=
  .next (s.onExpiry s.centre.routineTimer fun s =>
    s.modCentre fun c => { c with routineTimer := none, routineReached := true })

/-- BACKOFF_EXPIRY (R141). -/
def execBackoffExpiry (s : State) : Host.Outcome State Fault Refusal :=
  .next (s.onExpiry s.centre.backoff fun s => s.modCentre fun c => { c with backoff := none })

/-! ## Frames of the link (R143 to R154) -/

/-- A valid or discarded frame of the centre, and the tests that follow every step (R143, R144). -/
def State.onFrame (s : State) (payload : List Byte) (valid : State → State) : State :=
  if s.hears then s.finish (s.hear payload valid) else s

/-- A GREET by phase (R149, R150). -/
def State.greeted (s : State) : State :=
  match s.centre.phase with
  | .awaitGreet => s.enterIdent
  | .ident => s.resendAwaited
  | .upload => s.answerUnexpected
  | .centreTurn => s.answerUnexpected
  | .idle => s
  | .dial => s
  | .awaitAnswer => s
  | .closing => s
  | .suspended => s

/-- GREET (R149, R150). -/
def execGreet (_number : Byte) (payload : List Byte) (s : State) : Host.Outcome State Fault Refusal :=
  .next (s.onFrame payload State.greeted)

/-- An ACK of the last record of the upload, repeated before any command (R154). -/
def State.repeatsLastAck (s : State) (payload : List Byte) : Bool :=
  s.centre.lastCommand.isNone && s.centre.lastAcked.isSome && s.centre.lastAcked == ackSeq payload

/-- An ACK by phase (R150, R152, R154). -/
def State.acknowledged (s : State) (payload : List Byte) : State :=
  match s.centre.phase with
  | .ident => if payload = [] then s.acknowledgeHello else s
  | .upload =>
    (match s.centre.inFlight with
    | some seq => if ackSeq payload = some seq then s.acknowledgeRecord seq else s
    | none => s)
  | .centreTurn => if s.repeatsLastAck payload then s.resendReply else s.answerUnexpected
  | .awaitGreet => s.answerUnexpected
  | .idle => s
  | .dial => s
  | .awaitAnswer => s
  | .closing => s
  | .suspended => s

/-- ACK (R150, R152, R154). -/
def execAck (_number : Byte) (payload : List Byte) (s : State) : Host.Outcome State Fault Refusal :=
  .next (s.onFrame payload fun s => s.acknowledged payload)

/-- A REJECT of the centre by phase: the last frame again (R147). -/
def State.rejected (s : State) : State :=
  match s.centre.phase with
  | .ident => s.resendAwaited
  | .upload => s.resendAwaited
  | .centreTurn => s.resendReply
  | .awaitGreet => s.answerUnexpected
  | .idle => s
  | .dial => s
  | .awaitAnswer => s
  | .closing => s
  | .suspended => s

/-- REJECT (R147): the same whatever reason it carries. -/
def execReject (_number : Byte) (payload : List Byte) (s : State) : Host.Outcome State Fault Refusal :=
  .next (s.onFrame payload State.rejected)

/-- A discarded frame (R143, R144, R147). -/
def State.frameDiscarded (s : State) : State := (s.received false).answerDiscarded

/-- BAD_FRAME (R143, R144, R147). -/
def execBadFrame (s : State) : Host.Outcome State Fault Refusal :=
  .next (if s.hears then s.finish s.frameDiscarded else s)

/-- UNKNOWN_FRAME_TYPE (R147, R192). -/
def execUnknownFrameType (_ftype _number : Byte) (payload : List Byte) (s : State) :
    Host.Outcome State Fault Refusal :=
  .next (s.onFrame payload State.answerUnexpected)

/-- FRAME_GAP_EXPIRY (R143, R147): the frame under way is discarded. -/
def execFrameGapExpiry (s : State) : Host.Outcome State Fault Refusal :=
  .next (if s.hears then s.finish s.frameDiscarded else s)

/-- TURNAROUND_EXPIRY (R146): the first waiting frame starts. -/
def execTurnaroundExpiry (s : State) : Host.Outcome State Fault Refusal :=
  .next (s.onExpiry s.modem.turnaround fun s => s.modModem fun m => ({ m with turnaround := none } : Modem).startNext)

/-- The frame being sent has left the modem (R146). -/
def State.sent (s : State) (f : Frame) : State :=
  ((s.modModem fun m => { m with sending := none }).frameSentEffect f).modModem Modem.startNext

/-- FRAME_SENT (R146, R150, R152 to R154, R158, R160). -/
def execFrameSent (s : State) : Host.Outcome State Fault Refusal :=
  .next (match s.modem.sending with
    | some f => s.whileRunning fun s => s.sent f
    | none => s)

/-! ## Commands of the centre (R154 to R158) -/

/-- AUDIT_READ carried out (R155). -/
def State.audited (s : State) (number : Byte) (payload : List Byte) : State :=
  match (oneByte payload).bind s.auditBytes with
  | some bytes => s.reply number typeAudit bytes
  | none => s.replyResult number .range

/-- AUDIT_READ (R155). -/
def execAuditRead (number : Byte) (payload : List Byte) (s : State) : Host.Outcome State Fault Refusal :=
  .next (s.onCommand number payload fun s => s.audited number payload)

/-- QUEUE_READ carried out (R134, R155). -/
def State.queueSent (s : State) (number : Byte) (payload : List Byte) : State :=
  match oneByte payload with
  | some p => s.reply number typeQueueData (recordsFrom s.events.records p 4)
  | none => s.replyResult number .range

/-- QUEUE_READ (R155). -/
def execQueueRead (number : Byte) (payload : List Byte) (s : State) : Host.Outcome State Fault Refusal :=
  .next (s.onCommand number payload fun s => s.queueSent number payload)

/-- CLOCK_SET of the centre carried out (R156, R176). -/
def State.clockGiven (s : State) (number : Byte) (payload : List Byte) : State :=
  match clockValues payload with
  | some v => if v.inRange then (s.setClock v).replyResult number .ok else s.replyResult number .range
  | none => s.replyResult number .range

/-- CLOCK_SET (R156, R176). -/
def execClockSet (number : Byte) (payload : List Byte) (s : State) : Host.Outcome State Fault Refusal :=
  .next (s.onCommand number payload fun s => s.clockGiven number payload)

/-- SERVICE_SET carried out (R156). -/
def State.inhibitGiven (s : State) (number : Byte) (payload : List Byte) : State :=
  match inhibitOf payload with
  | some v => (s.changeCause .centreInhibit v).replyResult number .ok
  | none => s.replyResult number .range

/-- SERVICE_SET (R156). -/
def execServiceSet (number : Byte) (payload : List Byte) (s : State) : Host.Outcome State Fault Refusal :=
  .next (s.onCommand number payload fun s => s.inhibitGiven number payload)

/-- A configuration item takes a value (R157). -/
def ConfigSection.apply (c : ConfigSection) : ConfigChange → ConfigSection
  | .centreNumber d => { c with centreNumber := d }
  | .terminalId i => { c with terminalId := i }
  | .routineDelay n => { c with routineDelay := n }
  | .dailyTime t => { c with dailyTime := t }
  | .boxCapacity n => { c with boxCapacity := n }
  | .overflow a => { c with overflow := a }
  | .freeNumber i d => { c with freeList := c.freeList.set i d }
  | .ringCount n => { c with ringCount := n }
  | .lineFault m => { c with lineFaultMode := m }
  | .forcedWindows b => { c with forcedWindows := b }
  | .edge i e => { c with edges := c.edges.set i e }
  | .enable i b => { c with enables := maskPut c.enables i.index b }
  | .severity i v => { c with severities := c.severities.set i v }
  | .latchClear _ => c
  | .collector i e => { c with collectors := c.collectors.set i e }

/-- A change is refused by the state: a box capacity below the box count plus 12 (R39). -/
def State.refusesChange (s : State) : ConfigChange → Bool
  | .boxCapacity n => decide (n < s.call.boxCount + Config.boxMargin)
  | _ => false

/-- An accepted CONFIG_SET (R157): the item takes its value and CONFIG is marked; the latch clear is carried out and not
stored (R123), and a new capacity evaluates BOX_NEAR_FULL at once (R39). -/
def State.applyConfig (s : State) (c : ConfigChange) : State :=
  match c with
  | .latchClear which => s.clearLatches which
  | .boxCapacity n => ((s.modConfig fun x => x.apply (.boxCapacity n)).markSince s .config).evaluateBox
  | c => (s.modConfig fun x => x.apply c).markSince s .config

/-- CONFIG_SET carried out (R157). -/
def State.configGiven (s : State) (number : Byte) (payload : List Byte) : State :=
  match configChange payload with
  | some c => if s.refusesChange c then s.replyResult number .range else (s.applyConfig c).replyResult number .ok
  | none => s.replyResult number .range

/-- CONFIG_SET (R157). -/
def execConfigSet (number : Byte) (payload : List Byte) (s : State) : Host.Outcome State Fault Refusal :=
  .next (s.onCommand number payload fun s => s.configGiven number payload)

/-- END carried out (R158). -/
def State.turnEnded (s : State) (number : Byte) (payload : List Byte) : State :=
  if payload = [] then
    (s.replyResult number .ok).modCentre fun c => { c with phase := .closing, idleTimer := none }
  else s.replyResult number .range

/-- END (R158). -/
def execEndTurn (number : Byte) (payload : List Byte) (s : State) : Host.Outcome State Fault Refusal :=
  .next (s.onCommand number payload fun s => s.turnEnded number payload)

/-! ## Timers of a session -/

/-- The phase timer of one phase expires (R148 to R152). -/
def State.onPhaseExpiry (s : State) (p : CentrePhase) (f : State → State) : State :=
  if s.centre.phase = p then
    s.onExpiry s.centre.phaseTimer fun s => f (s.modCentre fun c => { c with phaseTimer := none })
  else s

/-- AWAIT_ANSWER_EXPIRY (R148, R159). -/
def execAwaitAnswerExpiry (s : State) : Host.Outcome State Fault Refusal :=
  .next (s.onPhaseExpiry .awaitAnswer State.failSession)

/-- AWAIT_GREET_EXPIRY (R149, R159). -/
def execAwaitGreetExpiry (s : State) : Host.Outcome State Fault Refusal :=
  .next (s.onPhaseExpiry .awaitGreet State.failSession)

/-- HELLO_TIMER_EXPIRY (R150, R159). -/
def execHelloTimerExpiry (s : State) : Host.Outcome State Fault Refusal :=
  .next (s.onPhaseExpiry .ident State.resendAwaited)

/-- UPLOAD_TIMER_EXPIRY (R152, R159). -/
def execUploadTimerExpiry (s : State) : Host.Outcome State Fault Refusal :=
  .next (s.onPhaseExpiry .upload State.resendAwaited)

/-- IDLE_TIMER_EXPIRY (R158): no frame is sent and the release is asked at once. -/
def execIdleTimerExpiry (s : State) : Host.Outcome State Fault Refusal :=
  .next (s.onExpiry s.centre.idleTimer fun s =>
    (s.modCentre fun c => { c with phase := .closing, idleTimer := none }).releaseLine)

/-- RESET_YIELD_EXPIRY (R160): YIELD has not been sent within 200 ms of the reset. -/
def execResetYieldExpiry (s : State) : Host.Outcome State Fault Refusal :=
  .next (s.onExpiry s.centre.resetYield fun s =>
    (s.modCentre fun c => { c with resetYield := none }).releaseLine)

end Sys2Proof.Machine
end

