-- ==== Sys2Proof/Machine/CoinOps.lean ====
section
/-!
DEFINITION. The operations of the coin path (chapter 1): jams, rejections, the gate decision, passages at S2 and
crossings at S3 and S4.
-/

namespace Sys2Proof.Machine

/-! ## Jams (R19, R20) -/

/-- One of the three chute jams. -/
def CoinPath.jam (c : CoinPath) : ChuteJam → Jam
  | .entry => c.jamEntry
  | .accept => c.jamAccept
  | .ret => c.jamReturn

/-- The coin path with one jam replaced. -/
def CoinPath.putJam (c : CoinPath) (j : ChuteJam) (x : Jam) : CoinPath :=
  match j with
  | .entry => { c with jamEntry := x }
  | .accept => { c with jamAccept := x }
  | .ret => { c with jamReturn := x }

/-- Every beam that a jam watches is clear (R20). -/
def CoinPath.watchedClear (c : CoinPath) : ChuteJam → Bool
  | .entry => !c.beams.s1
  | .accept => !c.beams.s2a && !c.beams.s2b
  | .ret => !c.beams.s3

/-- The jam that a beam's path has (R19, R20); S4 has none. -/
def beamJam : Beam → Option ChuteJam
  | .s1 => some .entry
  | .s2a => some .accept
  | .s2b => some .accept
  | .s3 => some .ret
  | .s4 => none

/-- The event pair of a jam (section 7.3). -/
def jamPair : ChuteJam → EventPair
  | .entry => .jamEntry
  | .accept => .jamAccept
  | .ret => .jamReturn

/-- A jam is set: nothing when it is set already, so that a clear run already running is not restarted (log entry 61).
Otherwise its clear run starts if its beams are clear, COIN_JAM is raised and the cause COIN_JAM set (R20). -/
def State.setJam (s : State) (j : ChuteJam) : State :=
  if (s.coin.jam j).isSet then s
  else
    ((s.modCoin fun c =>
        c.putJam j ⟨true, if c.watchedClear j then some (s.now + Config.jamClearRun) else none⟩).occur (jamPair j)
      .absent).changeCause .coinJam true

/-- A jam clears, and the last-jam test is made (R20). -/
def State.clearJam (s : State) (j : ChuteJam) : State := (s.modCoin fun c => c.putJam j .cleared).lastJamTest

/-! ## Rejected coins (R13, R14) -/

/-- A rejected coin is expected at S3, unless the RETURN jam is set or 8 are expected already (R14). -/
def CoinPath.expectReturn (c : CoinPath) (now : Nat) : CoinPath :=
  if c.jamReturn.isSet ∨ Config.returnWaitMax ≤ c.returnWait.length then c
  else { c with returnWait := c.returnWait ++ [now] }

/-- A coin is rejected (R13). -/
def State.rejectCoin (s : State) (r : RejectReason) : State :=
  (s.raiseRejected r).modCoin fun c => c.expectReturn s.now

/-- The entry stage becomes EMPTY with its wait stopped. -/
def CoinPath.stageEmpty (c : CoinPath) : CoinPath := { c with entry := .empty, measureTimer := none }

/-! ## Gate decision (R9 to R11) -/

/-- The admission check of R10. -/
def State.admits (s : State) (v : Nat) : Bool :=
  decide (s.available + s.credit.mirrorSum + v ≤ Config.creditMax)

/-- The answer to a route request; none for FULL (R10). -/
def State.routeFor (s : State) (v : Nat) : Option Route :=
  if s.admits v then
    if s.occupancy < Config.columnMax ∧ s.boxDirect = false then some .escrow else some .box
  else match s.config.overflow with
    | .saturate => some .box
    | .reject => none

/-- The gate opens for a coin (R11). -/
def State.openGate (s : State) (k v : Nat) (r : Route) : State :=
  s.modCoin fun c => { c with transit := some ⟨k, v, r, s.now⟩, flap := r }

/-- The outcome of the gate decision for a triple: rejected with a reason, or sent through the gate (R9). -/
def State.decideCoin (s : State) (t : Triple) : State :=
  if !s.acceptanceOpen then s.rejectCoin .closed
  else match classifyTriple s.activeBytes t with
    | none => s.rejectCoin .noMatch
    | some (k, v) =>
      match s.routeFor v with
      | none => s.rejectCoin .full
      | some r => s.openGate k v r

/-- The gate decision: the entry stage becomes EMPTY in every outcome (R9). -/
def State.gateDecision (s : State) (t : Triple) : State := (s.modCoin CoinPath.stageEmpty).decideCoin t

/-- A decision held behind a coin in transit is made when the transit ends (R9). -/
def State.heldDecision (s : State) : State :=
  match s.coin.entry with
  | .measuredHeld t => s.gateDecision t
  | .empty => s
  | .entered => s
  | .discarding _ => s

/-! ## Passages at S2 (R11, R18) -/

/-- The chute record of a coin whose FORWARD passage is taken now (R11). -/
def Transit.record (t : Transit) (now : Nat) : ChuteRecord := ⟨t.coinClass, t.value, t.route, now, .current⟩

/-- A FORWARD passage: the coin in transit becomes a chute record, and a held decision is made; with no coin in transit
nothing happens (R11). -/
def State.forwardPassage (s : State) : State :=
  match s.coin.transit with
  | none => s
  | some t =>
    ((s.modCoin fun c => { c with transit := none, chute := c.chute ++ [t.record s.now] }).modCredit fun c =>
      c.withRecord (t.record s.now)).heldDecision

/-- A REVERSE passage: the newest chute record is struck and COIN_FRAUD raised with its class, or LATE (R18). -/
def State.reversePassage (s : State) : State :=
  match s.coin.chute.getLast? with
  | none => s.occur .fraudChute .late
  | some r =>
    ((s.modCoin fun c => { c with chute := c.chute.dropLast }).modCredit fun c => c.withoutRecord r).occur .fraudChute
      (.number r.coinClass)

/-- The tracker as a beam of the pair is interrupted; the levels are those before (R2). -/
def S2Tracker.interrupted (t : S2Tracker) (b : BeamLevels) (hit : BeamHit) : S2Tracker :=
  match t, hit with
  | .quiet, .one .s2a => if b.s2b then .quiet else .aFirst false
  | .quiet, .one .s2b => if b.s2a then .quiet else .bFirst false
  | .quiet, .s2Pair => .bothNoOrder
  | .aFirst _, .one .s2b => .aFirst true
  | .bFirst _, .one .s2a => .bFirst true
  | t, _ => t

/-- What the tracker takes as a beam of the pair clears (R2). -/
inductive Passage where
  | nothing | forward | reverse
  deriving DecidableEq, Repr

/-- The tracker as a beam of the pair clears, with the levels after: the passage taken and the tracker's next state
(R2). -/
def S2Tracker.cleared (t : S2Tracker) (b : BeamLevels) : Passage × S2Tracker :=
  let allClear := !b.s2a && !b.s2b
  match t with
  | .quiet => (.nothing, .quiet)
  | .aFirst both => if both then (if allClear then (.forward, .quiet) else (.nothing, .aFirst true))
      else if b.s2a then (.nothing, .aFirst false) else (.nothing, .quiet)
  | .bFirst both => if both then (if allClear then (.reverse, .quiet) else (.nothing, .bFirst true))
      else if b.s2b then (.nothing, .bFirst false) else (.nothing, .quiet)
  | .bothNoOrder => if allClear then (.nothing, .quiet) else (.nothing, .bothNoOrder)

/-- A passage acts (R2, R11, R18). -/
def State.takePassage (s : State) (p : Passage) : State :=
  match p with
  | .nothing => s
  | .forward => s.forwardPassage
  | .reverse => s.reversePassage

/-! ## Crossings (R3, R28) -/

/-- The release in flight meets an S3 crossing: its destination is RETURN and it started no later than the oldest
return wait entry (R3). -/
def State.releaseMeetsS3 (s : State) : Bool :=
  match s.flightDestination, s.credit.inFlight with
  | some .ret, some started =>
    (match s.coin.returnWait with
    | [] => true
    | w :: _ => decide (started ≤ w))
  | _, _ => false

/-- An S3 crossing (R3, R14, R28). -/
def State.crossS3 (s : State) : State :=
  if s.releaseMeetsS3 then s.confirmRelease else s.modCoin fun c => { c with returnWait := c.returnWait.tail }

/-- An S4 crossing: it confirms a release to BOX, and otherwise clears a set RELEASE jam (R28, R30). -/
def State.crossS4 (s : State) : State :=
  if s.flightDestination = some .box then s.confirmRelease else s.clearReleaseJam

/-! ## S1 entries (R7, R15) -/

/-- The 250 ms measurement wait starts or restarts with the stage in a new state (R7, R15). -/
def State.stageWaits (s : State) (e : EntryStage) : State :=
  s.modCoin fun c => { c with entry := e, measureTimer := some (s.now + Config.measurementWait) }

/-- An S1 entry in ACTIVE (R7, R15). -/
def State.enterS1 (s : State) : State :=
  match s.coin.entry with
  | .empty => s.stageWaits .entered
  | .entered =>
    ((s.rejectCoin .double).modCoin fun c => c.expectReturn s.now).stageWaits (.discarding 2)
  | .measuredHeld _ =>
    ((s.rejectCoin .double).modCoin fun c => c.expectReturn s.now).stageWaits (.discarding 1)
  | .discarding n => (s.rejectCoin .double).stageWaits (.discarding (min (n + 1) Config.discardMax))

/-! ## Beams -/

/-- One beam's level. -/
def BeamLevels.put (b : BeamLevels) (beam : Beam) (v : Bool) : BeamLevels :=
  match beam with
  | .s1 => { b with s1 := v }
  | .s2a => { b with s2a := v }
  | .s2b => { b with s2b := v }
  | .s3 => { b with s3 := v }
  | .s4 => { b with s4 := v }

/-- One beam's hold timer; S4 has none (R19). -/
def HoldTimers.put (h : HoldTimers) (beam : Beam) (t : Timer) : HoldTimers :=
  match beam with
  | .s1 => { h with s1 := t }
  | .s2a => { h with s2a := t }
  | .s2b => { h with s2b := t }
  | .s3 => { h with s3 := t }
  | .s4 => h

/-- One beam's hold timer; S4 has none (R19). -/
def HoldTimers.get (h : HoldTimers) : Beam → Timer
  | .s1 => h.s1
  | .s2a => h.s2a
  | .s2b => h.s2b
  | .s3 => h.s3
  | .s4 => none

/-- The beams that a BEAM_INTERRUPTED step names. -/
def hitBeams : BeamHit → List Beam
  | .one b => [b]
  | .s2Pair => [.s2a, .s2b]

/-- The beams' levels after an interruption. -/
def BeamLevels.hit (b : BeamLevels) (hit : BeamHit) : BeamLevels := (hitBeams hit).foldl (fun b x => b.put x true) b

/-- A beam's interruption starts its hold timer: S1's in ACTIVE and STANDBY, the others' in ACTIVE (R19, R21);
nothing else starts it (log entry 44). -/
def CoinPath.startHold (c : CoinPath) (active : Bool) (now : Nat) (beam : Beam) : CoinPath :=
  if active || beam == .s1 then { c with hold := c.hold.put beam (some (now + Config.beamHold)) } else c

/-- An interruption of a watched beam stops the clear run of its jam (R20). -/
def CoinPath.stopRun (c : CoinPath) (beam : Beam) : CoinPath :=
  match beamJam beam with
  | some j => c.putJam j { c.jam j with clearRun := none }
  | none => c

/-- A clear event starts the clear run of a set jam whose beams are now all clear (R20). -/
def CoinPath.startRun (c : CoinPath) (now : Nat) (beam : Beam) : CoinPath :=
  match beamJam beam with
  | some j =>
    if (c.jam j).isSet ∧ c.watchedClear j = true then
      c.putJam j ⟨true, some (now + Config.jamClearRun)⟩
    else c
  | none => c

/-- The coin path's own record of an interruption: levels, hold timers, clear runs and the S2 tracker. -/
def CoinPath.interrupted (c : CoinPath) (active : Bool) (now : Nat) (hit : BeamHit) : CoinPath :=
  let c1 := { c with tracker := c.tracker.interrupted c.beams hit, beams := c.beams.hit hit }
  (hitBeams hit).foldl (fun c b => (c.startHold active now b).stopRun b) c1

/-- The coin path's own record of a clear event: the level, the hold timer and the clear run (R1, R19, R20). -/
def CoinPath.beamCleared (c : CoinPath) (now : Nat) (beam : Beam) : CoinPath :=
  ({ c with beams := c.beams.put beam false, hold := c.hold.put beam none } : CoinPath).startRun now beam

/-- What an interruption does beyond the coin path's record (R3, R7, R28). -/
def State.beamEffect (s : State) (hit : BeamHit) : State :=
  match hit with
  | .one .s1 => if s.isActive then s.enterS1 else s
  | .one .s2a => s
  | .one .s2b => s
  | .one .s3 => s.crossS3
  | .one .s4 => s.crossS4
  | .s2Pair => s

/-- A clear event of a beam of the S2 pair moves the tracker and may take a passage (R2). -/
def State.trackClear (s : State) (beam : Beam) : State :=
  if beam = .s2a ∨ beam = .s2b then
    let r := s.coin.tracker.cleared s.coin.beams
    (s.modCoin fun c => { c with tracker := r.2 }).takePassage r.1
  else s

/-- A held S1 beam sets the ENTRY jam and empties the stage, rejecting a coin not yet decided (R19). -/
def State.entryHeld (s : State) : State :=
  match s.coin.entry with
  | .empty => s
  | .entered => (s.rejectCoin .closed).modCoin CoinPath.stageEmpty
  | .measuredHeld _ => (s.rejectCoin .closed).modCoin CoinPath.stageEmpty
  | .discarding _ => s.modCoin CoinPath.stageEmpty

end Sys2Proof.Machine
end

