-- ==== Sys2Proof/Machine/Chute.lean ====
section
/-!
DEFINITION. The meanings of the coin path's steps: beams, measurements, waits, settles and jams (chapter 1).
-/

namespace Sys2Proof.Machine

/-- BEAM_INTERRUPTED (R1 to R3, R7, R15, R19, R20, R28).  In HOLDUP and OFF no beam is read; its level is kept for the
start that senses it (R22, log entry 21). -/
def execBeamInterrupted (hit : BeamHit) (s : State) : Host.Outcome State Fault Refusal :=
  .next (if s.running then
    s.finish ((s.modCoin fun c => c.interrupted s.isActive s.now hit).beamEffect hit)
  else s.modCoin fun c => { c with beams := c.beams.hit hit })

/-- BEAM_CLEAR (R1, R2, R11, R18, R20). -/
def execBeamClear (beam : Beam) (s : State) : Host.Outcome State Fault Refusal :=
  .next (if s.running then
    s.finish ((s.modCoin fun c => c.beamCleared s.now beam).trackClear beam)
  else s.modCoin fun c => { c with beams := c.beams.put beam false })

/-- What a measurement does (R8, R15). -/
def State.measure (s : State) (t : Triple) : State :=
  match s.coin.entry with
  | .empty => s
  | .measuredHeld _ => s
  | .entered =>
    if s.coin.transit.isSome then s.modCoin fun c => { c with entry := .measuredHeld t, measureTimer := none }
    else s.gateDecision t
  | .discarding n =>
    if n ≤ 1 then s.modCoin CoinPath.stageEmpty else s.modCoin fun c => { c with entry := .discarding (n - 1) }

/-- MEASUREMENT (R8, R9, R15).  The head is unpowered but in ACTIVE (R21). -/
def execMeasurement (m1 m2 m3 : Byte) (s : State) : Host.Outcome State Fault Refusal :=
  .next (if s.isActive then s.finish (s.measure ⟨m1, m2, m3⟩) else s)

/-- What the end of the measurement wait does (R7, R15). -/
def State.measurementMissing (s : State) : State :=
  match s.coin.entry with
  | .entered => (s.modCoin CoinPath.stageEmpty).rejectCoin .noMatch
  | .discarding _ => s.modCoin CoinPath.stageEmpty
  | .empty => s.modCoin CoinPath.stageEmpty
  | .measuredHeld _ => s.modCoin fun c => { c with measureTimer := none }

/-- MEASUREMENT_WAIT_EXPIRY (R7, R15). -/
def execMeasurementWaitExpiry (s : State) : Host.Outcome State Fault Refusal :=
  .next (s.onExpiry s.coin.measureTimer State.measurementMissing)

/-- What the end of the transit wait does (R12). -/
def State.transitLost (s : State) : State :=
  ((s.modCoin fun c => { c with transit := none }).setJam .accept).heldDecision

/-- TRANSIT_WAIT_EXPIRY (R12). -/
def execTransitWaitExpiry (s : State) : Host.Outcome State Fault Refusal :=
  .next (s.onExpiry (s.coin.transit.map fun t => t.openedAt + Config.transitWait) State.transitLost)

/-- RETURN_WAIT_EXPIRY (R14). -/
def execReturnWaitExpiry (s : State) : Host.Outcome State Fault Refusal :=
  .next (s.onExpiry (s.coin.returnWait.head?.map fun t => t + Config.returnWait) fun s =>
    (s.modCoin fun c => { c with returnWait := [] }).setJam .ret)

/-- What the settle of the oldest chute record does (R17, R33). -/
def State.settleOldest (s : State) : State :=
  match s.coin.chute with
  | [] => s
  | r :: rest => (s.modCoin fun c => { c with chute := rest }).settle r

/-- CHUTE_SETTLE (R17, R33). -/
def execChuteSettle (s : State) : Host.Outcome State Fault Refusal :=
  .next (s.onExpiry (s.coin.chute.head?.map fun r => r.passage + Config.settleWindow) State.settleOldest)

/-- What a beam held for more than 3 s does (R19). -/
def State.beamHeld (s : State) (beam : Beam) : State :=
  let s1 := s.modCoin fun c => { c with hold := c.hold.put beam none }
  match beam with
  | .s1 => (s1.setJam .entry).entryHeld
  | .s2a => s1.setJam .accept
  | .s2b => s1.setJam .accept
  | .s3 => s1.setJam .ret
  | .s4 => s1

/-- BEAM_HOLD_EXPIRY (R19). -/
def execBeamHoldExpiry (beam : Beam) (s : State) : Host.Outcome State Fault Refusal :=
  .next (s.onExpiry (s.coin.hold.get beam) fun s => s.beamHeld beam)

/-- JAM_CLEAR_RUN_EXPIRY (R20). -/
def execJamClearRunExpiry (jam : ChuteJam) (s : State) : Host.Outcome State Fault Refusal :=
  .next (s.onExpiry (s.coin.jam jam).clearRun fun s => s.clearJam jam)

end Sys2Proof.Machine
end

