-- ==== Sys2Proof/Machine/Collector.lean ====
section
/-!
DEFINITION. The meanings of the collector terminal's writes and reads and of the service port's timers (chapter 11).

Each request row is one write of that request's frame (R185): it goes to a receive slot, is taken as soon as it can be,
and its reply waits in a transmit slot for SERVICE_READ (log entry 23).
-/

namespace Sys2Proof.Machine

/-- A frame written to the part, which answers its address only while it runs and no restore sequence does (R185). -/
def State.serviceWritten (s : State) (f : ServiceFrame) : State :=
  if s.servicePowered then s.finish (s.serviceFrameIn f) else s

/-- SERVICE_WRITE (R185): the frame that the bytes spell. -/
def execServiceWrite (bytes : List Byte) (s : State) : Host.Outcome State Fault Refusal :=
  .next (s.serviceWritten (serviceFrame bytes))

/-- SERVICE_READ (R185). -/
def execServiceRead (s : State) : Host.Outcome State Fault Refusal :=
  .next (if s.servicePowered then s.finish s.serviceReadOut else s)

/-- SERVICE_FRAME_REFUSED (R185): a write that fails a check, answered with its type as received. -/
def execServiceFrameRefused (bytes : List Byte) (s : State) : Host.Outcome State Fault Refusal :=
  .next (s.serviceWritten (.malformed (bytes.headD 0)))

/-- LOGIN (R186, R187). -/
def execLogin (index : Fin 8) (code : Code) (s : State) : Host.Outcome State Fault Refusal :=
  .next (s.serviceWritten (.login index code))

/-- READ_TOTALS (R186, R189). -/
def execReadTotals (s : State) : Host.Outcome State Fault Refusal := .next (s.serviceWritten .readTotals)

/-- READ_HISTORY (R186, R189). -/
def execReadHistory (index : Byte) (s : State) : Host.Outcome State Fault Refusal :=
  .next (s.serviceWritten (.readHistory index))

/-- READ_EVENTS (R134, R186, R189). -/
def execReadEvents (position : Byte) (s : State) : Host.Outcome State Fault Refusal :=
  .next (s.serviceWritten (.readEvents position))

/-- CLOSE_PERIOD (R186, R190). -/
def execClosePeriod (s : State) : Host.Outcome State Fault Refusal := .next (s.serviceWritten .closePeriod)

/-- LOGOUT (R186, R188). -/
def execLogout (s : State) : Host.Outcome State Fault Refusal := .next (s.serviceWritten .logout)

/-- SESSION_TIMER_EXPIRY (R188). -/
def execSessionTimerExpiry (s : State) : Host.Outcome State Fault Refusal :=
  .next (s.onExpiry s.service.sessionTimer fun s => s.endSession.dropHeldClose.pumpAll)

/-- LOCKOUT_EXPIRY (R187). -/
def execLockoutExpiry (s : State) : Host.Outcome State Fault Refusal :=
  .next (s.onExpiry s.service.lockoutTimer fun s =>
    ((s.modService fun p => { p with lockoutTimer := none }).modConfig fun c => { c with lockout := false }).markSince s
      .config)

end Sys2Proof.Machine
end

