-- ==== Sys2Proof/Machine/Housing.lean ====
section
/-!
DEFINITION. The meanings of the tamper monitor's steps: doors, cord and shock (chapter 7).
-/

namespace Sys2Proof.Machine

/-- The edge itself: the latch and the occurrence, which a collector session exempts for the coin door (R122, R126). -/
def State.doorEdge (s : State) (i : DoorInput) (l : Level) : State :=
  match i with
  | .coinDoor => s.takeExemptEdge .coinDoor l
  | .upperDoor => s.takeEdge .upperDoor l
  | .cord => s.takeEdge .cord l

/-- The CORD's own effect on the service cause and the session (R125). -/
def State.cordEdge (s : State) (i : DoorInput) (l : Level) : State :=
  match i, l with
  | .cord, .opened => s.cordOpened
  | .cord, .closed => s.cordClosed
  | .coinDoor, _ => s
  | .upperDoor, _ => s

/-- The first qualification after a start: a level and no edge; a cord found OPEN sets CORD_CUT (R120). -/
def State.firstLevel (s : State) (i : DoorInput) (l : Level) : State :=
  let s1 := s.modTamper fun t => t.setSwitch i l
  if i = .cord ∧ l = .opened then s1.changeCause .cordCut true else s1

/-- A level of a door or cord switch held for 50 ms: the first reading after a start, a change, or no change (R120,
R122, R125). -/
def State.inputLevel (s : State) (i : DoorInput) (l : Level) : State :=
  if (s.tamper.switch i).qualified then
    if (s.tamper.switch i).level = l then s
    else ((s.modTamper fun t => t.setSwitch i l).doorEdge i l).cordEdge i l
  else s.firstLevel i l

/-- INPUT_EDGE (R120, R122, R125, R126). -/
def execInputEdge (input : DoorInput) (level : Level) (s : State) : Host.Outcome State Fault Refusal :=
  .next (s.whileRunning fun s => s.inputLevel input level)

/-- A shock pulse: it opens the window, with SHOCK's enable as it stands then, or adds to its count (R121, R124). -/
def State.shockHit (s : State) : State :=
  s.modTamper fun t =>
    if t.shockTimer.isSome then { t with shockCount := min (t.shockCount + 1) Config.byteMax }
    else { t with shockCount := 1, shockTimer := some (s.now + Config.shockWindow), shockEnabled := s.enabled .shock }

/-- SHOCK_PULSE (R124). -/
def execShockPulse (s : State) : Host.Outcome State Fault Refusal := .next (s.whileRunning State.shockHit)

/-- The shock window ends: with 5 pulses or more the latch is set and an occurrence raised, when SHOCK was enabled as the
window opened: a change of the enable acts from the next window (R121, R124). -/
def State.shockWindowOver (s : State) : State :=
  let n := s.tamper.shockCount
  let s1 := s.modTamper fun t => { t with shockCount := 0, shockTimer := none, shockEnabled := false }
  if Config.shockThreshold ≤ n then
    let s2 := s1.setLatch .shock
    if s.tamper.shockEnabled then s2.occur .shock (.number n) else s2
  else s1

/-- SHOCK_WINDOW_EXPIRY (R124). -/
def execShockWindowExpiry (s : State) : Host.Outcome State Fault Refusal :=
  .next (s.onExpiry s.tamper.shockTimer State.shockWindowOver)

/-- CORD_RESTORE_EXPIRY (R125). -/
def execCordRestoreExpiry (s : State) : Host.Outcome State Fault Refusal :=
  .next (s.onExpiry s.tamper.cordRestore fun s =>
    (s.modTamper fun t => { t with cordRestore := none }).changeCause .cordCut false)

end Sys2Proof.Machine
end

