-- ==== Sys2Proof/Machine/Line.lean ====
section
/-!
DEFINITION. The meanings of the line unit's steps (chapter 5).
-/

namespace Sys2Proof.Machine

/-- OFF_HOOK (R88). -/
def execOffHook (s : State) : Host.Outcome State Fault Refusal := .next (s.whileRunning State.liftHook)

/-- ON_HOOK (R88, R89). -/
def execOnHook (s : State) : Host.Outcome State Fault Refusal := .next (s.whileRunning State.hangUp)

/-- DIAL_TONE_QUALIFIED (R91, R103): taken in SEIZING. -/
def execDialToneQualified (s : State) : Host.Outcome State Fault Refusal :=
  .next (if s.line.phase = .seizing then s.whileRunning State.dialToneFound else s)

/-- DIAL_TONE_EXPIRY (R91, R103). -/
def execDialToneExpiry (s : State) : Host.Outcome State Fault Refusal :=
  .next (s.onExpiry s.line.dialToneTimer State.noDialTone)

/-- RELEASE_GUARD_END (R92, R109, R111). -/
def execReleaseGuardEnd (s : State) : Host.Outcome State Fault Refusal :=
  .next (s.onExpiry s.line.guardTimer State.guardEnd)

/-- DIGIT (R93, R94, R178, R179). -/
def execDigit (key : Key) (s : State) : Host.Outcome State Fault Refusal :=
  .next (s.transaction fun s => withOutcome 5 (s.keyDigit key))

/-- DIAL_CLEAR (R96, R178, R179). -/
def execDialClear (s : State) : Host.Outcome State Fault Refusal :=
  .next (s.transaction fun s => withOutcome 6 s.clearDial)

/-- FOLLOW_ON (R101, R178, R179). -/
def execFollowOn (s : State) : Host.Outcome State Fault Refusal :=
  .next (s.transaction fun s => withOutcome 7 s.followOn)

/-- DIGIT_SEND_COMPLETE (R97, R98). -/
def execDigitSendComplete (s : State) : Host.Outcome State Fault Refusal :=
  .next (s.onExpiry s.line.digitTimer State.digitSent)

/-- INTER_DIGIT_PAUSE_END (R97). -/
def execInterDigitPauseEnd (s : State) : Host.Outcome State Fault Refusal :=
  .next (s.onExpiry s.line.pauseTimer State.pauseEnded)

/-- INTERDIGIT_EXPIRY (R98). -/
def execInterdigitExpiry (s : State) : Host.Outcome State Fault Refusal :=
  .next (s.onExpiry s.line.interdigitTimer fun s => s.reachEnd.2)

/-- POLARITY_REVERSAL (R99, R103). -/
def execPolarityReversal (s : State) : Host.Outcome State Fault Refusal := .next (s.whileRunning State.polarityReversed)

/-- POLARITY_RETURN (R100, R103). -/
def execPolarityReturn (s : State) : Host.Outcome State Fault Refusal := .next (s.whileRunning State.polarityReturned)

/-- LOOP_CURRENT_LOSS (R100, R103). -/
def execLoopCurrentLoss (s : State) : Host.Outcome State Fault Refusal := .next (s.whileRunning State.currentLost)

/-- TIMED_ANSWER_EXPIRY (R99). -/
def execTimedAnswerExpiry (s : State) : Host.Outcome State Fault Refusal :=
  .next (s.onExpiry s.line.timedAnswerTimer State.answerCall)

/-- ANSWER_TIMER_EXPIRY (R99): a NO_ANSWER release. -/
def execAnswerTimerExpiry (s : State) : Host.Outcome State Fault Refusal :=
  .next (s.onExpiry s.line.answerTimer State.releaseLine)

/-- CLEAR_TIMER_EXPIRY (R100). -/
def execClearTimerExpiry (s : State) : Host.Outcome State Fault Refusal :=
  .next (s.onExpiry s.line.clearTimer State.releaseLine)

/-- RECALL_BREAK_END (R101): the loop closes for a new seizure. -/
def execRecallBreakEnd (s : State) : Host.Outcome State Fault Refusal :=
  .next (s.onExpiry s.line.recallTimer fun s => (s.modLine fun l => { l with recallTimer := none }).seize)

/-- ABANDONMENT_EXPIRY (R102). -/
def execAbandonmentExpiry (s : State) : Host.Outcome State Fault Refusal :=
  .next (s.onExpiry s.line.abandonTimer fun s => s.sessionEnd .abandoned)

/-- RING (R104). -/
def execRing (s : State) : Host.Outcome State Fault Refusal := .next (s.whileRunning State.ringOnce)

/-- RING_SILENCE_EXPIRY (R104, R110). -/
def execRingSilenceExpiry (s : State) : Host.Outcome State Fault Refusal :=
  .next (s.onExpiry s.line.silenceTimer State.ringsOver)

/-- LINE_VOLTAGE_ABSENT (R105). -/
def execLineVoltageAbsent (s : State) : Host.Outcome State Fault Refusal := .next (s.whileRunning State.voltageLost)

/-- LINE_VOLTAGE_PRESENT (R105). -/
def execLineVoltagePresent (s : State) : Host.Outcome State Fault Refusal := .next (s.whileRunning State.voltageBack)

end Sys2Proof.Machine
end

