-- ==== Sys2Proof/Machine/Rating.lean ====
section
/-!
DEFINITION. The meanings of the rating unit's steps: the period timer, the warning timer and the meter pulse (chapter 4).
-/

namespace Sys2Proof.Machine

/-- PERIOD_EXPIRY (R73, R75). -/
def execPeriodExpiry (s : State) : Host.Outcome State Fault Refusal :=
  .next (s.onExpiry s.rating.periodTimer fun s =>
    (s.modRating fun r => { r with periodTimer := none }).stepCharge)

/-- What the end of the warning timer does (R78): the check with the warning lead as offset. -/
def State.warningDue (s : State) : State :=
  let s1 := s.modRating fun r => { r with warningTimer := none }
  match s1.rating.phase, s1.rating.tariff with
  | .running, some t => s1.warningCheck t (imageWarningLead s1.activeBytes)
  | _, _ => s1

/-- WARNING_TIMER_EXPIRY (R78). -/
def execWarningTimerExpiry (s : State) : Host.Outcome State Fault Refusal :=
  .next (s.onExpiry s.rating.warningTimer State.warningDue)

/-- What a qualified meter pulse does: in PULSE mode, the answer in AWAIT_ANSWER and a step pulse in CONNECTED of a USER
call; elsewhere nothing (R69, R74, R97, R99, R100, R103). -/
def State.pulse (s : State) : State :=
  if s.line.purpose = .user ∧ s.line.answerMode = .pulse then
    match s.line.phase with
    | .awaitAnswer => s.answerCall
    | .connected => s.stepCharge
    | .idle => s
    | .ringIn => s
    | .seizing => s
    | .ready => s
    | .dialling => s
    | .cleared => s
    | .recall => s
    | .data => s
    | .releasing => s
  else s

/-- METER_PULSE (R69, R74). -/
def execMeterPulse (s : State) : Host.Outcome State Fault Refusal := .next (s.whileRunning State.pulse)

end Sys2Proof.Machine
end

