-- ==== Sys2Proof/Machine/Release.lean ====
section
/-!
DEFINITION. The meanings of the credit unit's own steps: the confirmation and retry timers of releases, and the box
presence switch (chapter 2).
-/

namespace Sys2Proof.Machine

/-- A release fails from a clear jam: the head leaves the queue, the RELEASE jam is set with its 2 s retry timer, and
COIN_JAM(RELEASE) is raised (R29, R30). -/
def State.releaseFails (s : State) : State :=
  ((((s.dropHead).modCredit fun c =>
    { c with inFlight := none, releaseJam := true, retryTimer := some (s.now + Config.releaseRetry) }).occur .jamRelease
      .absent).changeCause .coinJam true)

/-- A retry fails: its entry stays at the head and the retry timer restarts (R30). -/
def State.retryFails (s : State) : State :=
  s.modCredit fun c => { c with inFlight := none, retryTimer := some (s.now + Config.releaseRetry) }

/-- What the end of the confirmation timer does (R29, R30).  A retry in flight whose jam a stray S4 crossing has cleared
meanwhile ends as an ordinary release (log entry 46). -/
def State.unconfirmed (s : State) : State := if s.credit.releaseJam then s.retryFails else s.releaseFails

/-- RELEASE_CONFIRM_EXPIRY (R29). -/
def execReleaseConfirmExpiry (s : State) : Host.Outcome State Fault Refusal :=
  .next (s.onExpiry (s.credit.inFlight.map fun t => t + Config.releaseConfirm) State.unconfirmed)

/-- What the end of the retry timer does: a retry of the head, or the timer again when none can be made (R30). -/
def State.retryRelease (s : State) : State :=
  if s.isActive && s.headCanStart then s.modCredit fun c => { c with inFlight := some s.now, retryTimer := none }
  else s.modCredit fun c => { c with retryTimer := some (s.now + Config.releaseRetry) }

/-- RELEASE_RETRY_EXPIRY (R30). -/
def execReleaseRetryExpiry (s : State) : Host.Outcome State Fault Refusal :=
  .next (s.onExpiry s.credit.retryTimer State.retryRelease)

/-- The level of the BOX input that a seated or withdrawn box gives (section 7.1). -/
def boxLevel (seated : Bool) : Level := if seated then .closed else .opened

/-- Box present and the BOX input take a qualified level (R38, R120). -/
def State.setBox (s : State) (seated : Bool) : State :=
  (s.modCredit fun c => { c with boxPresent := seated, boxQualified := true }).modTamper fun t =>
    { t with box := ⟨boxLevel seated, true⟩ }

/-- A qualified level of the box switch: the first after a start is no edge (R38, R120); a change is an edge, which the
swap tracker follows (R122, R126). -/
def State.boxSwitch (s : State) (seated : Bool) : State :=
  if s.credit.boxQualified then
    if s.credit.boxPresent = seated then s
    else ((s.setBox seated).modTamper fun t => t.followBox (boxLevel seated)).takeExemptEdge .box (boxLevel seated)
  else s.setBox seated

/-- BOX_SWITCH_QUALIFIED (R38, R120, R122, R126). -/
def execBoxSwitchQualified (seated : Bool) (s : State) : Host.Outcome State Fault Refusal :=
  .next (s.whileRunning fun s => s.boxSwitch seated)

end Sys2Proof.Machine
end

