-- ==== Sys2Proof/Machine/SetPort.lean ====
section
/-!
DEFINITION. The meanings of the set processor's requests that the set port carries out or hands to the clock and the
event queue, and of its reset line (chapter 10).
-/

namespace Sys2Proof.Machine

/-- STATUS_READ (R179, R180). -/
def execStatusRead (s : State) : Host.Outcome State Fault Refusal :=
  .next (s.transaction fun s => (some ⟨1, .status, none, s.statusBytes⟩, s))

/-- NOTICE_READ (R179, R182). -/
def execNoticeRead (s : State) : Host.Outcome State Fault Refusal :=
  .next (s.transaction fun s => (some ⟨2, .notices, none, s.noticeBytes⟩, s))

/-- NOTICE_CLEAR (R123, R179, R182). -/
def execNoticeClear (mask : Half) (s : State) : Host.Outcome State Fault Refusal :=
  .next (s.transaction fun s => (some (takenReply 3), s.clearNotices mask))

/-- NOTICE_ENABLE (R179, R182). -/
def execNoticeEnable (mask : Half) (s : State) : Host.Outcome State Fault Refusal :=
  .next (s.transaction fun s =>
    (some (takenReply 4), s.modSetPort fun p => { p with enableSet := noticeSet mask }))

/-- CLOCK_SET at the set port (R176, R179). -/
def execSetPortClockSet (dayCount : Half) (day : Byte) (second : BitVec 24) (s : State) :
    Host.Outcome State Fault Refusal :=
  .next (s.transaction fun s => withOutcome 8 (s.offerClock ⟨dayCount.toNat, day.toNat, second.toNat⟩))

/-- KEYPAD_FAULT (R128, R179). -/
def execKeypadFault (key : Byte) (s : State) : Host.Outcome State Fault Refusal :=
  .next (s.transaction fun s => (some (takenReply 9), s.occur .keypad (.number key.toNat)))

/-- The reply to a transaction that fails the checks of R178: REFUSED(FORMAT), with the type as received; a transaction
with the idle type or no byte is read-only. -/
def formatReply : List Byte → Option SetReply
  | [] => none
  | t :: _ => if t = 0 then none else some (refusedReply t .format)

/-- SET_FRAME_REFUSED (R178). -/
def execSetFrameRefused (bytes : List Byte) (s : State) : Host.Outcome State Fault Refusal :=
  .next (s.transaction fun s => (formatReply bytes, s))

/-- What a qualified reset does: nothing while the line is still low from the last one, which is one reset; else it is
carried out, or held while the restore sequence runs (R183). -/
def State.takeReset (s : State) : State :=
  if s.setPort.resetLow then s
  else
    let s1 := s.modSetPort fun p => { p with resetLow := true }
    if s.power.restoring then s1.modPower fun p => { p with held := p.held ++ [.reset] } else s1.resetEffects

/-- RESET_LINE (R183): taken in ACTIVE and STANDBY, at the end of a running restore sequence, and not otherwise. -/
def execResetLine (s : State) : Host.Outcome State Fault Refusal := .next (s.whileRunning State.takeReset)

/-- RESET_LINE_RELEASE (R183): transactions are taken again. -/
def execResetLineRelease (s : State) : Host.Outcome State Fault Refusal :=
  .next (s.modSetPort fun p => { p with resetLow := false })

end Sys2Proof.Machine
end

