-- ==== Sys2Proof/Machine/Supply.lean ====
section
/-!
DEFINITION. The meanings of the ledger store's, the supply's and the clock's steps (chapter 9).
-/

namespace Sys2Proof.Machine

/-! ## Writes (R168, R172) -/

/-- A write completes while the part runs: a held CLOSE_PERIOD makes its checks again (R168, R190). -/
def State.writeDone (s : State) (w : SectionWrite) : State := (s.completeWrite w).recheckClose

/-- A power return from HOLDUP that waits for the end of the drain is made (R172). -/
def State.returnIfDrained (s : State) : State :=
  if s.drained && s.power.returnPending then s.powerReturn false else s

/-- SECTION_WRITE_COMPLETE (R165, R166, R168, R172, R190). -/
def execSectionWriteComplete (s : State) : Host.Outcome State Fault Refusal :=
  .next (match s.ledger.writing, s.power.state with
    | some w, .active => s.finish ((s.reach w.ends).writeDone w)
    | some w, .standby => s.finish ((s.reach w.ends).writeDone w)
    | some w, .holdup => s.finish (((s.reach w.ends).completeWrite w).returnIfDrained)
    | some _, .off => s
    | none, _ => s)

/-! ## Supply (R171, R172) -/

/-- The warning is asserted in ACTIVE or STANDBY: HOLDUP at once, or at the end of a running restore sequence (R171). -/
def State.warned (s : State) : State :=
  let s1 := s.modPower fun p => { p with warningLevel := true }
  if s.power.restoring then
    s1.modPower fun p => if p.held.contains .warning then p else { p with held := p.held ++ [.warning] }
  else s1.enterHoldup

/-- POWER_WARNING_ASSERT (R171, R172). -/
def execPowerWarningAssert (s : State) : Host.Outcome State Fault Refusal :=
  .next (match s.power.state with
    | .active => s.finish s.warned
    | .standby => s.finish s.warned
    | .holdup => s.modPower fun p => { p with warningLevel := true, clearTimer := none, returnPending := false }
    | .off => s)

/-- POWER_WARNING_CLEAR (R172). -/
def execPowerWarningClear (s : State) : Host.Outcome State Fault Refusal :=
  .next (match s.power.state with
    | .active => s.modPower fun p => { p with warningLevel := false }
    | .standby => s.modPower fun p => { p with warningLevel := false }
    | .holdup => s.modPower fun p => { p with warningLevel := false, clearTimer := some (s.now + Config.warningClear) }
    | .off => s)

/-- What the end of the warning clear timer does: the power return, or its wait for the drain (R172). -/
def State.warningOver (s : State) : State :=
  let s1 := s.modPower fun p => { p with clearTimer := none, returnPending := true }
  s1.returnIfDrained

/-- WARNING_CLEAR_EXPIRY (R172, R173). -/
def execWarningClearExpiry (s : State) : Host.Outcome State Fault Refusal :=
  .next (match s.power.clearTimer, s.power.state with
    | some t, .holdup => s.finish (s.reach t).warningOver
    | _, _ => s)

/-- SUPPLY_LOSS (R168, R172). -/
def execSupplyLoss (s : State) : Host.Outcome State Fault Refusal :=
  .next (match s.power.state with
    | .active => s.enterOff
    | .standby => s.enterOff
    | .holdup => s.enterOff
    | .off => s)

/-- POWER_RETURN_FROM_OFF (R172 to R174). -/
def execPowerReturnFromOff (s : State) : Host.Outcome State Fault Refusal :=
  .next (match s.power.state with
    | .off => s.finish ((s.modPower fun p => { p with warningLevel := false }).powerReturn true)
    | .active => s
    | .standby => s
    | .holdup => s)

/-- A held warning or reset is taken at the end of the restore sequence (R171, R183). -/
def State.takeHeld (s : State) (e : HeldEvent) : State :=
  if s.running then
    match e with
    | .warning =>
      let s1 := s.enterHoldup
      if s1.power.warningLevel then s1
      else s1.modPower fun p => { p with clearTimer := some (s.now + Config.warningClear) }
    | .reset => s.resetEffects
  else s

/-- The restore sequence ends: a restored lockout runs its 15 min from here, and what was held back is taken in the order
in which it came (R171, R173, R183, R187). -/
def State.restoreOver (s : State) : State :=
  s.power.held.foldl State.takeHeld
    ((s.modPower fun p => { p with restoring := false, held := [] }).restartLockout)

/-- RESTORE_SEQUENCE_END (R171, R173, R183). -/
def execRestoreSequenceEnd (s : State) : Host.Outcome State Fault Refusal :=
  .next (if s.power.restoring then s.whileRunning State.restoreOver else s)

/-! ## Clock (R175) -/

/-- The clock one second later (R175). -/
def Clock.tick (c : Clock) (now : Nat) : Clock :=
  if c.second + 1 < 86400 then { c with second := c.second + 1, secondStart := now }
  else
    { c with second := 0, day := if c.day + 1 < 7 then c.day + 1 else 0,
             dayCount := if c.dayCount + 1 < 65536 then c.dayCount + 1 else 0, secondStart := now }

/-- The daily arrival: the valid clock stands at second 0 of the daily report minute (R142). -/
def State.dailyArrival (s : State) : Bool :=
  s.clock.valid && (match s.config.dailyTime with
    | some m => s.clock.second == m * 60
    | none => false)

/-- The daily due flag is set at an arrival with a record PENDING (R142). -/
def State.takeDaily (s : State) : State :=
  if s.dailyArrival && decide (0 < s.pendingCount) then s.modCentre fun c => { c with dailyDue := true } else s

/-- Greatest value of the elapsed-time base (R130). -/
def elapsedMax : Nat := 4294967295

/-- A second passes: the clock and the elapsed-time base (R130, R175). -/
def State.secondPasses (s : State) : State :=
  let s1 := s.reach (s.clock.secondStart + 1000)
  (s1.modClock fun c => c.tick s1.now).modElapsed fun n => satAdd elapsedMax n 1

/-- CLOCK_SECOND (R130, R142, R175). -/
def execClockSecond (s : State) : Host.Outcome State Fault Refusal :=
  .next (match s.power.state with
    | .active => s.finish s.secondPasses.takeDaily
    | .standby => s.finish s.secondPasses.takeDaily
    | .holdup => s.secondPasses
    | .off => s)

end Sys2Proof.Machine
end

