-- ==== Sys2Proof/Machine/Dispatch.lean ====
section
/-!
DEFINITION. The meaning of every command of spec/opcode_table.json, one arm each, in the table's order.
-/

namespace Sys2Proof.Machine

/-- A command's effect on everything but the queue. -/
def exec (i : Instr) (s : State) : Host.Outcome State Fault Refusal :=
  match i with
  | .beamInterrupted hit => Sys2Proof.Machine.execBeamInterrupted hit s
  | .beamClear beam => Sys2Proof.Machine.execBeamClear beam s
  | .measurement m1 m2 m3 => Sys2Proof.Machine.execMeasurement m1 m2 m3 s
  | .measurementWaitExpiry => Sys2Proof.Machine.execMeasurementWaitExpiry s
  | .transitWaitExpiry => Sys2Proof.Machine.execTransitWaitExpiry s
  | .returnWaitExpiry => Sys2Proof.Machine.execReturnWaitExpiry s
  | .chuteSettle => Sys2Proof.Machine.execChuteSettle s
  | .beamHoldExpiry beam => Sys2Proof.Machine.execBeamHoldExpiry beam s
  | .jamClearRunExpiry jam => Sys2Proof.Machine.execJamClearRunExpiry jam s
  | .releaseConfirmExpiry => Sys2Proof.Machine.execReleaseConfirmExpiry s
  | .releaseRetryExpiry => Sys2Proof.Machine.execReleaseRetryExpiry s
  | .boxSwitchQualified seated => Sys2Proof.Machine.execBoxSwitchQualified seated s
  | .stageClear number payload => Sys2Proof.Machine.execStageClear number payload s
  | .blockLoad number payload => Sys2Proof.Machine.execBlockLoad number payload s
  | .stageActivate number payload => Sys2Proof.Machine.execStageActivate number payload s
  | .periodExpiry => Sys2Proof.Machine.execPeriodExpiry s
  | .warningTimerExpiry => Sys2Proof.Machine.execWarningTimerExpiry s
  | .meterPulse => Sys2Proof.Machine.execMeterPulse s
  | .offHook => Sys2Proof.Machine.execOffHook s
  | .onHook => Sys2Proof.Machine.execOnHook s
  | .dialToneQualified => Sys2Proof.Machine.execDialToneQualified s
  | .dialToneExpiry => Sys2Proof.Machine.execDialToneExpiry s
  | .releaseGuardEnd => Sys2Proof.Machine.execReleaseGuardEnd s
  | .digit key => Sys2Proof.Machine.execDigit key s
  | .dialClear => Sys2Proof.Machine.execDialClear s
  | .followOn => Sys2Proof.Machine.execFollowOn s
  | .digitSendComplete => Sys2Proof.Machine.execDigitSendComplete s
  | .interDigitPauseEnd => Sys2Proof.Machine.execInterDigitPauseEnd s
  | .interdigitExpiry => Sys2Proof.Machine.execInterdigitExpiry s
  | .polarityReversal => Sys2Proof.Machine.execPolarityReversal s
  | .polarityReturn => Sys2Proof.Machine.execPolarityReturn s
  | .loopCurrentLoss => Sys2Proof.Machine.execLoopCurrentLoss s
  | .timedAnswerExpiry => Sys2Proof.Machine.execTimedAnswerExpiry s
  | .answerTimerExpiry => Sys2Proof.Machine.execAnswerTimerExpiry s
  | .clearTimerExpiry => Sys2Proof.Machine.execClearTimerExpiry s
  | .recallBreakEnd => Sys2Proof.Machine.execRecallBreakEnd s
  | .abandonmentExpiry => Sys2Proof.Machine.execAbandonmentExpiry s
  | .ring => Sys2Proof.Machine.execRing s
  | .ringSilenceExpiry => Sys2Proof.Machine.execRingSilenceExpiry s
  | .lineVoltageAbsent => Sys2Proof.Machine.execLineVoltageAbsent s
  | .lineVoltagePresent => Sys2Proof.Machine.execLineVoltagePresent s
  | .yieldLimitExpiry => Sys2Proof.Machine.execYieldLimitExpiry s
  | .resumeHoldOffExpiry => Sys2Proof.Machine.execResumeHoldOffExpiry s
  | .windowTimerExpiry => Sys2Proof.Machine.execWindowTimerExpiry s
  | .windowSpacingExpiry => Sys2Proof.Machine.execWindowSpacingExpiry s
  | .inputEdge input level => Sys2Proof.Machine.execInputEdge input level s
  | .shockPulse => Sys2Proof.Machine.execShockPulse s
  | .shockWindowExpiry => Sys2Proof.Machine.execShockWindowExpiry s
  | .cordRestoreExpiry => Sys2Proof.Machine.execCordRestoreExpiry s
  | .routineTimerExpiry => Sys2Proof.Machine.execRoutineTimerExpiry s
  | .backoffExpiry => Sys2Proof.Machine.execBackoffExpiry s
  | .greet number payload => Sys2Proof.Machine.execGreet number payload s
  | .ack number payload => Sys2Proof.Machine.execAck number payload s
  | .reject number payload => Sys2Proof.Machine.execReject number payload s
  | .badFrame => Sys2Proof.Machine.execBadFrame s
  | .unknownFrameType ftype number payload => Sys2Proof.Machine.execUnknownFrameType ftype number payload s
  | .frameGapExpiry => Sys2Proof.Machine.execFrameGapExpiry s
  | .turnaroundExpiry => Sys2Proof.Machine.execTurnaroundExpiry s
  | .frameSent => Sys2Proof.Machine.execFrameSent s
  | .auditRead number payload => Sys2Proof.Machine.execAuditRead number payload s
  | .queueRead number payload => Sys2Proof.Machine.execQueueRead number payload s
  | .clockSet number payload => Sys2Proof.Machine.execClockSet number payload s
  | .serviceSet number payload => Sys2Proof.Machine.execServiceSet number payload s
  | .configSet number payload => Sys2Proof.Machine.execConfigSet number payload s
  | .endTurn number payload => Sys2Proof.Machine.execEndTurn number payload s
  | .awaitAnswerExpiry => Sys2Proof.Machine.execAwaitAnswerExpiry s
  | .awaitGreetExpiry => Sys2Proof.Machine.execAwaitGreetExpiry s
  | .helloTimerExpiry => Sys2Proof.Machine.execHelloTimerExpiry s
  | .uploadTimerExpiry => Sys2Proof.Machine.execUploadTimerExpiry s
  | .idleTimerExpiry => Sys2Proof.Machine.execIdleTimerExpiry s
  | .resetYieldExpiry => Sys2Proof.Machine.execResetYieldExpiry s
  | .sectionWriteComplete => Sys2Proof.Machine.execSectionWriteComplete s
  | .powerWarningAssert => Sys2Proof.Machine.execPowerWarningAssert s
  | .powerWarningClear => Sys2Proof.Machine.execPowerWarningClear s
  | .warningClearExpiry => Sys2Proof.Machine.execWarningClearExpiry s
  | .supplyLoss => Sys2Proof.Machine.execSupplyLoss s
  | .powerReturnFromOff => Sys2Proof.Machine.execPowerReturnFromOff s
  | .restoreSequenceEnd => Sys2Proof.Machine.execRestoreSequenceEnd s
  | .clockSecond => Sys2Proof.Machine.execClockSecond s
  | .statusRead => Sys2Proof.Machine.execStatusRead s
  | .noticeRead => Sys2Proof.Machine.execNoticeRead s
  | .noticeClear mask => Sys2Proof.Machine.execNoticeClear mask s
  | .noticeEnable mask => Sys2Proof.Machine.execNoticeEnable mask s
  | .setPortClockSet dayCount day second => Sys2Proof.Machine.execSetPortClockSet dayCount day second s
  | .keypadFault key => Sys2Proof.Machine.execKeypadFault key s
  | .setFrameRefused bytes => Sys2Proof.Machine.execSetFrameRefused bytes s
  | .resetLine => Sys2Proof.Machine.execResetLine s
  | .serviceWrite bytes => Sys2Proof.Machine.execServiceWrite bytes s
  | .serviceRead => Sys2Proof.Machine.execServiceRead s
  | .serviceFrameRefused bytes => Sys2Proof.Machine.execServiceFrameRefused bytes s
  | .login index code => Sys2Proof.Machine.execLogin index code s
  | .readTotals => Sys2Proof.Machine.execReadTotals s
  | .readHistory index => Sys2Proof.Machine.execReadHistory index s
  | .readEvents position => Sys2Proof.Machine.execReadEvents position s
  | .closePeriod => Sys2Proof.Machine.execClosePeriod s
  | .logout => Sys2Proof.Machine.execLogout s
  | .sessionTimerExpiry => Sys2Proof.Machine.execSessionTimerExpiry s
  | .lockoutExpiry => Sys2Proof.Machine.execLockoutExpiry s
  | .resetLineRelease => Sys2Proof.Machine.execResetLineRelease s

end Sys2Proof.Machine
end

