-- ==== Sys2Proof/Machine/Step.lean ====
section
/-!
DEFINITION. One step of the part: the command at the front of the queue, or a millisecond of the time base when none
waits.
-/

namespace Sys2Proof.Machine

/-- A millisecond passes with no command waiting: the time base advances, a frame that waits for the centre's carrier to
end starts when it has, and the drain goes on unless the part is OFF (log entries 1 and 55). -/
def State.tick (s : State) : State :=
  let s1 := s.modNow fun n => n + 1
  match s.power.state with
  | .active => (s1.modModem Modem.startNext).startDrain
  | .standby => s1.startDrain
  | .holdup => s1.startDrain
  | .off => s1

/-- One step: the command at the front of the queue is taken and carried out with the queue's rest (chapter 1.1 of
95_what_each_step_holds.md: each is whole and indivisible). -/
def step (s : State) : Host.Outcome State Fault Refusal :=
  match s.pending with
  | c :: rest => exec c (s.modPending fun _ => rest)
  | [] => .next s.tick

/-- `s` with the command that a word spells at the front of its queue; `s` itself where the word spells none. -/
def State.withFetchWord (s : State) (nbits w : Nat) : State :=
  match decodeTableWord nbits w with
  | some c => s.modPending fun cs => c :: cs
  | none => s

end Sys2Proof.Machine
end

