-- ==== Sys2Proof/Safety.lean ====
section
/-!
DEFINITION. What a safe run keeps, in the terms that the statements use: the invariants of chapters 1 to 11, and the groups
of state that a frame names.
-/

namespace Sys2Proof.Machine

/-! ## Memory -/

/-- Every tariff image, live and stored, is in canonical form. -/
abbrev State.ImagesCanonical (s : State) : Prop :=
  memWf s.image0.bytes = true ∧ memWf s.image1.bytes = true ∧ memWf s.nv.image0.contents.bytes = true
    ∧ memWf s.nv.image1.contents.bytes = true

/-! ## Ledger (R164, R165, R167) -/

/-- The dirty list never holds a section twice (R167). -/
abbrev State.DirtyOnce (s : State) : Prop := s.ledger.dirty.Nodup

/-- The write in flight is of this section. -/
def State.isWriting (s : State) (n : Section) : Bool :=
  match s.ledger.writing with
  | some w => w.name == n
  | none => false

/-- A two-slot section, whose contents' bytes `bytes` gives, mirrors its live contents: unless the section is on the dirty
list, the newest valid copy holds them, or they are what the write in flight has captured for a slot that will be the newest
(R165, R167, R168). -/
def State.Mirrors {α : Type} (s : State) (n : Section) (bytes : α → List Byte) (t : TwoSlot α) (live : α) : Prop :=
  (s.ledger.dirty.contains n = false → s.isWriting n = false → t.restored bytes = some live) ∧
  (∀ w, s.ledger.writing = some w → w.name = n →
    w.slot = t.target bytes ∧ (t.slot w.slot).check = none ∧ (t.slot w.slot).generation = t.nextGeneration bytes ∧
    (s.ledger.dirty.contains n = false → (t.slot w.slot).contents = live))

/-- An image section mirrors its slot: unless it is on the dirty list, a valid copy holds the live contents, and a write in
flight has captured them (R166, R167, R168). -/
def State.MirrorsImage (s : State) (n : Section) (stored : NvImage) (live : ImageSection) : Prop :=
  (s.ledger.dirty.contains n = false → s.isWriting n = false → stored.valid = true → stored.contents = live) ∧
  (s.isWriting n = true → s.ledger.dirty.contains n = false → stored.contents = live)

/-- Every section whose live contents differ from its newest valid stored copy is on the dirty list or being written
(R167).  In OFF nothing is live. -/
def State.LedgerMirrors (s : State) : Prop :=
  s.power.state = .off ∨
  (s.Mirrors .config ConfigSection.encode s.nv.config s.config ∧ s.Mirrors .lifetime Totals.encode s.nv.lifetime s.lifetime ∧
    s.Mirrors .period Totals.encode s.nv.period s.period ∧ s.Mirrors .history historySection s.nv.history s.history ∧
    s.Mirrors .call CallSection.encode s.nv.call s.call ∧ s.Mirrors .events EventsSection.encode s.nv.events s.events.stored ∧
    s.MirrorsImage .image0 s.nv.image0 s.image0 ∧ s.MirrorsImage .image1 s.nv.image1 s.image1)

/-! ## Event queue (R131, R132) -/

/-- The records of a pair that have not been reported. -/
def unreported (records : List EventRecord) (p : EventPair) : List EventRecord := records.filter (·.takes p)

/-- At most 20 records, and never two of the same pair that are both not REPORTED (R131). -/
def queueInOrder (records : List EventRecord) : Prop :=
  records.length ≤ Config.recordsMax ∧ ∀ p, (unreported records p).length ≤ 1

/-- The event queue, live and stored, is in order. -/
def State.EventsInOrder (s : State) : Prop :=
  queueInOrder s.events.records ∧ queueInOrder s.nv.events.slot0.contents.records ∧
    queueInOrder s.nv.events.slot1.contents.records

/-! ## Money (R31, R42) -/

/-- No lifetime total has reached its ceiling (R41, R42). -/
abbrev Totals.unsaturated (t : Totals) : Prop :=
  t.settled < Config.totalMax ∧ t.collected < Config.totalMax ∧ t.refunded < Config.totalMax ∧
    t.charged < Config.totalMax ∧ t.forfeited < Config.totalMax

/-- The two equalities of R42. -/
abbrev State.MoneyAgrees (s : State) : Prop :=
  s.lifetime.settled = s.lifetime.collected + s.lifetime.refunded + escrowValue s.call.escrow ∧
    s.lifetime.collected = s.lifetime.charged + s.lifetime.forfeited + s.call.credit

/-! ## Column (R23, R24, R26) -/

/-- Chute records routed ESCROW. -/
def escrowRouted (chute : List ChuteRecord) : Nat := (chute.filter (·.route == .escrow)).length

/-- The coin in transit is on its way to the escrow column. -/
def CoinPath.transitToEscrow (c : CoinPath) : Nat :=
  match c.transit with
  | some t => if t.route = .escrow then 1 else 0
  | none => 0

/-- Stored escrow records and release entries fit the column (R24). -/
abbrev CallSection.fits (c : CallSection) : Prop := c.escrow.length + c.queue.length ≤ Config.columnMax

/-- The chute mirror counts the ESCROW records of the chute, and the column holds at most 8 coins with the one on its way
to it (R23, R24). -/
abbrev State.ColumnFits (s : State) : Prop :=
  s.credit.mirrorEscrow = escrowRouted s.coin.chute ∧ s.occupancy + s.coin.transitToEscrow ≤ Config.columnMax ∧
    s.nv.call.slot0.contents.fits ∧ s.nv.call.slot1.contents.fits

/-! ## Line (R90, R109, R111) -/

/-- The seizure purpose is the line owner, the loop is closed only while an owner is recorded, a seizure up to its answer wait is
USER's or REPORT's (POLL closes the loop in DATA), an answered call and a recall are USER's, and the recall break, the timed
answer and the release guard run only in their phases (R90, R92, R99, R101, R104, R109). -/
abbrev State.LoopHasOwner (s : State) : Prop :=
  s.line.purpose = s.arbiter.owner ∧ (s.line.phase.loopClosed = true → s.arbiter.owner ≠ .none) ∧
    (s.line.phase = .seizing ∨ s.line.phase = .ready ∨ s.line.phase = .dialling ∨ s.line.phase = .awaitAnswer →
      s.arbiter.owner = .user ∨ s.arbiter.owner = .report) ∧
    (s.line.phase = .connected ∨ s.line.phase = .cleared ∨ s.line.phase = .recall → s.arbiter.owner = .user) ∧
    (s.line.recallTimer ≠ none → s.line.phase = .recall) ∧
    (s.line.timedAnswerTimer ≠ none → s.line.phase = .awaitAnswer ∧ s.line.purpose = .user) ∧
    (s.line.guardTimer ≠ none → s.line.phase = .releasing)

/-! ## Bounds (R6, R11, R14, R104, R185, R190) -/

/-- Chute list, return wait list, ring count, service slots and history stay within their bounds; a held CLOSE_PERIOD has a
transmit slot left for its reply. -/
abbrev State.ListsBounded (s : State) : Prop :=
  s.coin.chute.length + (if s.coin.transit.isSome then 1 else 0) ≤ Config.chuteMax ∧
    s.coin.returnWait.length ≤ Config.returnWaitMax ∧ s.line.ringCount ≤ Config.ringMax ∧
    s.service.rx.length ≤ Config.slotMax ∧
    s.service.tx.length + (if s.service.closing then 1 else 0) ≤ Config.slotMax ∧
    s.history.length ≤ Config.historyMax ∧ s.nv.history.slot0.contents.length ≤ Config.historyMax ∧
    s.nv.history.slot1.contents.length ≤ Config.historyMax

/-! ## Groups of state that a frame names -/

/-- The money of the session and the totals are as before. -/
abbrev SameMoney (s t : State) : Prop := t.call = s.call ∧ t.lifetime = s.lifetime ∧ t.period = s.period

/-- Configuration and both image slots are as before. -/
abbrev SameStore (s t : State) : Prop := t.config = s.config ∧ t.image0 = s.image0 ∧ t.image1 = s.image1

/-- The housing inputs, the service causes and the event queue are as before. -/
abbrev SameHousing (s t : State) : Prop := t.tamper = s.tamper ∧ t.events = s.events

/-- The coin path and the release in flight are as before. -/
abbrev SameChute (s t : State) : Prop := t.coin = s.coin ∧ t.credit = s.credit

/-- The line, the call record, the arbiter, the centre link and the modem are as before. -/
abbrev SameLine (s t : State) : Prop :=
  t.line = s.line ∧ t.rating = s.rating ∧ t.arbiter = s.arbiter ∧ t.centre = s.centre ∧ t.modem = s.modem

/-- The clock, the elapsed-time base and the power state are as before. -/
abbrev SameClock (s t : State) : Prop := t.clock = s.clock ∧ t.elapsed = s.elapsed ∧ t.power = s.power

/-- The service port and the history are as before. -/
abbrev SameService (s t : State) : Prop := t.service = s.service ∧ t.history = s.history

/-- Dirty list, write in flight and nonvolatile memory are as before. -/
abbrev SameLedger (s t : State) : Prop := t.ledger = s.ledger ∧ t.nv = s.nv

/-! ## States in which nothing is left to do at the end of a step -/

/-- The line is not free, so that no grant is due (R111). -/
abbrev State.lineTaken (s : State) : Prop := s.arbiter.owner ≠ .none

/-- The part is ACTIVE, a USER, REPORT or POLL owner holds it so, and no CLOSE_PERIOD is held (R109, R170, R190). -/
abbrev State.busy (s : State) : Prop := s.power.state = .active ∧ s.lineTaken ∧ s.service.closing = false

/-- The tests at the end of a step cannot move the line, the power state or a held CLOSE_PERIOD (log entry 3): the part is
ACTIVE and held so, the line is not free, and no CLOSE_PERIOD is held. -/
abbrev State.calm (s : State) : Prop :=
  s.power.state = .active ∧ s.lineFree = false ∧ s.holdsActive = true ∧ s.service.closing = false

/-- The state without what the tests at the end of a step keep up to date in a calm state: nonvolatile memory and the dirty
list (R167, R168), the REPORT request and its routine timer (R139), and the start of a release (R27).  Two states that are
equal so are equal in everything else. -/
def State.beforeTests (s : State) : State :=
  { s with
    nv := .blank
    ledger := ⟨[], none⟩
    centre := { s.centre with routineTimer := none, routineFor := none, routineReached := false }
    arbiter := { s.arbiter with reportHeld := false }
    credit := { s.credit with inFlight := none } }

/-! ## What the rules' tables say -/

/-- The return wait list after `n` coins are rejected now: none is added while the RETURN jam is set, and none beyond 8
(R14). -/
def CoinPath.expects (c : CoinPath) (n now : Nat) : List Nat :=
  if c.jamReturn.isSet then c.returnWait
  else c.returnWait ++ (List.replicate n now).take (Config.returnWaitMax - c.returnWait.length)

/-- The entry stage after an S1 entry and the number of coins the entry rejects (R7, R15). -/
def EntryStage.afterEntry : EntryStage → EntryStage × Nat
  | .empty => (.entered, 0)
  | .entered => (.discarding 2, 2)
  | .measuredHeld _ => (.discarding 1, 2)
  | .discarding n => (.discarding (min (n + 1) 4), 1)

/-- The totals after a settle, by route and session mark; `excess` is the part of a BOX coin's value that C could not take
(R33, R34). -/
def Totals.settles (x : Totals) (r : ChuteRecord) (excess : Nat) : Totals :=
  match r.route, r.mark with
  | .escrow, .current => x.addSettled r.coinClass r.value
  | .box, .current => ((x.addSettled r.coinClass r.value).addCollected r.value).addForfeited excess
  | .escrow, .ended => (x.addSettled r.coinClass r.value).addRefunded r.value
  | .box, .ended => ((x.addSettled r.coinClass r.value).addCollected r.value).addForfeited r.value

/-- C after a settle of a BOX coin with mark CURRENT: the smaller of C + v and 65535 minus the escrow value (R34). -/
def CallSection.creditAfter (c : CallSection) (v : Nat) : Nat := min (c.credit + v) (65535 - escrowValue c.escrow)

/-- CALL after a settle at `now`, by route and session mark (R33, R34). -/
def CallSection.settles (c : CallSection) (r : ChuteRecord) (now : Nat) : CallSection :=
  match r.route, r.mark with
  | .escrow, .current => { c with escrow := c.escrow ++ [⟨r.coinClass, r.value, now⟩] }
  | .box, .current => { c with credit := c.creditAfter r.value, boxCount := c.boxCount + 1 }
  | .escrow, .ended => { c with queue := c.queue ++ [⟨r.coinClass, r.value, .ret⟩] }
  | .box, .ended => { c with boxCount := c.boxCount + 1 }

/-- The totals after a session end: every held record refunded and C forfeited (R37). -/
def Totals.sessionEnds (x : Totals) (c : CallSection) : Totals :=
  (c.escrow.foldl (fun t e => t.addRefunded e.value) x).addForfeited c.credit

/-- What the end of a USER session at `now`, with the line seized for it, leaves in `t` (R16, R37, R83, R89, R92, R112,
R114): money, chute marks, call record, line and arbiter. -/
def SessionEnded (s t : State) (r : EndReason) (now : Nat) : Prop :=
  t.call = { s.call with sessionOpen := false, escrow := [], credit := 0, queue := s.call.queue ++ refunds s.call.escrow } ∧
  t.lifetime = s.lifetime.sessionEnds s.call ∧ t.period = s.period.sessionEnds s.call ∧
  t.coin.chute = s.coin.chute.map (fun x => { x with mark := .ended }) ∧
  t.credit.mirrorSum = 0 ∧ t.credit.mirrorEscrow = s.credit.mirrorEscrow ∧
  t.rating.phase = .idle ∧ t.rating.tariff = none ∧ t.rating.deposit = none ∧ t.rating.periodTimer = none ∧
  t.rating.warningTimer = none ∧ t.rating.nextCharge = none ∧ t.rating.warning = false ∧
  t.rating.charged = s.rating.charged ∧
  t.line.phase = .releasing ∧ t.line.guardTimer = some (now + 800) ∧ t.line.purpose = .none ∧ t.line.buffer = [] ∧
  t.line.resolution = .unresolved ∧ t.line.abandonTimer = none ∧ t.line.lastEnd = some r ∧
  t.isPending .callPhase = true ∧
  t.arbiter.owner = .none ∧ t.arbiter.userHeld = false ∧ t.arbiter.waiting = false ∧
  t.arbiter.holdOff = some (now + 30000)

/-- A command frame with this number is taken now: the modem hears the line in DATA, the centre has its turn, no reply waits and
the number is not the last command's (R143, R154). -/
abbrev State.takesCommand (s : State) (number : Byte) : Prop :=
  s.busy ∧ s.hears = true ∧ s.centre.phase = .centreTurn ∧ s.replyWaits = false ∧ s.sentTwice number = false

/-- `u` with the reply to a command taken at `u.now`: the frame waits for the turnaround, the idle timer restarts and the reply
and the command's number are kept (R146, R154). -/
def State.repliesTo (u : State) (number ftype : Byte) (payload : List Byte) : State :=
  { u with
    modem := { u.modem with
      waiting := u.modem.waiting ++ [⟨ftype, u.centre.ownFrame, payload⟩], turnaround := some (u.now + 30) }
    centre := { u.centre with
      idleTimer := some (u.now + 20000), ownFrame := u.centre.ownFrame + 1,
      lastReply := some ⟨ftype, u.centre.ownFrame, payload⟩, lastCommand := some number } }

/-- A set port transaction's request is taken: the part runs, no restore sequence does and the reset line is released (R178,
R183). -/
abbrev State.takesRequest (s : State) : Prop :=
  s.running = true ∧ s.power.restoring = false ∧ s.setPort.resetLow = false

/-- The set port after a transaction whose request is answered `r`: the last reply is shifted out and `r` is the next (R178). -/
def SetPort.answers (p : SetPort) (r : SetReply) : SetPort :=
  { p with
    shifted := match p.lastReply with
      | some l => .reply l
      | none => .noneYet
    lastReply := some r }

/-- The set port after a notice is raised (R181). -/
def SetPort.notified (p : SetPort) (n : Notice) : SetPort := { p with pendingSet := maskAdd p.pendingSet n.index }

/-- The line unit in its release at `now`: the loop open, the seizure's timers stopped, the guard running (R92), and the centre
number gone from the dial buffer with a REPORT or POLL seizure (R103, log entry 37). -/
def LineUnit.releasedAt (l : LineUnit) (now : Nat) : LineUnit :=
  { (if l.purpose = .report ∨ l.purpose = .poll then
      { l with buffer := [], resolution := .unresolved, endOfDialling := false, cursor := 0 }
    else l) with
    phase := .releasing, guardTimer := some (now + 800), reference := none, dialToneTimer := none, interdigitTimer := none,
    digitTimer := none, pauseTimer := none, answerTimer := none, timedAnswerTimer := none, clearTimer := none,
    recallTimer := none }

/-- The modem is silent: it sends nothing, nothing waits and no turnaround runs (R146). -/
abbrev Modem.silent (m : Modem) : Prop := m.sending = none ∧ m.waiting = [] ∧ m.turnaround = none

/-- The modem after `m`, which is not sending and whose turnaround has passed, is offered `f` with `rest` behind it: it starts
`f`, or waits while the centre's carrier is present at this look (R146, log entry 55). -/
def Modem.offered (m : Modem) (f : Frame) (rest : List Frame) : Modem :=
  if Config.carrierPresent m.looks then ⟨none, f :: rest, none, m.looks + 1⟩ else ⟨some f, rest, none, m.looks + 1⟩

/-- `u` with the line asked for its release at `u.now`: the line unit in its release, a take-back that waited for YIELD waiting
for the guard, the modem silent and CALL_PHASE raised (R92, R116, R143). -/
def State.releasing (u : State) : State :=
  { u with
    line := u.line.releasedAt u.now
    arbiter := { u.arbiter with takeBack := u.arbiter.takeBack.released, yieldTimer := none }
    modem := ⟨none, [], none, u.modem.looks⟩
    setPort := u.setPort.notified .callPhase }

/-- `u` with a USER call in its answer wait from `u.now` on: the answer timer runs, and in TIMED mode the timed-answer delay
(R98, R99). -/
def State.awaitsAnswer (u : State) : State :=
  { u with
    line := { u.line with
      digitTimer := none, pauseTimer := none, phase := .awaitAnswer, answerMode := u.answerMode
      answerTimer := some (u.now + 90000)
      timedAnswerTimer := if u.answerMode = .timed then some (u.now + u.answerDelay * 1000) else none }
    setPort := u.setPort.notified .callPhase }

/-- No answer is there at the entry to the answer wait: the mode is not REVERSAL, or the line has its reference polarity
(R99). -/
abbrev State.notReversed (s : State) : Prop :=
  s.answerMode = .reversal → s.line.reference = none ∨ s.line.reference = some s.line.polarity

/-- A class 0 call with the line already reversed at the entry to the answer wait in REVERSAL mode (R99). -/
abbrev State.freeAndReversed (s : State) : Prop :=
  s.answerMode = .reversal ∧ s.line.reference = some s.line.polarity.flip ∧ s.rating.phase = .priced ∧
    ∃ c, s.rating.tariff = some c ∧ c.id = 0

/-- A class 0 call connected as its answer wait begins: its call is counted free and no timer of the wait runs (R70, R81,
R99). -/
def ConnectedFree (s t : State) : Prop :=
  t.line.phase = .connected ∧ t.line.answerMode = .reversal ∧ t.line.answerTimer = none ∧ t.line.timedAnswerTimer = none ∧
  t.line.abandonTimer = none ∧ t.rating.phase = .running ∧ t.lifetime = s.lifetime.addFree ∧ t.period = s.period.addFree ∧
  t.call = s.call ∧ SameStore s t ∧ SameHousing s t ∧ SameService s t

/-- The backoff after a failure that makes the attempt count `n`: 2, 10 or 60 min (R141). -/
def backoffTime (n : Nat) : Nat := if n = 1 then 120000 else if n = 2 then 600000 else 3600000

/-- What the failure of a centre session at `now` leaves in `t`, with the line asked for its release (R133, R141, R159): no
session, no record in flight, the count and the backoff of a PLACED session, and the line in its release. -/
def CentreFailed (s t : State) (now : Nat) : Prop :=
  t.centre.phase = .idle ∧ t.centre.kind = .none ∧ t.centre.phaseTimer = none ∧ t.centre.idleTimer = none ∧
  t.centre.inFlight = none ∧ t.centre.awaited = none ∧
  (s.centre.kind = .placed →
    t.centre.attempts = min (s.centre.attempts + 1) 255 ∧
    t.centre.backoff = some (now + backoffTime (min (s.centre.attempts + 1) 255)) ∧ t.arbiter.reportHeld = false) ∧
  (s.centre.kind ≠ .placed → t.centre.attempts = s.centre.attempts ∧ t.centre.backoff = s.centre.backoff) ∧
  (∀ r ∈ t.events.records, s.centre.inFlight = some r.seq → r.state ≠ .sending) ∧
  t.events.latches = s.events.latches ∧ t.line = s.line.releasedAt now ∧ t.modem.silent ∧
  t.arbiter.owner = s.arbiter.owner ∧ SameMoney s t ∧ SameStore s t ∧ t.tamper = s.tamper ∧ SameService s t ∧
  SameClock s t ∧ t.coin = s.coin

/-- The modem hears a frame of a session that has the line (R143). -/
abbrev State.inSession (s : State) : Prop := s.busy ∧ s.hears = true

/-- `u` after a frame of the centre is received at `u.now`: the turnaround runs (R146). -/
def State.heard (u : State) : State := { u with modem := { u.modem with turnaround := some (u.now + 30) } }

/-- `u` after a valid frame: in the centre's turn the idle timer restarts as well (R146, R154). -/
def State.heardValid (u : State) : State :=
  if u.centre.phase = .centreTurn then
    { u.heard with centre := { u.centre with idleTimer := some (u.now + 20000) } }
  else u.heard

/-- `u` with a new frame waiting for the turnaround (R146). -/
def State.sends (u : State) (ftype : Byte) (payload : List Byte) : State :=
  { u with
    modem := { u.modem with waiting := u.modem.waiting ++ [⟨ftype, u.centre.ownFrame, payload⟩] }
    centre := { u.centre with ownFrame := u.centre.ownFrame + 1 } }

/-- The phases of a session in which a frame of a type that the phase does not take is answered REJECT(UNEXPECTED) (R147). -/
def CentrePhase.answers : CentrePhase → Bool
  | .awaitGreet => true
  | .ident => true
  | .upload => true
  | .centreTurn => true
  | .idle => false
  | .dial => false
  | .awaitAnswer => false
  | .closing => false
  | .suspended => false

/-- The checks of a DIGIT request in the order of R93: the refusal of the first that applies. -/
def State.digitCheck (s : State) (key : Key) : Option SetReason :=
  if s.line.session ≠ .opened then some .noSession
  else if s.line.purpose ≠ .user then some .invalid
  else if s.tamper.causes.lineFault = true ∧ s.line.phase = .idle then some .service
  else if (s.line.phase ≠ .ready ∧ s.line.phase ≠ .dialling) ∨ s.line.endOfDialling = true then some .invalid
  else if (key = 10 ∨ key = 11) ∧ s.dialMethod = .pulse then some .invalid
  else if key = 11 ∧ s.line.buffer = [] then some .invalid
  else if key = 11 then none
  else if 24 ≤ s.line.buffer.length then some .full
  else none

/-- A USER session has the line, seized and not in its release (R89, R90, R109). -/
abbrev State.userSeized (s : State) : Prop :=
  s.power.state = .active ∧ s.line.session = .opened ∧ s.line.purpose = .user ∧ s.arbiter.owner = .user ∧
    s.line.phase.atRest = false ∧ s.line.phase ≠ .releasing ∧ s.service.closing = false

/-- The same with no activation pending (R55). -/
abbrev State.userOnLine (s : State) : Prop :=
  s.power.state = .active ∧ s.line.session = .opened ∧ s.line.purpose = .user ∧ s.arbiter.owner = .user ∧
    s.line.phase.atRest = false ∧ s.line.phase ≠ .releasing ∧ s.service.closing = false ∧
    s.config.activationPending = false

/-- The line stands reversed at the entry to the answer wait in REVERSAL mode, and the open USER session that has it is PRICED
for class `c` (R99). -/
abbrev State.pricedAndReversed (s : State) (c : TariffClass) : Prop :=
  s.userOnLine ∧ s.call.sessionOpen = true ∧ s.answerMode = .reversal ∧
    s.line.reference = some s.line.polarity.flip ∧ s.rating.phase = .priced ∧ s.rating.tariff = some c

/-- What the period of `length` seconds that begins at `now` leaves of the warning in `t`, with `a` what the charge left of A:
the timer where the lead is below the length, else the check with the length as its offset (R77, R78). -/
def WarningArmed (s t : State) (c : TariffClass) (length a now : Nat) : Prop :=
  let lead := imageWarningLead s.activeBytes
  let next := s.chargeOf c c.stepCharge length
  (lead < length → t.rating.warningTimer = some (now + (length - lead) * 1000)) ∧
  (length ≤ lead →
    t.rating.warningTimer = none ∧ t.rating.nextCharge = some next ∧
    (a < next → t.rating.warning = true ∧ t.isPending .lowCredit = true) ∧
    (next ≤ a → t.isPending .lowCredit = s.isPending .lowCredit ∧ (s.rating.warning = false → t.rating.warning = false)))

/-- What the warning check after a charge of a pulse-rated call leaves in `t`, with `a` what the charge left of A: a flag newly
set raises LOW_CREDIT, and one that stays set raises none (R79). -/
def PulseChecked (s t : State) (c : TariffClass) (a : Nat) : Prop :=
  let next := s.chargeOf c c.stepCharge 0
  t.rating.nextCharge = some next ∧ t.rating.warning = decide (a < next) ∧
  (a < next → s.rating.warning = false → t.isPending .lowCredit = true) ∧
  (next ≤ a ∨ (s.rating.warning = true ∧ ∀ y, s.rating.nextCharge = some y → a < y) →
    t.isPending .lowCredit = s.isPending .lowCredit)

/-- What the answer at `now` of a PRICED call of class `c` leaves in `t`: a free call is connected and counted free; another
takes its initial charge, is counted paid and starts its first period, or is cut when A does not cover the charge (R70, R71,
R72, R75, R99). -/
def CallAnswered (s t : State) (c : TariffClass) (now : Nat) : Prop :=
  let x := s.chargeOf c c.initialCharge 0
  (c.id = 0 ∨ x ≤ s.available →
    t.line.phase = .connected ∧ t.line.answerTimer = none ∧ t.line.timedAnswerTimer = none ∧ t.line.abandonTimer = none ∧
    t.rating.phase = .running ∧ t.rating.deposit = none ∧ t.isPending .callPhase = true ∧ t.coin = s.coin ∧
    SameStore s t ∧ SameService s t ∧ SameClock s t ∧
    (c.id = 0 → t.call = s.call ∧ t.lifetime = s.lifetime.addFree ∧ t.period = s.period.addFree) ∧
    (c.id ≠ 0 → t.call = (s.take x).2.call ∧ t.lifetime = (s.take x).2.lifetime.addPaid ∧
      t.period = (s.take x).2.period.addPaid ∧ t.rating.charged = min (s.rating.charged + x) 4294967295 ∧
      (s.answerMode ≠ .pulse → t.rating.periodTimer = some (now + c.initialPeriod * 1000)))) ∧
  (c.id ≠ 0 → s.available < x → SessionEnded s t .credit now ∧ SameStore s t)

/-- The set port after COIN_REJECTED with a reason (R13, R181). -/
def SetPort.rejected (p : SetPort) (r : RejectReason) : SetPort :=
  { p with pendingSet := maskAdd p.pendingSet Notice.coinRejected.index, rejectParam := r }

/-- The gate decision for a measured coin as R9 to R11 give it, in the state `u` in which no coin is in transit: the stage is
EMPTY, and the coin is rejected with its reason or sent through the gate by its route. -/
def State.gateOutcome (u : State) (c : Triple) : State :=
  let decided := { u.coin with entry := .empty, measureTimer := none }
  let reject (r : RejectReason) : State :=
    { u with coin := { decided with returnWait := u.coin.expects 1 u.now }, setPort := u.setPort.rejected r }
  let pass (k v : Nat) (r : Route) : State :=
    { u with coin := { decided with transit := some ⟨k, v, r, u.now⟩, flap := r } }
  if u.acceptanceOpen = false then reject .closed
  else match classifyTriple u.activeBytes c with
    | none => reject .noMatch
    | some (k, v) =>
      if u.available + u.credit.mirrorSum + v ≤ 65535 then
        if u.occupancy < 8 ∧ u.boxDirect = false then pass k v .escrow else pass k v .box
      else if u.config.overflow = .saturate then pass k v .box
      else reject .full

/-- A decision held behind the transit that has ended in `u` is made by what R9 to R11 give; with none held nothing changes. -/
def State.heldOutcome (u : State) : State :=
  match u.coin.entry with
  | .measuredHeld c => u.gateOutcome c
  | .empty => u
  | .entered => u
  | .discarding _ => u

/-- A set RELEASE jam clears in `u`: its retry timer stops, and the cause COIN_JAM clears when no jam is left (R20, R30). -/
def State.releaseUnjammed (u : State) : State :=
  if u.credit.releaseJam then
    let v : State := { u with credit := { u.credit with releaseJam := false, retryTimer := none } }
    if v.coin.jamEntry.isSet || v.coin.jamAccept.isSet || v.coin.jamReturn.isSet then v else v.changeCause .coinJam false
  else u

/-- The head of a release queue can start: its destination is RETURN, or the box is PRESENT (R27). -/
def canStart (queue : List ReleaseEntry) (boxPresent : Bool) : Bool :=
  match queue with
  | [] => false
  | e :: _ => e.dest == .ret || boxPresent

/-- While the part is ACTIVE with the RELEASE jam clear and a head that can start, a release is in flight (R27). -/
abbrev State.ReleaseStarted (s : State) : Prop :=
  s.power.state = .active → s.credit.releaseJam = false → canStart s.call.queue s.credit.boxPresent = true →
    s.credit.inFlight ≠ none

/-- What the tariff store's answer `a` in READY leads to while the class is open: `taken` is the line as it is then, and `reply`
what the set port answers the request that asked for it, if one did; the class is tested in the order of R94 (R94, R98). -/
def BufferAnswered (s t : State) (taken : LineUnit) (a : Answer) (reply : Option SetReason → SetPort → SetPort) : Prop :=
  let emptied := { taken with
    interdigitTimer := none, buffer := [], resolution := .unresolved, endOfDialling := false, cursor := 0 }
  let refused (r : RefusalReason) (x : SetReason) : State :=
    { s with
      line := emptied
      rating := s.rating.bufferEmptied
      setPort := { reply (some x) (s.setPort.notified .digitRefused) with refusalParam := r } }
  (a = .waiting → t.beforeTests = ({ s with line := taken, setPort := reply none s.setPort } : State).beforeTests) ∧
  (a = .unknown → t.beforeTests = (refused .service .service).beforeTests) ∧
  ∀ id, a = .resolved id →
    let class' := s.classRecord id
    (class'.barred = true → t.beforeTests = (refused .barred .barred).beforeTests) ∧
    (class'.barred = false → id ≠ 0 → s.serviceState ≠ .inService →
      t.beforeTests = (refused .service .service).beforeTests) ∧
    (class'.barred = false → (id = 0 ∨ s.serviceState = .inService) →
      t.rating.phase = .priced ∧ t.rating.tariff = some class' ∧ t.rating.deposit = some (s.depositOf class') ∧
      t.rating.charged = 0 ∧ t.rating.periodIndex = 0 ∧ SameMoney s t ∧ SameStore s t ∧ SameHousing s t ∧ t.coin = s.coin ∧
      SameService s t ∧ SameClock s t ∧
      (s.available < s.depositOf class' →
        t.line = { taken with resolution := .waitingDeposit id (s.depositOf class') } ∧
        t.setPort = { reply none (s.setPort.notified .deposit) with depositParam := s.depositOf class' }) ∧
      (s.depositOf class' ≤ s.available →
        t.line = { taken with
          phase := .dialling, resolution := .resolved id, cursor := 0, dialMethod := s.dialMethod, pauseTimer := none
          digitTimer := taken.buffer.head?.map fun d => s.now + digitTime s.dialMethod d } ∧
        t.setPort = reply none (s.setPort.notified .callPhase)))

/-- What a DIGIT request leads to in READY while the class is open, with the outcome in its reply: `taken` is the line after the
key is taken, and `a` the tariff store's answer (R94, R178). -/
def DigitAnswered (s t : State) (taken : LineUnit) (a : Answer) : Prop :=
  BufferAnswered s t taken a fun r p =>
    match r with
    | none => p.answers ⟨5, .taken, none, []⟩
    | some x => p.answers ⟨5, .refused, some x, []⟩

/-- What a test of a session that waits for its deposit `d` of class `id`, made at `now` in READY, leaves in `t`: out of service
the buffer of a class other than 0 is refused; else dial-out begins when A has reached D, and the wait goes on when it has not
(R94, R95, R97). -/
def DepositTested (s t : State) (id d now : Nat) : Prop :=
  (id ≠ 0 ∧ t.serviceState ≠ .inService →
    t.line = { s.line with
      interdigitTimer := none, buffer := [], resolution := .unresolved, endOfDialling := false, cursor := 0 } ∧
    t.isPending .digitRefused = true ∧ t.setPort.refusalParam = .service ∧
    (s.rating.phase = .priced → t.rating.phase = .idle ∧ t.rating.tariff = none ∧ t.rating.deposit = none)) ∧
  (id = 0 ∨ t.serviceState = .inService →
    t.rating.phase = s.rating.phase ∧ t.rating.tariff = s.rating.tariff ∧ t.rating.deposit = s.rating.deposit ∧
    (d ≤ t.available →
      t.line = { s.line with
        phase := .dialling, resolution := .resolved id, cursor := 0, dialMethod := s.dialMethod, pauseTimer := none
        digitTimer := s.line.buffer.head?.map fun x => now + digitTime s.dialMethod x } ∧
      t.isPending .callPhase = true) ∧
    (t.available < d → t.line = s.line))

/-- A REPORT grant made at `now`: the line is seized for the centre link's placed session, which has this reason (R103, R109,
R111, R113, R140). -/
def ReportGranted (s t : State) (reason : ReportReason) (now : Nat) : Prop :=
  t.arbiter.owner = .report ∧ t.line.purpose = .report ∧ t.line.phase = .seizing ∧
  t.line.dialToneTimer = some (now + 3000) ∧ t.centre.phase = .dial ∧ t.centre.kind = .placed ∧
  t.centre.reason = some reason ∧ t.centre.number = s.config.centreNumber ∧ t.centre.ownFrame = 0 ∧
  t.isPending .reportActive = true ∧ t.power.state = .active ∧ SameMoney s t ∧ SameStore s t ∧ SameHousing s t ∧
  SameService s t

/-- An URGENT record PENDING waits, the centre number is set and no backoff runs, so that the REPORT request is held (R139). -/
abbrev State.urgentWaits (s : State) : Prop :=
  (∃ r ∈ s.events.records, r.state = .pending ∧ r.severity = .urgent) ∧ s.config.centreNumber ≠ [] ∧ s.centre.backoff = none

/-- The conditions of R117 under which the end of a USER session arms a forced window. -/
abbrev State.windowDue (s : State) : Prop :=
  s.config.forcedWindows = true ∧
    (∃ r ∈ s.events.records, r.state = .pending ∧ r.severity = .urgent ∧ 1800 < s.elapsed - r.created) ∧
    s.config.centreNumber ≠ [] ∧ s.centre.backoff = none ∧ s.arbiter.spacing = none ∧ s.arbiter.window = .closed

/-- What an accepted CONFIG_SET other than of the box capacity and the latch clear makes of CONFIG, item by item (R56, R121,
R157, section 12.4, log entries 18 and 20). -/
def ConfigAccepts (c : ConfigSection) (payload : List Byte) (c' : ConfigSection) : Prop :=
  (∃ d : List Digit, d.length ≤ 24 ∧ payload = 0 :: byteOf d.length :: d.map (fun x => byteOf x.val) ∧
    c' = { c with centreNumber := d }) ∨
  (∃ b3 b2 b1 b0 : Byte, payload = [1, b3, b2, b1, b0] ∧ c' = { c with terminalId := b3 ++ b2 ++ b1 ++ b0 }) ∨
  (∃ h l : Byte, h.toNat * 256 + l.toNat ≤ 1440 ∧ payload = [2, h, l] ∧
    c' = { c with routineDelay := h.toNat * 256 + l.toNat }) ∨
  (∃ h l : Byte, h.toNat * 256 + l.toNat ≤ 1439 ∧ payload = [3, h, l] ∧
    c' = { c with dailyTime := some (h.toNat * 256 + l.toNat) }) ∨
  (payload = [3, 0xFF, 0xFF] ∧ c' = { c with dailyTime := none }) ∨
  (payload = [5, 0] ∧ c' = { c with overflow := .saturate }) ∨ (payload = [5, 1] ∧ c' = { c with overflow := .reject }) ∨
  (∃ (i : Fin 4) (d : List Digit), d.length ≤ 24 ∧
    payload = byteOf (6 + i.val) :: byteOf d.length :: d.map (fun x => byteOf x.val) ∧
    c' = { c with freeList := c.freeList.set i d }) ∨
  (∃ b : Byte, 2 ≤ b.toNat ∧ b.toNat ≤ 15 ∧ payload = [10, b] ∧ c' = { c with ringCount := b.toNat }) ∨
  (payload = [11, 0] ∧ c' = { c with lineFaultMode := .signal }) ∨
  (payload = [11, 1] ∧ c' = { c with lineFaultMode := .quiet }) ∨
  (payload = [12, 0] ∧ c' = { c with forcedWindows := true }) ∨
  (payload = [12, 1] ∧ c' = { c with forcedWindows := false }) ∨
  (∃ (i : Fin 4) (b : Byte) (e : EdgeSelect), (b, e) ∈ [((0 : Byte), EdgeSelect.opened), (1, .closed), (2, .both)] ∧
    payload = [byteOf (13 + i.val), b] ∧ c' = { c with edges := c.edges.set i e }) ∨
  (∃ (k : Byte) (i : Nat), (k, i) ∈ [((17 : Byte), 0), (18, 1), (19, 2), (20, 4), (21, 3)] ∧
    ((payload = [k, 0] ∧ c' = { c with enables := c.enables ||| (1#5 <<< i) }) ∨
      (payload = [k, 1] ∧ c' = { c with enables := c.enables &&& ~~~ (1#5 <<< i) }))) ∨
  (∃ (i : Fin 16) (b : Byte) (v : Severity), (b, v) ∈ [((0 : Byte), Severity.urgent), (1, .routine)] ∧
    payload = [byteOf (22 + i.val), b] ∧ c' = { c with severities := c.severities.set i v }) ∨
  (∃ (i : Fin 8) (digits : List Byte), digits.length = 6 ∧ payload = byteOf (39 + i.val) :: 0 :: digits ∧
    c' = { c with collectors := c.collectors.set i none }) ∨
  (∃ (i : Fin 8) (code : Code), code.length = 6 ∧
    payload = byteOf (39 + i.val) :: 1 :: code.map (fun x => byteOf x.val) ∧
    c' = { c with collectors := c.collectors.set i (some code) })

/-! ## Validation of an image, by the block map of section 12.6 (R45 to R49, R53, R193) -/

/-- Step 2: the check word is the CRC-16 of the other 1022 bytes (R49). -/
def ImageCheck (m : List Host.Cell) : Prop :=
  (memRead m 1022).toNat * 256 + (memRead m 1023).toNat = (crc16 ((List.range 1022).map (memRead m))).toNat

/-- Digit `n` of the prefix entry at `a`: its bytes 1 to 6 hold twelve nibbles, high nibble first. -/
def entryDigit (m : List Host.Cell) (a n : Nat) : Nat :=
  let b := (memRead m (a + 1 + n / 2)).toNat
  if n % 2 = 0 then b / 16 else b % 16

/-- Step 3: header, tariff classes, values of enabled coin classes, used prefix entries and used band points are in range, and
class 0 is not BARRED (R45 to R48, R193). -/
def ImageFields (m : List Host.Cell) : Prop :=
  let byte (a : Nat) : Nat := (memRead m a).toNat
  let half (a : Nat) : Nat := byte a * 256 + byte (a + 1)
  (1 ≤ half 0 ∧ byte 2 ≤ 2 ∧ 5 ≤ byte 3 ∧ byte 3 ≤ 60 ∧ byte 4 ≤ 1 ∧ 1 ≤ byte 5 ∧ byte 5 ≤ 100 ∧ 5 ≤ byte 6 ∧ byte 6 ≤ 60 ∧
    byte 7 ≤ 15) ∧
  (∀ id < 16,
    let a := 64 * (3 + id / 3) + 19 * (id % 3)
    half a ≤ 9999 ∧ 1 ≤ half (a + 2) ∧ half (a + 2) ≤ 3600 ∧ half (a + 4) ≤ 9999 ∧ 1 ≤ half (a + 6) ∧ half (a + 6) ≤ 3600 ∧
    half (a + 8) ≤ 9999 ∧ (∀ k < 4, 25 ≤ half (a + 10 + 2 * k) ∧ half (a + 10 + 2 * k) ≤ 400) ∧
    (id = 0 → (memRead m (a + 18)).getLsbD 0 = false)) ∧
  (∀ k < 8,
    let a := if k < 5 then 64 + 12 * k else 128 + 12 * (k - 5)
    (memRead m (a + 2)).getLsbD 0 = true → 1 ≤ half a ∧ half a ≤ 9999) ∧
  (∀ i < 48,
    let a := 576 + 8 * i
    (memRead m a).getLsbD 7 = true →
      1 ≤ byte a % 16 ∧ byte a % 16 ≤ 12 ∧ (∀ n < byte a % 16, entryDigit m a n ≤ 10) ∧ byte (a + 7) ≤ 15) ∧
  (∀ i < 16,
    let a := 960 + 3 * i
    (memRead m a).getLsbD 7 = true → byte a / 16 % 8 ≤ 6 ∧ half (a + 1) ≤ 1439)

/-- Step 4: in every enabled coin class no window has its low bound above its high bound (R53). -/
def ImageWindows (m : List Host.Cell) : Prop :=
  ∀ k < 8,
    let a := if k < 5 then 64 + 12 * k else 128 + 12 * (k - 5)
    (memRead m (a + 2)).getLsbD 0 = true →
      ∀ w < 3, (memRead m (a + 3 + 3 * w)).toNat ≤ (memRead m (a + 4 + 3 * w)).toNat

/-- Step 5: no two used prefix entries have the same count and the same digits within it (R47, R193). -/
def ImageEntriesDiffer (m : List Host.Cell) : Prop :=
  ∀ j < 48, ∀ i < j,
    let a := 576 + 8 * i
    let b := 576 + 8 * j
    (memRead m a).getLsbD 7 = true → (memRead m b).getLsbD 7 = true →
      (memRead m a).toNat % 16 = (memRead m b).toNat % 16 →
      ∃ n < (memRead m a).toNat % 16, entryDigit m a n ≠ entryDigit m b n

/-! ## States with no owner on the line -/

/-- The part runs in the power state that R170 gives, no CLOSE_PERIOD is held, nobody asks for the line, and the REPORT request
cannot be granted: no centre number is set, or the resume hold-off runs (R111, R139). -/
abbrev State.unclaimed (s : State) : Prop :=
  s.running = true ∧ s.isActive = s.holdsActive ∧ s.service.closing = false ∧ s.arbiter.parkedReport = false ∧
    s.arbiter.userHeld = false ∧ s.arbiter.pollHeld = false ∧ (s.config.centreNumber = [] ∨ s.arbiter.holdOff ≠ none)

/-- The centre link has nothing to report: no record PENDING, no suspended session to resume and none in progress (R139). -/
abbrev State.nothingToReport (s : State) : Prop :=
  s.pendingCount = 0 ∧ s.centre.resume = false ∧ s.centre.phase = .idle

/-- Nobody asks for the line, and a REPORT request is not there or cannot be granted (R110, R111, R139). -/
abbrev State.unasked (s : State) : Prop :=
  s.arbiter.parkedReport = false ∧ s.arbiter.userHeld = false ∧ s.arbiter.pollHeld = false ∧
    (s.config.centreNumber = [] ∨ s.arbiter.holdOff ≠ none ∨ s.nothingToReport)

/-- The part runs, ACTIVE or STANDBY as R170 gives, and no grant is due: an owner is on the line, or nobody asks for it. -/
abbrev State.settled (s : State) : Prop :=
  s.running = true ∧ s.isActive = s.holdsActive ∧ (s.lineTaken ∨ s.unasked)

/-- The same with no CLOSE_PERIOD held (R190). -/
abbrev State.serving (s : State) : Prop := s.settled ∧ s.service.closing = false

/-- `u`, which ran before the command, in the power state that R170 gives it: ACTIVE while a condition holds, and else STANDBY,
at whose entry the entry stage and the return wait list are emptied and the hold timers of S2a, S2b and S3 stop (R21). -/
def State.settledPower (u : State) : State :=
  if u.holdsActive = u.isActive then u
  else if u.holdsActive then { u with power := { u.power with state := .active } }
  else
    { u with
      power := { u.power with state := .standby }
      coin := { u.coin with
        entry := .empty, measureTimer := none, returnWait := []
        hold := { u.coin.hold with s2a := none, s2b := none, s3 := none } } }

end Sys2Proof.Machine
end

