-- ==== Sys2Proof/WellFormed.lean ====
section
/-!
DEFINITION. Which terms of `Instr` are commands that can reach the part: the constraints on operands that the types do
not carry.  The meanings are total and do not rest on them.
-/

namespace Sys2Proof

/-- A payload that a frame can carry: its length byte is at most 80 (R144). -/
def payloadFits (payload : List Byte) : Bool := decide (payload.length ≤ Config.framePayloadMax)

/-- A type byte that is none of the centre's frame types (R147, R192, section 12.4). -/
def unknownType (t : Byte) : Bool :=
  !(t == 0x10 || t == 0x12 || t == 0x15 || (decide (0x20 ≤ t.toNat) && decide (t.toNat ≤ 0x28)))

/-- The bytes of a set port transaction that is refused or read-only (R178). -/
def setRefused (bytes : List Byte) : Bool :=
  match Machine.setFrame bytes with
  | .readOnly => true
  | .refused _ => true
  | .taken _ => false

/-- The bytes of a service port write that fails a check (R185). -/
def serviceRefused (bytes : List Byte) : Bool :=
  match Machine.serviceFrame bytes with
  | .malformed _ => true
  | .login _ _ => false
  | .readTotals => false
  | .readHistory _ => false
  | .readEvents _ => false
  | .closePeriod => false
  | .logout => false

/-- A service port frame is at most 32 bytes (section 11.1). -/
def serviceLength (bytes : List Byte) : Bool := decide (bytes.length ≤ 32)

/-- The command is one that can reach the part. -/
def Instr.wellFormed : Instr → Bool
  | .beamInterrupted _ => true
  | .beamClear _ => true
  | .measurement _ _ _ => true
  | .measurementWaitExpiry => true
  | .transitWaitExpiry => true
  | .returnWaitExpiry => true
  | .chuteSettle => true
  | .beamHoldExpiry beam => beam != .s4
  | .jamClearRunExpiry _ => true
  | .releaseConfirmExpiry => true
  | .releaseRetryExpiry => true
  | .boxSwitchQualified _ => true
  | .stageClear _ payload => payloadFits payload
  | .blockLoad _ payload => payloadFits payload
  | .stageActivate _ payload => payloadFits payload
  | .periodExpiry => true
  | .warningTimerExpiry => true
  | .meterPulse => true
  | .offHook => true
  | .onHook => true
  | .dialToneQualified => true
  | .dialToneExpiry => true
  | .releaseGuardEnd => true
  | .digit _ => true
  | .dialClear => true
  | .followOn => true
  | .digitSendComplete => true
  | .interDigitPauseEnd => true
  | .interdigitExpiry => true
  | .polarityReversal => true
  | .polarityReturn => true
  | .loopCurrentLoss => true
  | .timedAnswerExpiry => true
  | .answerTimerExpiry => true
  | .clearTimerExpiry => true
  | .recallBreakEnd => true
  | .abandonmentExpiry => true
  | .ring => true
  | .ringSilenceExpiry => true
  | .lineVoltageAbsent => true
  | .lineVoltagePresent => true
  | .yieldLimitExpiry => true
  | .resumeHoldOffExpiry => true
  | .windowTimerExpiry => true
  | .windowSpacingExpiry => true
  | .inputEdge _ _ => true
  | .shockPulse => true
  | .shockWindowExpiry => true
  | .cordRestoreExpiry => true
  | .routineTimerExpiry => true
  | .backoffExpiry => true
  | .greet _ payload => payloadFits payload
  | .ack _ payload => payloadFits payload
  | .reject _ payload => payloadFits payload
  | .badFrame => true
  | .unknownFrameType ftype _ payload => unknownType ftype && payloadFits payload
  | .frameGapExpiry => true
  | .turnaroundExpiry => true
  | .frameSent => true
  | .auditRead _ payload => payloadFits payload
  | .queueRead _ payload => payloadFits payload
  | .clockSet _ payload => payloadFits payload
  | .serviceSet _ payload => payloadFits payload
  | .configSet _ payload => payloadFits payload
  | .endTurn _ payload => payloadFits payload
  | .awaitAnswerExpiry => true
  | .awaitGreetExpiry => true
  | .helloTimerExpiry => true
  | .uploadTimerExpiry => true
  | .idleTimerExpiry => true
  | .resetYieldExpiry => true
  | .sectionWriteComplete => true
  | .powerWarningAssert => true
  | .powerWarningClear => true
  | .warningClearExpiry => true
  | .supplyLoss => true
  | .powerReturnFromOff => true
  | .restoreSequenceEnd => true
  | .clockSecond => true
  | .statusRead => true
  | .noticeRead => true
  | .noticeClear _ => true
  | .noticeEnable _ => true
  | .setPortClockSet _ _ _ => true
  | .keypadFault _ => true
  | .setFrameRefused bytes => setRefused bytes
  | .resetLine => true
  | .serviceWrite bytes => serviceLength bytes
  | .serviceRead => true
  | .serviceFrameRefused bytes => serviceRefused bytes && serviceLength bytes
  | .login _ code => decide (code.length = 6)
  | .readTotals => true
  | .readHistory _ => true
  | .readEvents _ => true
  | .closePeriod => true
  | .logout => true
  | .sessionTimerExpiry => true
  | .lockoutExpiry => true
  | .resetLineRelease => true

end Sys2Proof
end

