-- ==== Sys2Proof/Certificates/Slice0/Obligations.lean ====
section
/-!
DEFINITION. The statements for the provers, chapter by chapter.
-/

open Sys2Proof Sys2Proof.Machine

/-! ## Chapter 1: coin path -/

/-- R5: of the classes that a triple matches, the one with the lowest value is given, and among classes of equal value the
one with the lowest index; with no match there is no class and the gate decision rejects the coin with NO_MATCH.  The class
index and value go with the coin into its transit record and its chute record. -/
def Obligations.LowestMatchingClassIsGiven : Prop :=
  (∀ (m : List Host.Cell) (t : Triple),
    (classifyTriple m t = none ↔ ∀ k < 8, (coinClassAt m k).matchesTriple t = false) ∧
    ∀ k v, classifyTriple m t = some (k, v) ↔
      (1 ≤ k ∧ k ≤ 8 ∧ (coinClassAt m (k - 1)).matchesTriple t = true ∧ v = (coinClassAt m (k - 1)).value ∧
        ∀ j < 8, (coinClassAt m j).matchesTriple t = true →
          v < (coinClassAt m j).value ∨ (v = (coinClassAt m j).value ∧ k ≤ j + 1))) ∧
  (∀ (s : State) (t : Triple) (k v : Nat) (r : Route),
    s.acceptanceOpen = true → classifyTriple s.activeBytes t = some (k, v) → s.routeFor v = some r →
    (s.decideCoin t).coin.transit = some ⟨k, v, r, s.now⟩) ∧
  (∀ (s : State) (t : Triple), s.acceptanceOpen = true → classifyTriple s.activeBytes t = none →
    (s.decideCoin t).setPort = s.setPort.rejected .noMatch ∧ (s.decideCoin t).coin.transit = s.coin.transit) ∧
  (∀ (s : State) (tr : Transit), s.coin.transit = some tr → (∀ c, s.coin.entry ≠ .measuredHeld c) →
    s.forwardPassage.coin.chute = s.coin.chute ++ [⟨tr.coinClass, tr.value, tr.route, s.now, .current⟩])

/-- R7, R15, R19, R21: an S1 entry in ACTIVE acts by the entry stage's state, starts the 250 ms wait and the hold timer, and a
double entry rejects the coins that were not rejected yet.  In STANDBY an interruption of S1 starts its hold timer and is no
entry. -/
def Obligations.EntryBeamActsByStage : Prop :=
  (∀ s : State, s.power.state = .standby → s.unclaimed →
    ∃ t, exec (.beamInterrupted (.one .s1)) s = .next t ∧
      t.beforeTests =
        ({ s with
          coin := { s.coin with
            beams := { s.coin.beams with s1 := true }
            hold := { s.coin.hold with s1 := some (s.now + 3000) }
            jamEntry := { s.coin.jamEntry with clearRun := none } } } : State).beforeTests) ∧
  ∀ s : State, s.busy →
    ∃ t, exec (.beamInterrupted (.one .s1)) s = .next t ∧
      t.beforeTests =
        ({ s with
          coin := { s.coin with
            beams := { s.coin.beams with s1 := true }
            hold := { s.coin.hold with s1 := some (s.now + 3000) }
            jamEntry := { s.coin.jamEntry with clearRun := none }
            entry := s.coin.entry.afterEntry.1
            measureTimer := some (s.now + 250)
            returnWait := s.coin.expects s.coin.entry.afterEntry.2 s.now }
          setPort := if s.coin.entry = .empty then s.setPort else s.setPort.rejected .double } : State).beforeTests

/-- R8, R9, R10, R11, R13, R15, R21: a measurement is discarded, ignored, held behind a coin in transit, or decides the gate,
with an owner on the line and with none.  The head measures in ACTIVE alone. -/
def Obligations.MeasurementDecidesTheGate : Prop :=
  ∀ (s : State) (m1 m2 m3 : Byte),
    (s.serving → s.power.state = .active →
      ∃ t, exec (.measurement m1 m2 m3) s = .next t ∧
        t.beforeTests = State.beforeTests
          (match s.coin.entry with
           | .empty => s
           | .measuredHeld _ => s
           | .discarding n =>
             if n ≤ 1 then { s with coin := { s.coin with entry := .empty, measureTimer := none } }
             else { s with coin := { s.coin with entry := .discarding (n - 1) } }
           | .entered =>
             if s.coin.transit.isSome then
               { s with coin := { s.coin with entry := .measuredHeld ⟨m1, m2, m3⟩, measureTimer := none } }
             else s.gateOutcome ⟨m1, m2, m3⟩)) ∧
    (s.power.state ≠ .active → exec (.measurement m1 m2 m3) s = .next s)

/-- R7, R12, R14, R15, R20: the measurement wait runs out on a coin that the head did not measure, which is rejected, or on
coins rejected already; the transit wait and the return wait run out, and each ends what it waited for and sets its jam.  A
coin whose decision was held behind the transit finds acceptance closed by the ACCEPT jam and is rejected (R9, R13).  With no
owner on the line the end of a transit can let the part go to STANDBY (R170).  A jam set again is as it was (log entry 61). -/
def Obligations.CoinWaitExpiriesEmptyAndSetJams : Prop :=
  (∀ (s : State) (d : Nat), s.busy ∨ (s.unclaimed ∧ s.isActive = true) → s.coin.measureTimer = some d →
     (s.coin.entry = .entered →
       ∃ t, exec .measurementWaitExpiry s = .next t ∧
         t.beforeTests =
           ({ s with
             now := max s.now d
             coin := { s.coin with entry := .empty, measureTimer := none, returnWait := s.coin.expects 1 (max s.now d) }
             setPort := s.setPort.rejected .noMatch } : State).beforeTests) ∧
     (∀ n, s.coin.entry = .discarding n →
       ∃ t, exec .measurementWaitExpiry s = .next t ∧
         t.beforeTests =
           ({ s with now := max s.now d, coin := { s.coin with entry := .empty, measureTimer := none } } :
             State).beforeTests)) ∧
  ((∀ (s : State) (tr : Transit), s.busy ∨ (s.unclaimed ∧ s.isActive = true) →
     s.coin.transit = some tr → (∀ c, s.coin.entry ≠ .measuredHeld c) →
     ∃ t, exec .transitWaitExpiry s = .next t ∧
       t.beforeTests =
         (({ s with now := max s.now (tr.openedAt + 600), coin := { s.coin with transit := none } } : State).setJam
           .accept).settledPower.beforeTests) ∧
   (∀ (s : State) (tr : Transit) (c : Triple), s.busy ∨ (s.unclaimed ∧ s.isActive = true) →
     s.coin.transit = some tr → s.coin.entry = .measuredHeld c →
     ∃ t, exec .transitWaitExpiry s = .next t ∧
       t.beforeTests = State.beforeTests
         (let u := ({ s with now := max s.now (tr.openedAt + 600), coin := { s.coin with transit := none } } :
           State).setJam .accept
          ({ u with
            coin := { u.coin with entry := .empty, measureTimer := none, returnWait := u.coin.expects 1 u.now }
            setPort := u.setPort.rejected .closed } : State).settledPower)) ∧
   (∀ (s : State) (w : Nat) (ws : List Nat), s.busy ∨ (s.unclaimed ∧ s.isActive = true) →
     s.coin.returnWait = w :: ws →
     ∃ t, exec .returnWaitExpiry s = .next t ∧
       t.beforeTests =
         (({ s with now := max s.now (w + 800), coin := { s.coin with returnWait := [] } } : State).setJam
           .ret).beforeTests))

/-- R19, R21: a beam held interrupted for more than 3 s sets the jam of its path, S1 in STANDBY too, and an ENTRY jam empties
the entry stage, rejecting a coin that was not decided.  A jam set again is as it was (log entry 61). -/
def Obligations.HeldBeamSetsItsJam : Prop :=
  (∀ (s : State) (d : Nat), s.busy ∨ s.unclaimed → s.coin.hold.s1 = some d →
      ∃ t, exec (.beamHoldExpiry .s1) s = .next t ∧ t.coin.jamEntry.isSet = true ∧ t.coin.hold.s1 = none ∧
        t.coin.entry = .empty ∧ t.coin.measureTimer = (if s.coin.entry = .empty then s.coin.measureTimer else none) ∧
        t.coin.transit = s.coin.transit ∧ t.coin.chute = s.coin.chute ∧ t.tamper.causes.coinJam =
          (if s.coin.jamEntry.isSet then s.tamper.causes.coinJam else true) ∧ SameMoney s t ∧ SameStore s t ∧
        t.coin.returnWait =
          (match s.coin.entry with
          | .entered => s.coin.expects 1 (max s.now d)
          | .measuredHeld _ => s.coin.expects 1 (max s.now d)
          | .empty => s.coin.returnWait
          | .discarding _ => s.coin.returnWait)) ∧
  ∀ (s : State) (d : Nat), s.busy ∨ (s.unclaimed ∧ s.isActive = true) →
    (s.coin.hold.s2a = some d →
      ∃ t, exec (.beamHoldExpiry .s2a) s = .next t ∧
        t.beforeTests =
          (({ s with now := max s.now d, coin := { s.coin with hold := { s.coin.hold with s2a := none } } } :
            State).setJam .accept).beforeTests) ∧
    (s.coin.hold.s2b = some d →
      ∃ t, exec (.beamHoldExpiry .s2b) s = .next t ∧
        t.beforeTests =
          (({ s with now := max s.now d, coin := { s.coin with hold := { s.coin.hold with s2b := none } } } :
            State).setJam .accept).beforeTests) ∧
    (s.coin.hold.s3 = some d →
      ∃ t, exec (.beamHoldExpiry .s3) s = .next t ∧
        t.beforeTests =
          (({ s with now := max s.now d, coin := { s.coin with hold := { s.coin.hold with s3 := none } } } :
            State).setJam .ret).beforeTests)

/-- R2: what the S2 pair tracker becomes at an interruption and at a clear of either beam of the pair, while the beams are
read, and QUIET after every power return and cold start. -/
def Obligations.TrackerFollowsThePair : Prop :=
  (∀ s : State, s.running = true →
    (∃ t, exec (.beamInterrupted (.one .s2a)) s = .next t ∧
      (s.coin.tracker = .quiet → s.coin.beams.s2b = false → t.coin.tracker = .aFirst false) ∧
      (∀ both, s.coin.tracker = .bFirst both → t.coin.tracker = .bFirst true) ∧
      (s.coin.tracker = .bothNoOrder → t.coin.tracker = .bothNoOrder)) ∧
    (∃ t, exec (.beamInterrupted (.one .s2b)) s = .next t ∧
      (s.coin.tracker = .quiet → s.coin.beams.s2a = false → t.coin.tracker = .bFirst false) ∧
      (∀ both, s.coin.tracker = .aFirst both → t.coin.tracker = .aFirst true) ∧
      (s.coin.tracker = .bothNoOrder → t.coin.tracker = .bothNoOrder)) ∧
    (∃ t, exec (.beamInterrupted .s2Pair) s = .next t ∧
      (s.coin.tracker = .quiet → t.coin.tracker = .bothNoOrder)) ∧
    (∃ t, exec (.beamClear .s2a) s = .next t ∧
      (s.coin.tracker = .aFirst false → t.coin.tracker = .quiet) ∧
      (s.coin.tracker = .aFirst true → s.coin.beams.s2b = false → t.coin.tracker = .quiet) ∧
      (s.coin.tracker = .aFirst true → s.coin.beams.s2b = true → t.coin.tracker = .aFirst true) ∧
      (s.coin.tracker = .bFirst true → s.coin.beams.s2b = false → t.coin.tracker = .quiet) ∧
      (s.coin.tracker = .bFirst true → s.coin.beams.s2b = true → t.coin.tracker = .bFirst true) ∧
      (s.coin.tracker = .bothNoOrder → t.coin.tracker = (if s.coin.beams.s2b then .bothNoOrder else .quiet))) ∧
    (∃ t, exec (.beamClear .s2b) s = .next t ∧
      (s.coin.tracker = .bFirst false → t.coin.tracker = .quiet) ∧
      (s.coin.tracker = .aFirst true → s.coin.beams.s2a = false → t.coin.tracker = .quiet) ∧
      (s.coin.tracker = .aFirst true → s.coin.beams.s2a = true → t.coin.tracker = .aFirst true) ∧
      (s.coin.tracker = .bFirst true → s.coin.beams.s2a = false → t.coin.tracker = .quiet) ∧
      (s.coin.tracker = .bFirst true → s.coin.beams.s2a = true → t.coin.tracker = .bFirst true) ∧
      (s.coin.tracker = .bothNoOrder → t.coin.tracker = (if s.coin.beams.s2a then .bothNoOrder else .quiet)))) ∧
  ∀ (s : State) (fromOff : Bool), (s.powerReturn fromOff).coin.tracker = .quiet

/-- R2, R9, R11, R18, R21, R23, R170: as the second beam of the pair clears, a FORWARD passage turns the coin in transit into a
chute record with mark CURRENT, and creates nothing without one; a REVERSE passage strikes the newest record and raises
COIN_FRAUD with its class, or with LATE when there is none, in STANDBY too.  A gate decision held behind the transit is made
after its FORWARD passage (R9).  From BOTH_NO_ORDER, and where the first beam clears alone, nothing but the beam's own record
changes, as while the other beam is still interrupted.  With no owner on the line the end of a transit can let the part go to
STANDBY. -/
def Obligations.PassagesActOnTheChuteList : Prop :=
  (∀ (s : State) (b : Beam), s.serving →
    (b = .s2b ∧ s.coin.beams.s2a = true) ∨ (b = .s2a ∧ s.coin.beams.s2b = true) →
    ∃ t, exec (.beamClear b) s = .next t ∧
      t.beforeTests =
        ({ s with coin := { s.coin.beamCleared s.now b with tracker := t.coin.tracker } } : State).beforeTests) ∧
  ∀ (s : State) (b : Beam), s.busy ∨ s.unclaimed →
    (b = .s2b ∧ s.coin.beams.s2a = false ∧ s.coin.beams.s2b = true) ∨
      (b = .s2a ∧ s.coin.beams.s2a = true ∧ s.coin.beams.s2b = false) →
    ∃ t, exec (.beamClear b) s = .next t ∧
      t.beforeTests = State.beforeTests
       (State.settledPower
        (let seen : CoinPath := { s.coin.beamCleared s.now b with tracker := .quiet }
         match s.coin.tracker with
         | .aFirst true =>
           (match s.coin.transit with
           | none => { s with coin := seen }
           | some tr =>
             State.heldOutcome
               { s with
                 coin := { seen with
                   transit := none
                   chute := s.coin.chute ++ [⟨tr.coinClass, tr.value, tr.route, s.now, .current⟩] }
                 credit := { s.credit with
                   mirrorEscrow := s.credit.mirrorEscrow + (if tr.route = .escrow then 1 else 0)
                   mirrorSum := s.credit.mirrorSum + tr.value } })
         | .bFirst true =>
           (match s.coin.chute.getLast? with
           | none => { s with coin := seen, events := (s.occur .fraudChute .late).events }
           | some r =>
             { s with
               coin := { seen with chute := s.coin.chute.dropLast }
               credit := { s.credit with
                 mirrorEscrow := s.credit.mirrorEscrow - (if r.route = .escrow then 1 else 0)
                 mirrorSum := s.credit.mirrorSum - (if r.mark = .current then r.value else 0) }
               events := (s.occur .fraudChute (.number r.coinClass)).events })
         | .aFirst false => { s with coin := seen }
         | .bFirst false => { s with coin := seen }
         | .bothNoOrder => { s with coin := seen }
         | .quiet => { s with coin := seen }))

/-- R3, R14, R19, R20, R21, R28, R30, R170: an S3 crossing confirms the release in flight to RETURN that has waited at least as
long as the oldest return wait entry, and otherwise takes that entry; an S4 crossing confirms a release in flight to BOX, and
otherwise clears a set RELEASE jam.  A confirmed release leaves the head of the queue, clears a set RELEASE jam, and the next
release starts at once if its head can start (R27).  The RELEASE jam clears with its retry timer, and the cause COIN_JAM with
the last jam.  The same holds with no owner on the line and in STANDBY, where S3's hold timer does not run; an empty release
queue can let the part go to STANDBY. -/
def Obligations.CrossingsMeetTheirExpectation : Prop :=
  ∀ s : State, s.busy ∨ s.unclaimed →
    let next : Option Nat := if canStart s.call.queue.tail s.credit.boxPresent then some s.now else none
    (∃ t, exec (.beamInterrupted (.one .s3)) s = .next t ∧
      t.beforeTests = State.beforeTests (State.settledPower
        (let u : State := { s with coin := { s.coin with
          beams := { s.coin.beams with s3 := true }
          hold := if s.isActive then { s.coin.hold with s3 := some (s.now + 3000) } else s.coin.hold
          jamReturn := { s.coin.jamReturn with clearRun := none } } }
         let met : Bool := match s.credit.inFlight, s.call.queue with
           | some started, e :: _ => e.dest == .ret && decide (∀ w ∈ s.coin.returnWait.head?, started ≤ w)
           | _, _ => false
         if met then ({ u with call := { s.call with queue := s.call.queue.tail } } : State).releaseUnjammed
         else { u with coin := { u.coin with returnWait := s.coin.returnWait.tail } })) ∧
      (∀ started rest e, s.credit.inFlight = some started → s.call.queue = e :: rest → e.dest = .ret →
        (∀ w ∈ s.coin.returnWait.head?, started ≤ w) → t.credit.inFlight = next)) ∧
    (∃ t, exec (.beamInterrupted (.one .s4)) s = .next t ∧
      t.beforeTests = State.beforeTests (State.settledPower
        (let u : State := { s with coin := { s.coin with beams := { s.coin.beams with s4 := true } } }
         let met : Bool := match s.credit.inFlight, s.call.queue with
           | some _, e :: _ => e.dest == .box
           | _, _ => false
         if met then ({ u with call := { s.call with queue := s.call.queue.tail } } : State).releaseUnjammed
         else u.releaseUnjammed)) ∧
      (∀ started rest e, s.credit.inFlight = some started → s.call.queue = e :: rest → e.dest = .box →
        t.credit.inFlight = next))

/-- R17, R21, R33, R34, R39, R80, R95, R170: the oldest chute record settles by its route and session mark; the totals, CALL
and the chute mirror change as the table gives, CREDIT is raised when A changes, and BOX_NEAR_FULL follows the box count of a
BOX coin.  A new A that covers the next charge clears the warning flag, and lets a session that waits for its deposit dial out
once A has reached D; a settle that takes the part out of service refuses its buffer (with both at once the cause comes first,
log entry 45).  The same holds with no owner on the line and in STANDBY, where a refunded coin's release makes the part ACTIVE
(R21, R170). -/
def Obligations.SettleFollowsRouteAndMark : Prop :=
  ∀ (s : State) (r : ChuteRecord) (rest : List ChuteRecord), s.busy ∨ s.unclaimed → s.coin.chute = r :: rest →
    ∃ t, exec .chuteSettle s = .next t ∧
      t.coin = { s.coin with chute := rest } ∧ t.call = s.call.settles r (max s.now (r.passage + 1500)) ∧
      t.lifetime = s.lifetime.settles r (s.call.credit + r.value - s.call.creditAfter r.value) ∧
      t.period = s.period.settles r (s.call.credit + r.value - s.call.creditAfter r.value) ∧
      t.credit.mirrorEscrow = s.credit.mirrorEscrow - (if r.route = .escrow then 1 else 0) ∧
      t.credit.mirrorSum = s.credit.mirrorSum - (if r.mark = .current then r.value else 0) ∧
      t.isPending .credit = (s.isPending .credit || decide (t.available ≠ s.available)) ∧
      t.tamper.causes.boxNearFull =
        (if r.route = .box then decide (s.config.boxCapacity - 12 ≤ s.call.boxCount + 1)
         else s.tamper.causes.boxNearFull) ∧
      SameStore s t ∧ SameService s t ∧ t.clock = s.clock ∧ t.elapsed = s.elapsed ∧ t.modem = s.modem ∧
      (let covered := match s.rating.nextCharge with
         | some x => decide (t.available ≠ s.available) && decide (x ≤ t.available)
         | none => false
       t.rating.warning = (s.rating.warning && !covered)) ∧
      ((∀ id d, s.line.resolution = .waitingDeposit id d → s.line.phase ≠ .ready) →
        t.line = s.line ∧ t.rating = { s.rating with warning := t.rating.warning } ∧
        t.power = { s.power with state := if t.call.queue = [] then s.power.state else .active }) ∧
      (∀ id d, s.line.resolution = .waitingDeposit id d → s.line.phase = .ready →
        (t.available = s.available → t.serviceState = s.serviceState → t.line = s.line) ∧
        (t.available ≠ s.available ∨ t.serviceState ≠ s.serviceState →
          DepositTested s t id d (max s.now (r.passage + 1500))))

/-- R1, R19, R20, R21: a jam set while clear raises COIN_JAM of its path and the cause COIN_JAM, and starts its 2 s clear run
when its beams are clear; a jam set again changes nothing, its clear run among it (log entry 61).  The end of the clear run
clears it, and the cause when no jam is left.  A beam's clear event stops its hold timer and starts the 2 s run of its path's
set jam once the path's beams are all clear; an interruption of S2a or S2b starts its hold timer, in ACTIVE, and stops the run
of the ACCEPT jam. -/
def Obligations.JamsRaiseAndClearTheCause : Prop :=
  (∀ (s : State) (j : ChuteJam),
    ((s.coin.jam j).isSet = true → s.setJam j = s) ∧
    ((s.coin.jam j).isSet = false →
      (s.setJam j).coin =
        s.coin.putJam j ⟨true, if s.coin.watchedClear j then some (s.now + 2000) else none⟩ ∧
      (s.setJam j).events = (s.occur (jamPair j) .absent).events ∧ (s.setJam j).tamper.causes.coinJam = true ∧
      (s.setJam j).acceptanceOpen = false ∧ SameMoney s (s.setJam j) ∧ SameStore s (s.setJam j))) ∧
  (∀ (s : State) (j : ChuteJam) (d : Nat), s.serving → (s.coin.jam j).clearRun = some d →
    ∃ t, exec (.jamClearRunExpiry j) s = .next t ∧
      t.beforeTests = State.beforeTests
        (let u : State := { s with now := max s.now d, coin := s.coin.putJam j ⟨false, none⟩ }
         if u.anyJam then u else u.changeCause .coinJam false)) ∧
  (∀ s : State, s.serving →
    let run (x : Jam) (clear : Bool) : Jam := if x.isSet && clear then ⟨true, some (s.now + 2000)⟩ else x
    let stopped (x : Jam) : Jam := { x with clearRun := none }
    (∃ t, exec (.beamClear .s1) s = .next t ∧
      t.beforeTests =
        ({ s with coin := { s.coin with
          beams := { s.coin.beams with s1 := false }, hold := { s.coin.hold with s1 := none }
          jamEntry := run s.coin.jamEntry true } } : State).beforeTests) ∧
    (∃ t, exec (.beamClear .s3) s = .next t ∧
      t.beforeTests =
        ({ s with coin := { s.coin with
          beams := { s.coin.beams with s3 := false }, hold := { s.coin.hold with s3 := none }
          jamReturn := run s.coin.jamReturn true } } : State).beforeTests) ∧
    (∃ t, exec (.beamClear .s4) s = .next t ∧
      t.beforeTests =
        ({ s with coin := { s.coin with beams := { s.coin.beams with s4 := false } } } : State).beforeTests) ∧
    (∃ t, exec (.beamClear .s2a) s = .next t ∧ t.coin.beams = { s.coin.beams with s2a := false } ∧
      t.coin.hold.s2a = none ∧ t.coin.jamAccept = run s.coin.jamAccept (!s.coin.beams.s2b)) ∧
    (∃ t, exec (.beamClear .s2b) s = .next t ∧ t.coin.beams = { s.coin.beams with s2b := false } ∧
      t.coin.hold.s2b = none ∧ t.coin.jamAccept = run s.coin.jamAccept (!s.coin.beams.s2a)) ∧
    (∀ (hit : BeamHit) (a b : Bool), (hit, a, b) ∈ [(.one .s2a, true, false), (.one .s2b, false, true), (.s2Pair, true, true)] →
      ∃ t, exec (.beamInterrupted hit) s = .next t ∧
        t.beforeTests =
          ({ s with coin := { s.coin with
            beams := { s.coin.beams with s2a := a || s.coin.beams.s2a, s2b := b || s.coin.beams.s2b }
            hold := { s.coin.hold with
              s2a := if a && s.isActive then some (s.now + 3000) else s.coin.hold.s2a
              s2b := if b && s.isActive then some (s.now + 3000) else s.coin.hold.s2b }
            jamAccept := stopped s.coin.jamAccept
            tracker := t.coin.tracker } } : State).beforeTests))

/-! ## Chapter 2: credit unit -/

/-- R29, R30: the confirmation timer of a release runs out.  From a clear jam the head leaves the queue, the RELEASE jam is set
with its 2 s retry timer, and COIN_JAM(RELEASE) and the cause are raised; a failed retry keeps its entry. The retry timer's end
starts a retry of a head that can start, and else runs again.  No money changes.  A release starts when the part is ACTIVE with
none in flight, the RELEASE jam clear and a head bound for RETURN, or for BOX with the box PRESENT: after any command (R27), and
at once when the box switch shows the box seated. -/
def Obligations.ReleaseTimersFailAndRetry : Prop :=
  (∀ (c : Instr) (s t : State), s.ReleaseStarted → exec c s = .next t → t.ReleaseStarted) ∧
  (∀ (s : State) (seated : Bool), s.busy → s.credit.inFlight = none →
    ∃ t, exec (.boxSwitchQualified seated) s = .next t ∧
      t.credit.inFlight =
        (if s.credit.releaseJam = false ∧ canStart s.call.queue seated = true then some s.now else none)) ∧
  (∀ (s : State) (d : Nat), s.busy → s.credit.inFlight = some d → s.credit.releaseJam = false →
    ∃ t, exec .releaseConfirmExpiry s = .next t ∧ t.call = { s.call with queue := s.call.queue.tail } ∧
      t.credit = { s.credit with inFlight := none, releaseJam := true, retryTimer := some (max s.now (d + 400) + 2000) } ∧
      t.events = (s.occur .jamRelease .absent).events ∧ t.tamper.causes.coinJam = true ∧ t.lifetime = s.lifetime ∧
      t.period = s.period ∧ t.coin = s.coin ∧ SameStore s t ∧ SameService s t ∧ SameClock s t) ∧
  (∀ (s : State) (d : Nat), s.busy → s.credit.inFlight = some d → s.credit.releaseJam = true →
    ∃ t, exec .releaseConfirmExpiry s = .next t ∧
      t.credit = { s.credit with inFlight := none, retryTimer := some (max s.now (d + 400) + 2000) } ∧
      t.beforeTests = ({ s with now := max s.now (d + 400), credit := t.credit } : State).beforeTests) ∧
  (∀ (s : State) (d : Nat), s.busy → s.credit.retryTimer = some d → s.credit.releaseJam = true →
    ∃ t, exec .releaseRetryExpiry s = .next t ∧
      t.credit =
        (if canStart s.call.queue s.credit.boxPresent then { s.credit with inFlight := some (max s.now d), retryTimer := none }
         else { s.credit with retryTimer := some (max s.now d + 2000) }) ∧
      t.beforeTests = ({ s with now := max s.now d, credit := t.credit } : State).beforeTests)

/-- R38, R120, R122, R126: a qualified change of the box switch sets box present and the BOX input.  The first after a start is
no edge; a change is one, which a collector session exempts and its swap tracker follows. -/
def Obligations.BoxSwitchReportsRemovalAndInsertion : Prop :=
  ∀ (s : State) (seated : Bool), s.busy →
    ∃ t, exec (.boxSwitchQualified seated) s = .next t ∧ t.credit.boxPresent = seated ∧ t.credit.boxQualified = true ∧
      SameMoney s t ∧ SameStore s t ∧ SameClock s t ∧ SameService s t ∧ t.coin = s.coin ∧ t.line = s.line ∧
      t.rating = s.rating ∧ t.modem = s.modem ∧
      (s.credit.boxQualified = true → s.credit.boxPresent ≠ seated →
        t.tamper.box = ⟨if seated then .closed else .opened, true⟩ ∧
        (s.tamper.collectorOpen = true →
          t.events = s.events ∧
          (seated = false → t.tamper.swapRemoved = true) ∧
          (seated = true → s.tamper.swapRemoved = true → t.tamper.swapObserved = true)) ∧
        (s.tamper.collectorOpen = false →
          maskHas t.events.latches 4 = true ∧
          (maskHas s.config.enables 4 = true → seated = false → s.config.edges.get 3 ≠ .closed →
            t.events.records.any (·.takes .boxAbsent) = true))) ∧
      (s.credit.boxQualified = true → s.credit.boxPresent = seated →
        t.events = s.events ∧ t.tamper = s.tamper) ∧
      (s.credit.boxQualified = false →
        t.events = s.events ∧ t.tamper.box = ⟨if seated then .closed else .opened, true⟩)

/-- R35: a take is answered NO_SESSION, SHORT or TAKEN; a TAKEN one collects the fewest of the oldest escrow coins that cover
it, and the totals, the box count and the release queue follow. -/
def Obligations.TakeCollectsTheFewestOldestCoins : Prop :=
  ∀ (s : State) (x : Nat),
    (s.call.sessionOpen = false → s.take x = (.noSession, s)) ∧
    (s.call.sessionOpen = true → s.available < x → s.take x = (.short, s)) ∧
    (s.call.sessionOpen = true → s.take 0 = (.taken, s)) ∧
    (s.call.sessionOpen = true → x ≤ s.available → 0 < x →
      (s.take x).1 = .taken ∧
      ∃ n, n ≤ s.call.escrow.length ∧ x ≤ s.call.credit + escrowValue (s.call.escrow.take n) ∧
        (∀ m < n, s.call.credit + escrowValue (s.call.escrow.take m) < x) ∧
        (s.take x).2.call =
          { s.call with
            escrow := s.call.escrow.drop n
            credit := s.call.credit + escrowValue (s.call.escrow.take n) - x
            boxCount := s.call.boxCount + n
            queue := s.call.queue ++ (s.call.escrow.take n).map fun e => ⟨e.coinClass, e.value, .box⟩ } ∧
        (s.take x).2.lifetime =
          ((s.call.escrow.take n).foldl (fun t e => t.addCollected e.value) s.lifetime).addCharged x ∧
        (s.take x).2.period =
          ((s.call.escrow.take n).foldl (fun t e => t.addCollected e.value) s.period).addCharged x ∧
        (s.take x).2.available + x = s.available ∧ (s.take x).2.isPending .credit = true ∧
        Section.call ∈ (s.take x).2.ledger.dirty ∧
        ((s.take x).2.lifetime ≠ s.lifetime → Section.lifetime ∈ (s.take x).2.ledger.dirty) ∧
        ((s.take x).2.period ≠ s.period → Section.period ∈ (s.take x).2.ledger.dirty) ∧
        (s.take x).2.coin = s.coin ∧ SameStore s (s.take x).2)

/-! ## Chapter 3: tariff store -/

/-- R51, R52: STAGE_CLEAR empties the staged loaded-block set, and BLOCK_LOAD with a block index of 0..15 and 64 bytes puts them
into that block of the staged slot and adds the index to the set; either cancels a pending activation.  The slot's other bytes
and the active slot are as before.  A payload that does not fit is answered RANGE and changes nothing else.  A STAGE_CLEAR of a
slot whose set is empty marks no section (R167, log entry 49). -/
def Obligations.StagedBlocksLoadAndClear : Prop :=
  (∀ (s : State) (n : Byte), s.takesCommand n →
    ∃ t, exec (.stageClear n []) s = .next t ∧
      t.beforeTests = State.beforeTests
        (((({ s with config := { s.config with activationPending := false } } : State).modImage s.stagedSlot fun i =>
          { i with loaded := 0 })).repliesTo n 0x30 [if s.config.activationPending then 1 else 0, 0]) ∧
      ((s.image s.stagedSlot).loaded = 0 → s.config.activationPending = false → s.ledger = ⟨[], none⟩ →
        t.ledger = ⟨[], none⟩)) ∧
  (∀ (s : State) (n i : Byte) (bytes : List Byte), s.takesCommand n → s.ImagesCanonical → i.toNat < 16 →
    bytes.length = 64 →
    ∃ t, exec (.blockLoad n (i :: bytes)) s = .next t ∧
      (∀ a, memRead (t.image s.stagedSlot).bytes a =
        if 64 * i.toNat ≤ a ∧ a < 64 * i.toNat + 64 then bytes.getD (a - 64 * i.toNat) 0
        else memRead (s.image s.stagedSlot).bytes a) ∧
      (t.image s.stagedSlot).loaded = maskAdd (s.image s.stagedSlot).loaded i.toNat ∧
      t.image s.config.activeSlot = s.image s.config.activeSlot ∧
      t.config = { s.config with activationPending := false } ∧
      t.modem = (s.repliesTo n 0x30 [if s.config.activationPending then 1 else 0, 0]).modem ∧
      SameMoney s t ∧ SameHousing s t ∧ SameClock s t ∧ SameService s t ∧ t.coin = s.coin ∧ t.line = s.line ∧
      t.rating = s.rating ∧ t.setPort = s.setPort) ∧
  (∀ (s : State) (n : Byte) (payload : List Byte), s.takesCommand n → payload.length ≤ 80 →
    (∀ i bytes, payload = i :: bytes → i.toNat < 16 → bytes.length ≠ 64) →
    ∃ t, exec (.blockLoad n payload) s = .next t ∧ t.beforeTests = (s.repliesTo n 0x30 [4, 0]).beforeTests)

/-- R45, R46, R47, R48, R49, R53, R54, R193: validation makes its five checks in order, by the block map of section 12.6, and
the first that fails gives the reason.  STAGE_ACTIVATE is answered INVALID with the first failing check, leaving the store as
it was; with a valid staged image the slots swap when no USER session is open, and the activation is pended when one is. -/
def Obligations.ActivationSwapsOrPends : Prop :=
  (∀ i : ImageSection,
    let m := i.bytes
    ((∃ k < 16, maskHas i.loaded k = false) → validateImage i = some .blocks) ∧
    ((∀ k < 16, maskHas i.loaded k = true) →
      (¬ ImageCheck m → validateImage i = some .check) ∧
      (ImageCheck m → ¬ ImageFields m → validateImage i = some .field) ∧
      (ImageCheck m → ImageFields m → ¬ ImageWindows m → validateImage i = some .window) ∧
      (ImageCheck m → ImageFields m → ImageWindows m → ¬ ImageEntriesDiffer m → validateImage i = some .duplicate) ∧
      (ImageCheck m → ImageFields m → ImageWindows m → ImageEntriesDiffer m → validateImage i = none))) ∧
  (∀ (s : State) (n : Byte) (f : ValidationFailure), s.takesCommand n → validateImage (s.image s.stagedSlot) = some f →
    ∃ t, exec (.stageActivate n []) s = .next t ∧
      t.beforeTests = (s.repliesTo n 0x30 [3, byteOf f.code]).beforeTests) ∧
  (∀ (s : State) (n : Byte), s.takesCommand n → validateImage (s.image s.stagedSlot) = none → s.line.session ≠ .opened →
    ∃ t, exec (.stageActivate n []) s = .next t ∧
      t.config =
        { s.config with activeSlot := s.stagedSlot, activePresent := true, activationPending := false } ∧
      t.image s.config.activeSlot = { s.image s.config.activeSlot with loaded := 0 } ∧
      t.image s.stagedSlot = s.image s.stagedSlot ∧
      t.tamper.causes.noImage = (if s.config.activePresent then s.tamper.causes.noImage else false) ∧
      t.modem = (s.repliesTo n 0x30 [0, 0]).modem ∧ SameMoney s t ∧ SameClock s t ∧ SameService s t ∧
      t.events = s.events ∧ t.coin = s.coin ∧ t.line = s.line ∧ t.rating = s.rating) ∧
  (∀ (s : State) (n : Byte), s.takesCommand n → validateImage (s.image s.stagedSlot) = none → s.line.session = .opened →
    ∃ t, exec (.stageActivate n []) s = .next t ∧
      t.beforeTests =
        (({ s with config := { s.config with activationPending := true } } : State).repliesTo n 0x30 [2, 0]).beforeTests)

/-- R57, R58, R59: a digit's resolution with an active image present.  A candidate longer than the buffer keeps it WAITING; else
a free list number equal to the buffer is class 0; else the longest used entry contained in it decides.  A resolution is stable:
a further digit changes no containment, equals no free number and finds no longer candidate.  The final answer is class 0 for a
free number, else the class of the longest contained entry, else the default class.  With no active image the free numbers alone
decide: class 0 for one equal to the buffer with none longer, WAITING while one is longer, and NONE else, after a digit (for a
buffer that only a shorter number agrees with, log entry 47) and at the end of dialling. -/
def Obligations.ResolutionIsByTheLongestPrefixAndStable : Prop :=
  (∀ (s : State) (digits : List Digit), s.config.activePresent = true → noDuplicates (usedEntries s.activeBytes) = true →
    (∀ e ∈ usedEntries s.activeBytes, e.inRange = true) →
    let buffer := digitsNat digits
    (buffer ∈ s.freeNumbers → s.resolveFinal digits = .resolved 0) ∧
    (buffer ∉ s.freeNumbers →
      (∀ e ∈ usedEntries s.activeBytes, e.digits <+: buffer →
        (∀ f ∈ usedEntries s.activeBytes, f.digits <+: buffer → f.digits.length ≤ e.digits.length) →
        s.resolveFinal digits = .resolved e.classId) ∧
      ((∀ e ∈ usedEntries s.activeBytes, ¬ e.digits <+: buffer) →
        s.resolveFinal digits = .resolved (memRead s.activeBytes 7).toNat))) ∧
  (∀ (s : State) (digits : List Digit), s.config.activePresent = false →
    let buffer := digitsNat digits
    ((∃ c ∈ s.freeNumbers, buffer.length < c.length ∧ buffer <+: c) →
      s.resolveDigit digits = .waiting ∧ s.resolveFinal digits = .unknown) ∧
    ((∀ c ∈ s.freeNumbers, ¬ (buffer.length < c.length ∧ buffer <+: c)) →
      s.resolveDigit digits = (if buffer ∈ s.freeNumbers then .resolved 0 else .unknown) ∧
      s.resolveFinal digits = (if buffer ∈ s.freeNumbers then .resolved 0 else .unknown))) ∧
  ∀ (s : State) (digits : List Digit), s.config.activePresent = true → noDuplicates (usedEntries s.activeBytes) = true →
    (∀ e ∈ usedEntries s.activeBytes, e.inRange = true) → digits ≠ [] →
    let buffer := digitsNat digits
    let candidates := s.freeNumbers ++ (usedEntries s.activeBytes).map (·.digits)
    ((∃ c ∈ candidates, buffer.length < c.length ∧ buffer <+: c) → s.resolveDigit digits = .waiting) ∧
    ((∀ c ∈ candidates, ¬ (buffer.length < c.length ∧ buffer <+: c)) →
      (buffer ∈ s.freeNumbers → s.resolveDigit digits = .resolved 0) ∧
      (buffer ∉ s.freeNumbers →
        (∀ e ∈ usedEntries s.activeBytes, e.digits <+: buffer →
          (∀ f ∈ usedEntries s.activeBytes, f.digits <+: buffer → f.digits.length ≤ e.digits.length) →
          s.resolveDigit digits = .resolved e.classId) ∧
        ((∀ e ∈ usedEntries s.activeBytes, ¬ e.digits <+: buffer) → s.resolveDigit digits = .waiting))) ∧
    (∀ id d, s.resolveDigit digits = .resolved id →
      (∀ e ∈ usedEntries s.activeBytes, e.digits <+: digitsNat (digits ++ [d]) ↔ e.digits <+: buffer) ∧
      digitsNat (digits ++ [d]) ∉ s.freeNumbers ∧
      ∀ c ∈ candidates, ¬ (buffer.length + 1 < c.length ∧ digitsNat (digits ++ [d]) <+: c))

/-! ## Chapter 4: rating unit -/

/-- R64, its three steps: Q is the least whole number of hundredths that covers B times F, and X the least multiple of the
granule that covers Q; a base of 0 gives 0, and the largest operands with granule 100 give 40,000.  The rule's range of X, 0 to
40,000, does not hold for every granule, and the last clause shows one where the three steps pass it (log entry 24). -/
def Obligations.ChargeRoundsUpTwice : Prop :=
  (∀ base factor granule : Nat, base ≤ 9999 → 25 ≤ factor → factor ≤ 400 → 1 ≤ granule → granule ≤ 100 →
    base * factor ≤ 3999600 ∧
    ∃ q m, base * factor ≤ 100 * q ∧ 100 * q < base * factor + 100 ∧ q ≤ 39996 ∧
      charge base factor granule = m * granule ∧ q ≤ m * granule ∧ m * granule < q + granule ∧
      (base = 0 → charge base factor granule = 0)) ∧
  charge 9999 400 100 = 40000 ∧ charge 9999 400 97 = 40061

/-- R72, R73, R75, R77, R78: at the period timer's end the period index rises and the step charge is taken.  TAKEN: the charge
moves as R35 states, the warning flag clears and the next period starts.  SHORT: the call is cut and the session ends with
reason CREDIT. The start of a period, at the answer too, starts the warning timer where the lead is below the period's length,
and else makes the check at once with the length as its offset.  The warning timer's end computes the next charge at the lead's
offset and raises LOW_CREDIT with the warning flag when A is below it; nothing else changes. -/
def Obligations.PeriodAndWarningTimersCharge : Prop :=
  (∀ (s : State) (t : TariffClass) (d : Nat), s.userOnLine → s.call.sessionOpen = true →
     s.line.phase = .connected → s.rating.phase = .running → s.rating.tariff = some t → t.id ≠ 0 →
     s.rating.periodTimer = some d → s.answerMode ≠ .pulse →
     let x := s.chargeOf t t.stepCharge 0
     (x ≤ s.available →
       ∃ u, exec .periodExpiry s = .next u ∧ u.call = (s.take x).2.call ∧ u.lifetime = (s.take x).2.lifetime ∧
         u.period = (s.take x).2.period ∧ u.rating.phase = .running ∧ u.rating.tariff = some t ∧
         u.rating.periodIndex = min (s.rating.periodIndex + 1) 65535 ∧
         u.rating.charged = min (s.rating.charged + x) 4294967295 ∧
         u.rating.periodTimer = some (max s.now d + t.stepPeriod * 1000) ∧
         WarningArmed s u t t.stepPeriod (s.available - x) (max s.now d) ∧
         (imageWarningLead s.activeBytes < t.stepPeriod → u.rating.warning = false) ∧
         (t.stepPeriod ≤ imageWarningLead s.activeBytes →
           u.rating.warning = decide (s.available - x < s.chargeOf t t.stepCharge t.stepPeriod)) ∧
         u.line = s.line ∧ u.coin = s.coin ∧ SameStore s u ∧ SameService s u ∧ SameClock s u) ∧
     (s.available < x →
       ∃ u, exec .periodExpiry s = .next u ∧ SessionEnded s u .credit (max s.now d) ∧
         u.rating.periodIndex = min (s.rating.periodIndex + 1) 65535 ∧ SameStore s u ∧ SameService s u ∧ SameClock s u)) ∧
  (∀ (s : State) (t : TariffClass) (c : Instr) (now : Nat), s.userOnLine → s.call.sessionOpen = true →
     s.line.phase = .awaitAnswer → s.rating.phase = .priced → s.rating.tariff = some t → t.id ≠ 0 →
     s.answerMode ≠ .pulse →
     ((c = .polarityReversal ∧ s.line.answerMode = .reversal ∧ now = s.now) ∨
       (c = .timedAnswerExpiry ∧ ∃ d, s.line.timedAnswerTimer = some d ∧ now = max s.now d)) →
     let x := s.chargeOf t t.initialCharge 0
     x ≤ s.available →
     ∃ u, exec c s = .next u ∧ u.rating.periodIndex = 0 ∧ u.rating.periodTimer = some (now + t.initialPeriod * 1000) ∧
       WarningArmed s u t t.initialPeriod (s.available - x) now) ∧
  (∀ (s : State) (t : TariffClass) (d : Nat), s.busy → s.rating.phase = .running → s.rating.tariff = some t →
     s.rating.warningTimer = some d →
     let x := s.chargeOf t t.stepCharge (imageWarningLead s.activeBytes)
     ∃ u, exec .warningTimerExpiry s = .next u ∧
       u.beforeTests =
         ({ s with
           now := max s.now d
           rating := { s.rating with
             warningTimer := none, nextCharge := some x, warning := s.rating.warning || decide (s.available < x) }
           setPort := if s.available < x then
               { s.setPort with pendingSet := maskAdd s.setPort.pendingSet Notice.lowCredit.index }
             else s.setPort } : State).beforeTests)

/-- R68, R69, R70, R74, R75, R79, R81: a meter pulse is a step charge of a RUNNING call in PULSE mode, taken or cutting the
call; with no USER call in PULSE mode that awaits its answer or is connected, and in a free call, it has no effect.  A charge
that is taken, at the answer too, makes the warning check: the next charge is stored, the flag follows A, and LOW_CREDIT is
raised as the flag is newly set. -/
def Obligations.MeterPulseChargesInPulseModeOnly : Prop :=
  (∀ s : State, s.busy →
    (s.line.purpose ≠ .user ∨ s.line.answerMode ≠ .pulse ∨ (s.line.phase ≠ .awaitAnswer ∧ s.line.phase ≠ .connected) ∨
      (s.line.phase = .connected ∧ (s.rating.phase ≠ .running ∨ ∃ t, s.rating.tariff = some t ∧ t.id = 0))) →
    ∃ u, exec .meterPulse s = .next u ∧ u.beforeTests = s.beforeTests) ∧
  (∀ (s : State) (t : TariffClass), s.userOnLine → s.call.sessionOpen = true → s.rating.phase = .running →
    s.rating.tariff = some t → t.id ≠ 0 → s.line.phase = .connected → s.line.answerMode = .pulse → s.answerMode = .pulse →
    let x := s.chargeOf t t.stepCharge 0
    (x ≤ s.available →
      ∃ u, exec .meterPulse s = .next u ∧ u.call = (s.take x).2.call ∧ u.lifetime = (s.take x).2.lifetime ∧
        u.period = (s.take x).2.period ∧ u.rating.phase = .running ∧ u.rating.periodTimer = s.rating.periodTimer ∧
        u.rating.periodIndex = min (s.rating.periodIndex + 1) 65535 ∧
        u.rating.charged = min (s.rating.charged + x) 4294967295 ∧ PulseChecked s u t (s.available - x) ∧
        u.line = s.line ∧ u.coin = s.coin ∧ SameStore s u ∧ SameService s u ∧ SameClock s u) ∧
    (s.available < x → ∃ u, exec .meterPulse s = .next u ∧ SessionEnded s u .credit s.now ∧ SameStore s u)) ∧
  (∀ (s : State) (t : TariffClass), s.userOnLine → s.call.sessionOpen = true → s.rating.phase = .priced →
    s.rating.tariff = some t → t.id ≠ 0 → s.line.phase = .awaitAnswer → s.line.answerMode = .pulse → s.answerMode = .pulse →
    let x := s.chargeOf t t.initialCharge 0
    x ≤ s.available →
    ∃ u, exec .meterPulse s = .next u ∧ u.line.phase = .connected ∧ u.rating.phase = .running ∧
      u.rating.periodTimer = s.rating.periodTimer ∧ PulseChecked s u t (s.available - x))

/-- R70, R71, R99: an answer connects the call and starts its charges.  A free call is counted free; a call of another class
takes its initial charge and is counted paid, and is cut when A does not cover it.  The answer is the reversal in REVERSAL mode,
the first pulse in PULSE mode and the timed-answer delay in TIMED mode. -/
def Obligations.AnswerStartsTheCallsCharges : Prop :=
  ∀ (s : State) (t : TariffClass) (c : Instr) (now : Nat), s.userOnLine → s.call.sessionOpen = true →
    s.line.phase = .awaitAnswer → s.rating.phase = .priced → s.rating.tariff = some t →
    ((c = .polarityReversal ∧ s.line.answerMode = .reversal ∧ now = s.now) ∨
      (c = .meterPulse ∧ s.line.answerMode = .pulse ∧ now = s.now) ∨
      (c = .timedAnswerExpiry ∧ ∃ d, s.line.timedAnswerTimer = some d ∧ now = max s.now d)) →
    let x := s.chargeOf t t.initialCharge 0
    (t.id = 0 ∨ x ≤ s.available →
      ∃ u, exec c s = .next u ∧ u.line.phase = .connected ∧ u.line.answerTimer = none ∧
        u.line.timedAnswerTimer = none ∧ u.line.abandonTimer = none ∧ u.rating.phase = .running ∧ u.rating.deposit = none ∧
        u.isPending .callPhase = true ∧ u.coin = s.coin ∧ SameStore s u ∧ SameService s u ∧ SameClock s u ∧
        (t.id = 0 → u.call = s.call ∧ u.lifetime = s.lifetime.addFree ∧ u.period = s.period.addFree ∧
          u.rating.charged = s.rating.charged ∧ u.rating.periodTimer = s.rating.periodTimer) ∧
        (t.id ≠ 0 → u.call = (s.take x).2.call ∧ u.lifetime = (s.take x).2.lifetime.addPaid ∧
          u.period = (s.take x).2.period.addPaid ∧ u.rating.charged = min (s.rating.charged + x) 4294967295 ∧
          (s.answerMode ≠ .pulse → u.rating.periodTimer = some (now + t.initialPeriod * 1000)))) ∧
    (t.id ≠ 0 → s.available < x →
      ∃ u, exec c s = .next u ∧ SessionEnded s u .credit now ∧ SameStore s u)

/-! ## Chapter 5: line unit -/

/-- R36, R88, R91, R110, R112: a qualified off-hook with the session state NONE, the line free and no LINE_FAULT opens a
session, is granted the line and seizes it: dial tone is awaited for 3 s, and the part is ACTIVE. -/
def Obligations.OffHookOpensASessionAndSeizes : Prop :=
  ∀ s : State, s.running = true → s.lineFree = true → s.arbiter.parkedReport = false → s.line.session = .none →
    s.line.purpose = .none → s.tamper.causes.lineFault = false → s.service.closing = false →
    ∃ t, exec .offHook s = .next t ∧ t.line.hook = .offHook ∧ t.line.session = .opened ∧
      t.call = { s.call with sessionOpen := true } ∧ t.line.abandonTimer = some (s.now + 120000) ∧
      t.line.phase = .seizing ∧ t.line.dialToneTimer = some (s.now + 3000) ∧ t.line.purpose = .user ∧ t.line.buffer = [] ∧
      t.line.resolution = .unresolved ∧ t.line.endOfDialling = false ∧ t.arbiter.owner = .user ∧
      t.arbiter.userHeld = false ∧ t.arbiter.waiting = false ∧ t.power = { s.power with state := .active } ∧
      t.isPending .callPhase = true ∧ t.coin = s.coin ∧ t.lifetime = s.lifetime ∧ t.period = s.period ∧
      t.rating = s.rating ∧ SameStore s t ∧ SameHousing s t ∧ SameService s t

/-- R37, R55, R88, R89, R91, R102, R117, R125, R170: on-hook, the abandonment timer's end and a qualified OPEN edge of CORD end
the USER session that has the line: escrow refunded, C forfeited, chute records marked, the call record idle, the line in its
release and the owner NONE.  The session state is NONE after on-hook and SPENT while the handset is lifted; an on-hook in SPENT
sets it to NONE and changes nothing else, but that the part goes to STANDBY where nothing holds it ACTIVE.  The end arms a
forced window exactly under the conditions of R117, and carries out or drops a pending activation (R55).  An end that finds the
line with REPORT or POLL withdraws the USER request and does not touch the seizure, and one that finds USER's line released
leaves it IDLE with no owner (R89, R91). -/
def Obligations.SessionEndsRefundAndForfeit : Prop :=
  ((∀ s : State, s.userOnLine →
     ∃ t, exec .onHook s = .next t ∧ SessionEnded s t .hook s.now ∧ t.line.session = .none ∧ t.line.hook = .onHook ∧
       SameStore s t ∧ SameHousing s t ∧ SameService s t ∧ SameClock s t ∧
       (s.windowDue → t.arbiter.window = .armed ∧ t.arbiter.parkedReport = true ∧ t.arbiter.reportHeld = true) ∧
       (¬ s.windowDue → t.arbiter.window = s.arbiter.window ∧ t.arbiter.parkedReport = s.arbiter.parkedReport)) ∧
   (∀ s : State, s.userSeized → s.config.activationPending = true →
     ∃ t, exec .onHook s = .next t ∧ SessionEnded s t .hook s.now ∧ SameService s t ∧ SameClock s t ∧
       t.events = s.events ∧
       (validateImage (s.image s.stagedSlot) = none →
         t.config =
           { s.config with activeSlot := s.stagedSlot, activePresent := true, activationPending := false } ∧
         t.image s.config.activeSlot = { s.image s.config.activeSlot with loaded := 0 } ∧
         t.image s.stagedSlot = s.image s.stagedSlot ∧
         t.tamper.causes.noImage = (if s.config.activePresent then s.tamper.causes.noImage else false)) ∧
       (validateImage (s.image s.stagedSlot) ≠ none →
         t.config = { s.config with activationPending := false } ∧ t.image0 = s.image0 ∧ t.image1 = s.image1 ∧
         t.tamper = s.tamper)) ∧
   (∀ s : State, s.busy → s.line.session = .opened → s.arbiter.centreOwns = true → s.line.purpose = s.arbiter.owner →
     s.config.activationPending = false → (∀ id d, s.line.resolution ≠ .waitingDeposit id d) →
     ∃ t, exec .onHook s = .next t ∧
       t.call = { s.call with
         sessionOpen := false, escrow := [], credit := 0, queue := s.call.queue ++ refunds s.call.escrow } ∧
       t.lifetime = s.lifetime.sessionEnds s.call ∧ t.period = s.period.sessionEnds s.call ∧
       t.coin = { s.coin with chute := s.coin.chute.map (fun x => { x with mark := .ended }) } ∧
       t.line.phase = s.line.phase ∧ t.line.purpose = s.line.purpose ∧ t.line.guardTimer = s.line.guardTimer ∧
       t.line.hook = .onHook ∧ t.line.session = .none ∧ t.line.abandonTimer = none ∧ t.line.lastEnd = some .hook ∧
       t.rating.phase = .idle ∧ t.arbiter.owner = s.arbiter.owner ∧ t.arbiter.userHeld = false ∧
       t.arbiter.waiting = false ∧ t.arbiter.takeBack = s.arbiter.takeBack ∧
       t.arbiter.holdOff = some (s.now + 30000) ∧ t.modem = s.modem ∧ SameStore s t ∧ SameHousing s t ∧
       SameService s t ∧ SameClock s t) ∧
   (∀ s : State, s.power.state = .active → s.line.session = .opened → s.line.purpose = .user → s.arbiter.owner = .user →
     s.line.phase = .idle → s.service.closing = false → s.config.activationPending = false →
     s.arbiter.parkedReport = false → s.arbiter.pollHeld = false → s.arbiter.takeBack = .none → ¬ s.windowDue →
     ∃ t, exec .onHook s = .next t ∧
       t.call = { s.call with
         sessionOpen := false, escrow := [], credit := 0, queue := s.call.queue ++ refunds s.call.escrow } ∧
       t.lifetime = s.lifetime.sessionEnds s.call ∧ t.period = s.period.sessionEnds s.call ∧ t.line.phase = .idle ∧
       t.line.purpose = .none ∧ t.line.session = .none ∧ t.line.lastEnd = some .hook ∧ t.line.buffer = [] ∧
       t.rating.phase = .idle ∧ t.arbiter.owner = .none ∧ t.arbiter.holdOff = some (s.now + 30000) ∧
       SameStore s t ∧ SameHousing s t ∧ SameService s t) ∧
   (∀ (s : State) (d : Nat), s.userOnLine → s.line.abandonTimer = some d →
     ∃ t, exec .abandonmentExpiry s = .next t ∧ SessionEnded s t .abandoned (max s.now d) ∧
       t.line.session = (if s.line.hook = .offHook then .spent else .none) ∧ t.line.hook = s.line.hook ∧
       SameStore s t ∧ SameHousing s t ∧ SameService s t ∧ SameClock s t) ∧
   (∀ s : State, s.userOnLine → s.tamper.cord = ⟨.closed, true⟩ →
     ∃ t, exec (.inputEdge .cord .opened) s = .next t ∧ SessionEnded s t .cord s.now ∧
       t.line.session = (if s.line.hook = .offHook then .spent else .none) ∧ t.tamper.cord = ⟨.opened, true⟩ ∧
       t.tamper.causes.cordCut = true ∧ t.tamper.cordRestore = none ∧ maskHas t.events.latches 2 = true ∧
       t.serviceState = .outOfOrder ∧ SameStore s t ∧ SameService s t ∧ SameClock s t)) ∧
  (∀ s : State, s.serving → s.line.session = .spent →
     ∃ t, exec .onHook s = .next t ∧
       t.beforeTests =
         ({ s with
           line := { s.line with hook := .onHook, session := .none }, setPort := s.setPort.notified .callPhase } :
           State).settledPower.beforeTests)

/-- R91, R103, R159: qualified dial tone in SEIZING makes a USER line READY with an empty buffer, and sends a REPORT line on to
DIALLING with the centre number; 3 s without it release the line, raising NO_TONE for USER and failing the session of a REPORT
that was dialling.  The time of a centre number's `*` under PULSE is a free value (log entry 17), and the reference polarity
becomes none at the release (log entry 48). -/
def Obligations.DialToneDecidesTheSeizure : Prop :=
  (∀ s : State, s.busy → s.line.phase = .seizing → s.line.purpose = .user →
    ∃ t, exec .dialToneQualified s = .next t ∧
      t.beforeTests =
        ({ s with
          line := { s.line with
            phase := .ready, dialToneTimer := none, reference := some s.line.polarity, buffer := [],
            resolution := .unresolved, endOfDialling := false, cursor := 0 }
          setPort := s.setPort.notified .callPhase } : State).beforeTests) ∧
  (∀ (s : State) (dg : Digit) (ds : List Digit), s.busy → s.line.phase = .seizing → s.line.purpose = .report →
    s.centre.number = dg :: ds →
    ∃ t, exec .dialToneQualified s = .next t ∧ t.line.phase = .dialling ∧ t.line.buffer = dg :: ds ∧ t.line.cursor = 0 ∧
      t.line.endOfDialling = true ∧ t.line.noToneCount = 0 ∧ t.line.reference = some s.line.polarity ∧
      t.line.digitTimer = some (s.now + digitTime s.dialMethod dg) ∧ t.line.dialToneTimer = none ∧ SameMoney s t ∧
      SameStore s t ∧ SameHousing s t ∧ SameService s t ∧ SameClock s t) ∧
  (∀ (s : State) (d : Nat), s.busy → s.line.phase = .seizing → s.line.purpose = .user → s.line.dialToneTimer = some d →
    ∃ t, exec .dialToneExpiry s = .next t ∧
      t.beforeTests =
        ({ s with
          now := max s.now d
          line := s.line.releasedAt (max s.now d)
          arbiter := { s.arbiter with takeBack := s.arbiter.takeBack.released, yieldTimer := none }
          modem := ⟨none, [], none, s.modem.looks⟩
          setPort := (s.setPort.notified .noTone).notified .callPhase } : State).beforeTests) ∧
  (∀ (s : State) (d : Nat), s.busy → s.line.phase = .seizing → s.line.purpose = .report → s.line.dialToneTimer = some d →
    s.centre.phase = .dial → s.centre.kind = .placed → s.centre.inFlight = none → s.config.lineFaultMode = .signal →
    ∃ t, exec .dialToneExpiry s = .next t ∧ t.line.phase = .releasing ∧ t.line.guardTimer = some (max s.now d + 800) ∧
      t.centre.phase = .idle ∧ t.centre.kind = .none ∧ t.centre.attempts = min (s.centre.attempts + 1) 255 ∧
      t.line.noToneCount = (if s.line.noToneCount = 0 then 1 else 0) ∧
      t.events = (if s.line.noToneCount = 0 then s.events else (s.occur .lineLossNoTone .absent).events) ∧
      SameMoney s t ∧ SameStore s t ∧ t.tamper = s.tamper ∧ SameService s t ∧ SameClock s t)

/-- R93, R94, R95, R96, R97, R98, R99, R101, R102, R178: a DIGIT that a check of R93 refuses changes nothing but the set port's
reply; one taken in READY with the class open is appended and resolved: WAITING keeps the buffer, an unknown class or a BARRED
one refuses it, as a class other than 0 does out of service, a class whose deposit A does not cover waits for it, and else the
dial-out begins.  # and the 24th digit reach end of dialling, which asks for the final answer while the class is open.  A digit
taken in DIALLING is appended behind the digits that are being sent, and starts at once where sending rests and no pause runs
(R97); a # taken there starts the answer wait where sending rests, and a line already reversed is then an answer (R98, R99).
DIAL_CLEAR empties the buffer in READY and FOLLOW_ON starts the recall break in CONNECTED or CLEARED; each is refused
NO_SESSION without an open session and INVALID in any other phase, changing nothing but the reply.  A session that waits for
its deposit is tested again at each change of the service state. -/
def Obligations.LineRequestsAreCheckedInOrder : Prop :=
  ((∀ (s : State) (key : Key) (r : SetReason), s.busy → s.takesRequest → s.digitCheck key = some r →
     ∃ t, exec (.digit key) s = .next t ∧
       t.beforeTests = ({ s with setPort := s.setPort.answers ⟨5, .refused, some r, []⟩ } : State).beforeTests) ∧
   (∀ (s : State) (dg : Digit), s.busy → s.takesRequest → s.digitCheck dg.castSucc = none → s.line.phase = .dialling →
     s.line.resolution ≠ .unresolved → s.line.digitTimer ≠ none ∨ s.line.cursor = s.line.buffer.length →
     ∃ t, exec (.digit dg.castSucc) s = .next t ∧
       t.beforeTests =
         ({ s with
           line := { s.line with
             buffer := s.line.buffer ++ [dg], abandonTimer := some (s.now + 120000)
             digitTimer :=
               if s.line.digitTimer = none ∧ s.line.pauseTimer = none then some (s.now + digitTime s.line.dialMethod dg)
               else s.line.digitTimer
             endOfDialling := decide (s.line.buffer.length = 23)
             interdigitTimer := if s.line.buffer.length = 23 then none else some (s.now + 6000) }
           setPort := s.setPort.answers ⟨5, .taken, none, []⟩ } : State).beforeTests) ∧
   (∀ (s : State) (dg : Digit), s.busy → s.takesRequest → s.digitCheck dg.castSucc = none → s.line.phase = .ready →
     s.line.resolution = .unresolved →
     let taken := { s.line with
       abandonTimer := some (s.now + 120000), interdigitTimer := some (s.now + 6000), buffer := s.line.buffer ++ [dg] }
     ∃ t, exec (.digit dg.castSucc) s = .next t ∧
       (s.line.buffer.length < 23 → DigitAnswered s t taken (s.resolveDigit taken.buffer)) ∧
       (s.line.buffer.length = 23 → s.resolveDigit taken.buffer = .waiting →
         DigitAnswered s t { taken with endOfDialling := true, interdigitTimer := none } (s.resolveFinal taken.buffer))) ∧
   (∀ s : State, s.busy → s.takesRequest → s.digitCheck 11 = none →
     let taken := { s.line with
       abandonTimer := some (s.now + 120000), interdigitTimer := none, endOfDialling := true }
     ∃ t, exec (.digit 11) s = .next t ∧
       (s.line.phase = .ready → s.line.resolution = .unresolved →
         DigitAnswered s t taken (s.resolveFinal s.line.buffer)) ∧
       (s.line.phase = .ready ∧ s.line.resolution ≠ .unresolved ∨
           s.line.phase = .dialling ∧ (s.line.digitTimer ≠ none ∨ s.line.cursor < s.line.buffer.length) →
         t.beforeTests =
           ({ s with line := taken, setPort := s.setPort.answers ⟨5, .taken, none, []⟩ } : State).beforeTests) ∧
       (s.line.phase = .dialling → s.line.digitTimer = none → s.line.buffer.length ≤ s.line.cursor →
         (s.notReversed →
           t.beforeTests =
             ({ s with line := taken, setPort := s.setPort.answers ⟨5, .taken, none, []⟩ } :
               State).awaitsAnswer.beforeTests) ∧
         (s.freeAndReversed → ConnectedFree s t) ∧ ∀ c, s.pricedAndReversed c → CallAnswered s t c s.now))) ∧
  (∀ s : State, s.busy → s.takesRequest →
     (∃ t, exec .dialClear s = .next t ∧
       t.beforeTests = State.beforeTests
         (if s.line.session ≠ .opened then { s with setPort := s.setPort.answers ⟨6, .refused, some .noSession, []⟩ }
          else if s.line.phase ≠ .ready then { s with setPort := s.setPort.answers ⟨6, .refused, some .invalid, []⟩ }
          else { s with
            line := { s.line with
              buffer := [], resolution := .unresolved, endOfDialling := false, cursor := 0, interdigitTimer := none,
              abandonTimer := some (s.now + 120000) }
            rating := s.rating.bufferEmptied
            setPort := s.setPort.answers ⟨6, .taken, none, []⟩ })) ∧
     (∃ t, exec .followOn s = .next t ∧
       t.beforeTests = State.beforeTests
         (if s.line.session ≠ .opened then { s with setPort := s.setPort.answers ⟨7, .refused, some .noSession, []⟩ }
          else if s.line.phase = .connected ∨ s.line.phase = .cleared then
            { s with
              line := { s.line with
                phase := .recall, recallTimer := some (s.now + 800), dialToneTimer := none, interdigitTimer := none,
                digitTimer := none, pauseTimer := none, answerTimer := none, timedAnswerTimer := none, clearTimer := none,
                buffer := [], resolution := .unresolved, endOfDialling := false, cursor := 0,
                abandonTimer := some (s.now + 120000) }
              rating := s.rating.recalled
              setPort := (s.setPort.notified .callPhase).answers ⟨7, .taken, none, []⟩ }
          else { s with setPort := s.setPort.answers ⟨7, .refused, some .invalid, []⟩ }))) ∧
  (∀ (s : State) (c : Instr) (j : ChuteJam) (id d e : Nat), s.busy → s.line.phase = .ready →
     s.line.resolution = .waitingDeposit id d →
     (c = .beamHoldExpiry .s3 ∧ s.coin.hold.s3 = some e) ∨ (c = .jamClearRunExpiry j ∧ (s.coin.jam j).clearRun = some e) ∨
       (c = .cordRestoreExpiry ∧ s.tamper.cordRestore = some e) →
     ∃ t, exec c s = .next t ∧ (t.serviceState = s.serviceState → t.line = s.line) ∧
       (t.serviceState ≠ s.serviceState → DepositTested s t id d (max s.now e)) ∧ SameMoney s t ∧ SameStore s t ∧
       SameService s t)

/-- R94, R97, R98, R99, R103, R148: in DIALLING a completed digit moves the cursor; the next digit follows at once under DTMF
and after the 800 ms pause under PULSE, which the last digit of a buffer still open waits for too.  When the last digit is sent
and end of dialling reached, a USER call's answer wait starts; in REVERSAL mode a line already reversed is an answer at once.
The end of the interdigit timer reaches end of dialling: where sending rests it starts the answer wait, and in READY with the
class open the final answer of the tariff store is asked and tested.  A REPORT's last digit starts the centre link's
AWAIT_ANSWER in REVERSAL mode, which the first reversal ends in DATA, and makes the phase DATA in the other modes; a line
already reversed makes it DATA at once (log entry 33).  The time of `*` under PULSE is a free value (log entry 17). -/
def Obligations.DigitsAreSentInOrder : Prop :=
  (∀ (s : State) (d : Nat), s.busy → s.line.phase = .dialling → s.line.digitTimer = some d →
    let sent : LineUnit := { s.line with cursor := s.line.cursor + 1, digitTimer := none }
    (∀ dg, s.line.dialMethod = .dtmf → s.line.buffer[s.line.cursor + 1]? = some dg →
      ∃ t, exec .digitSendComplete s = .next t ∧
        t.beforeTests =
          ({ s with now := max s.now d, line := { sent with digitTimer := some (max s.now d + digitTime .dtmf dg) } } :
            State).beforeTests) ∧
    (s.line.dialMethod = .pulse → s.line.endOfDialling = false ∨ s.line.cursor + 1 < s.line.buffer.length →
      ∃ t, exec .digitSendComplete s = .next t ∧
        t.beforeTests =
          ({ s with now := max s.now d, line := { sent with pauseTimer := some (max s.now d + 800) } } :
            State).beforeTests) ∧
    (s.line.endOfDialling = true → s.line.buffer.length ≤ s.line.cursor + 1 → s.line.purpose = .user →
      ∃ t, exec .digitSendComplete s = .next t ∧ (s.freeAndReversed → ConnectedFree s t) ∧
        (∀ c, s.pricedAndReversed c → CallAnswered s t c (max s.now d)) ∧
        (s.notReversed →
          t.beforeTests = ({ s with now := max s.now d, line := sent } : State).awaitsAnswer.beforeTests)) ∧
    (s.line.endOfDialling = true → s.line.buffer.length ≤ s.line.cursor + 1 → s.line.purpose = .report →
      s.centre.phase = .dial →
      let turned (p : LinePhase) (c : CentrePhase) (wait : Nat) : State :=
        { s with
          now := max s.now d
          line := { sent with pauseTimer := none, answerMode := s.answerMode, phase := p }
          centre := { s.centre with phase := c, phaseTimer := some (max s.now d + wait) }
          setPort := s.setPort.notified .callPhase }
      ∃ t, exec .digitSendComplete s = .next t ∧
        (s.answerMode ≠ .reversal → t.beforeTests = (turned .data .awaitGreet 45000).beforeTests) ∧
        (s.answerMode = .reversal → s.notReversed →
          t.beforeTests = (turned .awaitAnswer .awaitAnswer 45000).beforeTests) ∧
        (s.answerMode = .reversal → s.line.reference = some s.line.polarity.flip →
          t.beforeTests = (turned .data .awaitGreet 10000).beforeTests))) ∧
  (∀ s : State, s.busy → s.line.phase = .awaitAnswer → s.line.purpose = .report → s.line.answerMode = .reversal →
    s.centre.phase = .awaitAnswer →
    ∃ t, exec .polarityReversal s = .next t ∧
      t.beforeTests =
        ({ s with
          line := { s.line with phase := .data, polarity := (s.line.reference.getD .normal).flip }
          centre := { s.centre with phase := .awaitGreet, phaseTimer := some (s.now + 10000) }
          setPort := s.setPort.notified .callPhase } : State).beforeTests) ∧
  (∀ (s : State) (d : Nat), s.busy → s.line.phase = .dialling → s.line.pauseTimer = some d →
    ∃ t, exec .interDigitPauseEnd s = .next t ∧
      t.beforeTests =
        ({ s with
          now := max s.now d
          line := { s.line with
            pauseTimer := none
            digitTimer := match s.line.buffer[s.line.cursor]? with
              | some dg => some (max s.now d + digitTime s.line.dialMethod dg)
              | none => s.line.digitTimer } } : State).beforeTests) ∧
  (∀ (s : State) (d : Nat), s.busy → s.line.interdigitTimer = some d →
    let ended : State :=
      { s with now := max s.now d, line := { s.line with endOfDialling := true, interdigitTimer := none } }
    ((s.line.phase = .dialling ∧ (s.line.digitTimer ≠ none ∨ s.line.cursor < s.line.buffer.length)) ∨
        (s.line.phase = .ready ∧ s.line.resolution ≠ .unresolved) →
      ∃ t, exec .interdigitExpiry s = .next t ∧ t.beforeTests = ended.beforeTests) ∧
    (s.line.phase = .dialling → s.line.digitTimer = none → s.line.buffer.length ≤ s.line.cursor →
      s.line.purpose = .user →
      ∃ t, exec .interdigitExpiry s = .next t ∧ (s.notReversed → t.beforeTests = ended.awaitsAnswer.beforeTests) ∧
        (s.freeAndReversed → ConnectedFree s t) ∧ ∀ c, s.pricedAndReversed c → CallAnswered s t c (max s.now d)) ∧
    (s.line.phase = .ready → s.line.resolution = .unresolved →
      ∃ t, exec .interdigitExpiry s = .next t ∧
        BufferAnswered { s with now := max s.now d } t ended.line (s.resolveFinal s.line.buffer) fun _ p => p))

/-- R82, R100, R103, R141, R158, R159: in CONNECTED a return of the polarity clears in REVERSAL mode and a loss of loop current
in the other modes: the phase is CLEARED with its 30 s timer, the abandonment timer restarts and the charges stop.  In DATA the
same event fails the centre session in AWAIT_GREET, IDENT and UPLOAD, ends it in the centre's turn, and releases the line.  The
event of the other modes, and either in AWAIT_ANSWER, has no effect on the phase.  In CLOSING the line is released at once,
with END's RESULT still waiting too (log entry 60).  With no reference polarity a reversal is measured from NORMAL (log entry
4), and the reference polarity becomes none at the release (log entry 48), which empties the dial buffer of REPORT and POLL
(log entry 37). -/
def Obligations.FarEndClearByAnswerMode : Prop :=
  ∀ s : State, s.busy →
    let returned : State := { s with line := { s.line with polarity := s.line.reference.getD .normal } }
    let cleared (u : State) : State :=
      { u with
        line := { u.line with
          phase := .cleared, clearTimer := some (s.now + 30000), abandonTimer := some (s.now + 120000) }
        rating := s.rating.cleared
        setPort := s.setPort.notified .callPhase }
    (s.line.phase = .connected →
      (s.line.answerMode = .reversal →
        ∃ t, exec .polarityReturn s = .next t ∧ t.beforeTests = (cleared returned).beforeTests) ∧
      (s.line.answerMode ≠ .reversal → ∃ t, exec .loopCurrentLoss s = .next t ∧ t.beforeTests = (cleared s).beforeTests)) ∧
    (s.line.phase = .connected ∨ s.line.phase = .data →
      (s.line.answerMode = .reversal → ∃ t, exec .loopCurrentLoss s = .next t ∧ t.beforeTests = s.beforeTests) ∧
      (s.line.answerMode ≠ .reversal → ∃ t, exec .polarityReturn s = .next t ∧ t.beforeTests = returned.beforeTests)) ∧
    (s.line.phase = .data → s.line.purpose = .report ∨ s.line.purpose = .poll →
      let event : Instr := if s.line.answerMode = .reversal then .polarityReturn else .loopCurrentLoss
      let seen : State := if s.line.answerMode = .reversal then returned else s
      ∃ t, exec event s = .next t ∧
        (s.centre.phase = .awaitGreet ∨ s.centre.phase = .ident ∨ s.centre.phase = .upload → CentreFailed seen t s.now) ∧
        (s.centre.phase = .centreTurn →
          t.beforeTests =
            ({ seen with centre := { s.centre with phase := .closing, idleTimer := none } } :
              State).releasing.beforeTests) ∧
        (s.centre.phase = .closing ∨ s.centre.phase = .suspended → t.beforeTests = seen.releasing.beforeTests)) ∧
    (s.line.phase = .awaitAnswer →
      (∃ t, exec .polarityReturn s = .next t ∧ t.beforeTests = returned.beforeTests) ∧
      ∃ t, exec .loopCurrentLoss s = .next t ∧ t.beforeTests = s.beforeTests)

/-- R92, R99, R100, R101, R109, R111, R113, R118: the ends of the answer timer and of the clear timer release the line with the
session left open, the end of the recall break closes the loop for a new seizure, and the guard's end makes the phase IDLE.  A
USER session released with its owner kept stays without the line; after a USER session that has ended, and after REPORT or
POLL, the guard's end frees the line and the grants are applied: a parked REPORT opens its forced window, or falls back to USER
when it is not held; a USER request that waits is granted at once; and a held REPORT is granted again.  The reference polarity
becomes none at each release (log entry 48), and the centre number leaves the dial buffer at the release of REPORT or POLL (log
entry 37).  The ring count stays as it is at the guard's end, after a preempted POLL too (log entry 58). -/
def Obligations.LineTimersReleaseAndFreeTheLine : Prop :=
  ((∀ (s : State) (d : Nat), s.busy → s.line.phase = .awaitAnswer → s.line.purpose = .user → s.line.answerTimer = some d →
     ∃ t, exec .answerTimerExpiry s = .next t ∧
       t.beforeTests =
         ({ s with
           now := max s.now d
           line := s.line.releasedAt (max s.now d)
           rating := s.rating.unanswered
           arbiter := { s.arbiter with takeBack := s.arbiter.takeBack.released, yieldTimer := none }
           modem := ⟨none, [], none, s.modem.looks⟩
           setPort := s.setPort.notified .callPhase } : State).beforeTests) ∧
   (∀ (s : State) (d : Nat), s.busy → s.line.phase = .cleared → s.line.clearTimer = some d →
     ∃ t, exec .clearTimerExpiry s = .next t ∧
       t.beforeTests =
         ({ s with
           now := max s.now d
           line := s.line.releasedAt (max s.now d)
           arbiter := { s.arbiter with takeBack := s.arbiter.takeBack.released, yieldTimer := none }
           modem := ⟨none, [], none, s.modem.looks⟩
           setPort := s.setPort.notified .callPhase } : State).beforeTests) ∧
   (∀ (s : State) (d : Nat), s.busy → s.line.phase = .recall → s.line.recallTimer = some d →
     ∃ t, exec .recallBreakEnd s = .next t ∧
       t.beforeTests =
         ({ s with
           now := max s.now d
           line := { s.line with phase := .seizing, recallTimer := none, dialToneTimer := some (max s.now d + 3000) }
           setPort := s.setPort.notified .callPhase } : State).beforeTests)) ∧
  ((∀ (s : State) (d : Nat), s.busy → s.line.purpose = .user → s.line.phase = .releasing → s.line.guardTimer = some d →
     ∃ t, exec .releaseGuardEnd s = .next t ∧
       t.beforeTests =
         ({ s with
           now := max s.now d, line := { s.line with guardTimer := none, phase := .idle },
           setPort := s.setPort.notified .callPhase } : State).beforeTests) ∧
   (∀ (s : State) (d : Nat), s.busy → s.line.purpose = .report ∨ s.line.purpose = .poll → s.line.phase = .releasing →
     s.line.guardTimer = some d → s.arbiter.parkedReport = false → s.arbiter.userHeld = true →
     s.tamper.causes.lineFault = false →
     ∃ t, exec .releaseGuardEnd s = .next t ∧ t.arbiter.owner = .user ∧ t.arbiter.userHeld = false ∧
       t.arbiter.takeBack = .none ∧ t.line.purpose = .user ∧ t.line.phase = .seizing ∧ t.line.guardTimer = none ∧
       t.line.dialToneTimer = some (max s.now d + 3000) ∧ t.centre.phase = .idle ∧ t.centre.kind = .none ∧
       t.centre.lastCommand = none ∧ t.centre.lastReply = none ∧ SameMoney s t ∧ SameStore s t ∧ SameHousing s t ∧
       SameService s t ∧ SameClock s t) ∧
   (∀ (s : State) (d : Nat), s.busy → s.line.purpose = .report ∨ s.line.purpose = .poll → s.line.phase = .releasing →
     s.line.guardTimer = some d → s.arbiter.parkedReport = false → s.arbiter.userHeld = false → s.arbiter.pollHeld = false →
     (s.config.centreNumber = [] ∨ s.arbiter.holdOff ≠ none →
       ∃ t, exec .releaseGuardEnd s = .next t ∧ t.line = { s.line with
           phase := .idle, purpose := .none, guardTimer := none } ∧
         t.arbiter.owner = .none ∧ t.arbiter.takeBack = .none ∧ t.arbiter.yieldTimer = none ∧
         t.arbiter.window = (if s.arbiter.window = .opened then .closed else s.arbiter.window) ∧ t.centre.phase = .idle ∧
         t.centre.kind = .none ∧ t.centre.reason = none ∧ t.centre.resume = s.centre.resume ∧ SameMoney s t ∧
         SameStore s t ∧ SameHousing s t ∧ SameService s t) ∧
     (s.urgentWaits → s.arbiter.holdOff = none →
       ∃ t, exec .releaseGuardEnd s = .next t ∧
         ReportGranted s t (if s.centre.resume then .resume else .urgent) (max s.now d)))) ∧
  ((∀ (s : State) (d : Nat), s.unclaimed → s.arbiter.takeBack = .none → s.arbiter.owner = .none →
     s.line.purpose = .none → s.line.phase = .releasing → s.line.guardTimer = some d →
     ∃ t, exec .releaseGuardEnd s = .next t ∧ t.line = { s.line with guardTimer := none, phase := .idle } ∧
       t.arbiter = { s.arbiter with reportHeld := t.arbiter.reportHeld } ∧ t.isPending .callPhase = true ∧
       t.isActive = t.holdsActive ∧ SameMoney s t ∧ SameStore s t ∧ SameHousing s t ∧ SameService s t) ∧
   (∀ (s : State) (d : Nat), s.running = true → s.service.closing = false → s.arbiter.takeBack = .none →
     s.arbiter.owner = .none → s.line.purpose = .none → s.line.phase = .releasing → s.line.guardTimer = some d →
     s.arbiter.parkedReport = true →
     (s.urgentWaits →
       ∃ t, exec .releaseGuardEnd s = .next t ∧
         ReportGranted s t (if s.centre.resume then .resume else .urgent) (max s.now d) ∧ t.arbiter.window = .opened ∧
         t.arbiter.parkedReport = false ∧ t.arbiter.windowTimer = some (max s.now d + 45000) ∧
         t.arbiter.spacing = some (max s.now d + 1800000) ∧ t.arbiter.userHeld = s.arbiter.userHeld ∧
         t.arbiter.waiting = (s.arbiter.waiting || s.arbiter.userHeld) ∧
         (s.arbiter.userHeld = true → t.isPending .lineWait = true)) ∧
     (s.config.centreNumber = [] → s.arbiter.userHeld = false → s.arbiter.pollHeld = false →
       ∃ t, exec .releaseGuardEnd s = .next t ∧ t.line = { s.line with guardTimer := none, phase := .idle } ∧
         t.arbiter = { s.arbiter with parkedReport := false, window := .closed, reportHeld := false } ∧ SameMoney s t ∧
         SameStore s t ∧ SameHousing s t ∧ SameService s t) ∧
     (s.config.centreNumber = [] → s.arbiter.userHeld = true → s.tamper.causes.lineFault = false →
       ∃ t, exec .releaseGuardEnd s = .next t ∧ t.arbiter.owner = .user ∧ t.arbiter.window = .closed ∧
         t.arbiter.parkedReport = false ∧ t.line.purpose = .user ∧ t.line.phase = .seizing ∧ SameMoney s t ∧
         SameStore s t ∧ SameHousing s t ∧ SameService s t)))

/-- R104, R105, R106, R110, R128: a ring over the open loop with the handset on its cradle is counted to 15 and restarts the
silence timer; IDLE becomes RING_IN, and the configured count asks for POLL, which a free line grants.  A ring in RELEASING is
counted and asks alike, after a preempted POLL too (log entry 58), but for a request of POLL's own (R110); with the handset
lifted or the loop closed a ring has no effect.  The end of the silence forgets the rings.  Over the open loop, 5 s without the
exchange battery raise LINE_LOSS(VOLTAGE) and set LINE_FAULT, and 5 s with it clear the cause, with or without an owner; while
the loop is closed neither has an effect. -/
def Obligations.RingsAndLineVoltageAreFollowed : Prop :=
  ((∀ s : State, s.running = true → s.line.hook = .onHook → s.line.phase = .idle → s.lineFree = true →
     s.arbiter.parkedReport = false → s.arbiter.userHeld = false → s.arbiter.pollHeld = false → s.service.closing = false →
     min (s.line.ringCount + 1) 15 < s.config.ringCount →
     ∃ t, exec .ring s = .next t ∧ t.line.phase = .ringIn ∧ t.line.ringCount = min (s.line.ringCount + 1) 15 ∧
       t.line.silenceTimer = some (s.now + 8000) ∧ t.arbiter.pollHeld = false ∧ t.arbiter.owner = .none ∧
       t.isPending .callPhase = true ∧ SameMoney s t ∧ SameStore s t ∧ SameHousing s t ∧ SameService s t) ∧
   (∀ s : State, s.running = true → s.line.hook = .onHook → s.line.phase = .ringIn → s.lineFree = true →
     s.arbiter.parkedReport = false → s.arbiter.userHeld = false → s.arbiter.pollHeld = false → s.service.closing = false →
     min (s.line.ringCount + 1) 15 < s.config.ringCount →
     ∃ t, exec .ring s = .next t ∧
       t.line = { s.line with
         ringCount := min (s.line.ringCount + 1) 15, silenceTimer := some (s.now + 8000) } ∧
       t.arbiter.pollHeld = false ∧ t.arbiter.owner = .none ∧ t.setPort = s.setPort ∧ SameMoney s t ∧ SameStore s t ∧
       SameHousing s t ∧ SameService s t) ∧
   (∀ s : State, s.power.state = .active → s.line.hook = .onHook → s.line.phase = .releasing → s.service.closing = false →
     let rings := min (s.line.ringCount + 1) 15
     ∃ t, exec .ring s = .next t ∧
       t.beforeTests =
         ({ s with
           line := { s.line with ringCount := rings, silenceTimer := some (s.now + 8000) }
           arbiter := { s.arbiter with
             pollHeld := s.arbiter.pollHeld || decide (s.config.ringCount ≤ rings ∧ s.arbiter.owner ≠ .poll) } } :
           State).beforeTests) ∧
   (∀ s : State, s.serving →
     s.line.hook = .offHook ∨ (s.line.phase ≠ .idle ∧ s.line.phase ≠ .ringIn ∧ s.line.phase ≠ .releasing) →
     ∃ t, exec .ring s = .next t ∧ t.beforeTests = s.beforeTests) ∧
   (∀ s : State, s.running = true → s.line.hook = .onHook → s.line.phase = .ringIn → s.lineFree = true →
     s.arbiter.parkedReport = false → s.arbiter.userHeld = false → s.service.closing = false →
     s.config.ringCount ≤ min (s.line.ringCount + 1) 15 →
     ∃ t, exec .ring s = .next t ∧ t.line.phase = .data ∧ t.line.purpose = .poll ∧ t.line.ringCount = 0 ∧
       t.line.silenceTimer = none ∧ t.line.reference = some s.line.polarity ∧ t.arbiter.owner = .poll ∧
       t.arbiter.pollHeld = false ∧ t.centre.phase = .awaitGreet ∧ t.centre.kind = .answered ∧
       t.centre.reason = some .poll ∧ t.centre.phaseTimer = some (s.now + 10000) ∧ t.centre.ownFrame = 0 ∧
       t.isPending .reportActive = true ∧ t.power.state = .active ∧ SameMoney s t ∧ SameStore s t ∧ SameHousing s t ∧
       SameService s t) ∧
   (∀ (s : State) (d : Nat), s.running = true → s.line.phase = .ringIn → s.lineFree = true → s.arbiter.parkedReport = false →
     s.arbiter.userHeld = false → s.arbiter.reportHeld = false → s.reviewReport.arbiter.reportHeld = false →
     s.service.closing = false → s.line.silenceTimer = some d →
     ∃ t, exec .ringSilenceExpiry s = .next t ∧ t.line.phase = .idle ∧ t.line.ringCount = 0 ∧ t.line.silenceTimer = none ∧
       t.arbiter.pollHeld = false ∧ t.arbiter.owner = .none ∧ SameMoney s t ∧ SameStore s t ∧ SameHousing s t ∧
       SameService s t)) ∧
  (∀ s : State, s.busy ∨ s.unclaimed →
     (s.line.phase.atRest = true → s.line.voltagePresent = true →
       ∃ t, exec .lineVoltageAbsent s = .next t ∧ t.line.voltagePresent = false ∧ t.tamper.causes.lineFault = true ∧
         t.serviceState = .outOfOrder ∧ t.events = (s.occur .lineLossVoltage .absent).events ∧ SameMoney s t ∧
         SameStore s t ∧ SameClock s t ∧ SameService s t ∧ t.coin = s.coin) ∧
     (s.line.phase.atRest = true → s.line.voltagePresent = false →
       ∃ t, exec .lineVoltagePresent s = .next t ∧ t.line.voltagePresent = true ∧ t.tamper.causes.lineFault = false ∧
         t.events = s.events ∧ SameMoney s t ∧ SameStore s t ∧ SameClock s t ∧ SameService s t ∧ t.coin = s.coin) ∧
     (s.line.phase.atRest = false →
       (∃ t, exec .lineVoltageAbsent s = .next t ∧ t.beforeTests = s.beforeTests) ∧
       ∃ t, exec .lineVoltagePresent s = .next t ∧ t.beforeTests = s.beforeTests))

/-! ## Chapter 6: line arbiter -/

/-- R111, R113, R114, R116, R118: the yield limit's end releases the line (the reference polarity becoming none, log entry 48,
and the dial buffer empty, log entry 37); the end of a forced window takes it back for a waiting caller, through YIELD in DATA,
by a release at once in SEIZING, DIALLING and AWAIT_ANSWER and through the guard in RELEASING, and leaves it to REPORT with
none waiting; the hold-off and the window spacing just end.  A hold-off that ends over a free line lets a held REPORT request
be granted. -/
def Obligations.ArbiterTimersAct : Prop :=
  (∀ (s : State) (d : Nat) (r : TakeReason), s.busy → s.arbiter.yieldTimer = some d → s.arbiter.takeBack = .yieldWait r →
    s.line.phase = .data →
    ∃ t, exec .yieldLimitExpiry s = .next t ∧
      t.beforeTests =
        ({ s with
          now := max s.now d
          line := s.line.releasedAt (max s.now d)
          arbiter := { s.arbiter with takeBack := .releaseWait r, yieldTimer := none }
          modem := ⟨none, [], none, s.modem.looks⟩
          setPort := s.setPort.notified .callPhase } : State).beforeTests) ∧
  (∀ (s : State) (d : Nat), s.busy → s.arbiter.holdOff = some d →
    ∃ t, exec .resumeHoldOffExpiry s = .next t ∧
      t.beforeTests =
        ({ s with now := max s.now d, arbiter := { s.arbiter with holdOff := none } } : State).beforeTests) ∧
  (∀ (s : State) (d : Nat), s.arbiter.holdOff = some d → s.lineFree = true →
    (s.unclaimed → s.config.centreNumber = [] →
      ∃ t, exec .resumeHoldOffExpiry s = .next t ∧
        t.beforeTests =
          ({ s with now := max s.now d, arbiter := { s.arbiter with holdOff := none } } : State).beforeTests) ∧
    (s.unclaimed → s.urgentWaits → s.line.phase = .idle →
      ∃ t, exec .resumeHoldOffExpiry s = .next t ∧ t.arbiter.holdOff = none ∧
        ReportGranted s t (if s.centre.resume then .resume else .urgent) (max s.now d)) ∧
    (s.unclaimed → s.line.phase = .ringIn →
      ∃ t, exec .resumeHoldOffExpiry s = .next t ∧ t.arbiter.holdOff = none ∧ t.arbiter.owner = .none ∧ t.line = s.line)) ∧
  (∀ (s : State) (d : Nat), s.busy → s.arbiter.spacing = some d →
    ∃ t, exec .windowSpacingExpiry s = .next t ∧
      t.beforeTests =
        ({ s with now := max s.now d, arbiter := { s.arbiter with spacing := none } } : State).beforeTests) ∧
  (∀ (s : State) (d : Nat), s.busy → s.arbiter.windowTimer = some d → s.arbiter.userHeld = false →
    ∃ t, exec .windowTimerExpiry s = .next t ∧
      t.beforeTests =
        ({ s with now := max s.now d, arbiter := { s.arbiter with windowTimer := none, window := .closed } } :
          State).beforeTests) ∧
  (∀ (s : State) (d : Nat), s.busy → s.arbiter.windowTimer = some d → s.arbiter.userHeld = true →
    s.arbiter.owner = .report → s.arbiter.takeBack = .none → s.line.phase = .data →
    ∃ t, exec .windowTimerExpiry s = .next t ∧ t.arbiter.takeBack = .yieldWait .window ∧
      t.arbiter.yieldTimer = some (max s.now d + 200) ∧ t.arbiter.window = .closed ∧ t.arbiter.windowTimer = none ∧
      t.arbiter.owner = .report ∧ t.line = s.line ∧ SameMoney s t ∧ SameStore s t ∧ SameClock s t ∧ SameService s t) ∧
  (∀ (s : State) (d : Nat), s.busy → s.arbiter.windowTimer = some d → s.arbiter.userHeld = true →
    s.arbiter.owner = .report → s.arbiter.takeBack = .none → s.line.purpose = .report →
    s.line.phase ∈ [LinePhase.seizing, .dialling, .awaitAnswer, .releasing] →
    ∃ t, exec .windowTimerExpiry s = .next t ∧ t.arbiter.takeBack = .releaseWait .window ∧ t.arbiter.yieldTimer = none ∧
      t.arbiter.window = .closed ∧ t.arbiter.windowTimer = none ∧ t.arbiter.owner = .report ∧
      (s.line.phase ≠ .releasing → t.line = s.line.releasedAt (max s.now d) ∧ t.modem.silent) ∧
      (s.line.phase = .releasing → t.line = s.line ∧ t.modem = s.modem) ∧
      (s.centre.phase ≠ .idle → t.centre.phase = .suspended) ∧ SameMoney s t ∧ SameStore s t ∧ SameClock s t ∧
      SameService s t)

/-- R110, R115, R118, R160: an off-hook while REPORT or POLL has the line, with no forced window open and no take-back under
way, opens the session and takes the line back: the centre session is suspended with its attempt count as it was.  In DATA
YIELD is sent in place of what the modem had, and the caller waits 200 ms at most; in SEIZING, DIALLING and AWAIT_ANSWER no
YIELD is sent and the line is released at once; in RELEASING the guard is waited for.  While a forced window is OPEN the caller
waits with LINE_WAIT, and in a take-back under way the request is held and nothing else.  The centre's carrier, which YIELD
waits for, is a free value (log entry 55), and the reference polarity becomes none at the release (log entry 48), which empties
the dial buffer; a session opened in DIALLING under an OPEN window leaves the centre number in it (log entry 37). -/
def Obligations.CallerPreemptsTheCentre : Prop :=
  ∀ s : State, s.busy → s.arbiter.centreOwns = true → s.line.session = .none →
    let called (l : LineUnit) : LineUnit :=
      { l with hook := .offHook, session := .opened, abandonTimer := some (s.now + 120000) }
    let emptied (l : LineUnit) : LineUnit :=
      { l with buffer := [], resolution := .unresolved, endOfDialling := false, cursor := 0 }
    let taken (t : State) (b : TakeBack) : Prop :=
      t.call = { s.call with sessionOpen := true } ∧ t.arbiter.owner = s.arbiter.owner ∧ t.arbiter.userHeld = true ∧
      t.arbiter.takeBack = b ∧ t.isPending .callPhase = true ∧ t.centre.attempts = s.centre.attempts ∧
      (s.centre.phase ≠ .idle → s.centre.phase ≠ .suspended →
        t.centre.phase = .suspended ∧ t.centre.inFlight = none ∧ t.centre.phaseTimer = none ∧ t.centre.idleTimer = none ∧
        t.centre.resume = (s.centre.resume || !s.centre.uploadDone)) ∧
      t.lifetime = s.lifetime ∧ t.period = s.period ∧ t.coin = s.coin ∧ t.rating = s.rating ∧ SameStore s t ∧
      t.tamper = s.tamper ∧ SameService s t ∧ SameClock s t
    (s.arbiter.takeBack = .none → s.arbiter.window ≠ .opened →
      (s.line.phase = .data → s.centre.phase ≠ .idle → s.centre.phase ≠ .suspended →
        ∃ t, exec .offHook s = .next t ∧ taken t (.yieldWait .preempt) ∧ t.arbiter.yieldTimer = some (s.now + 200) ∧
          t.line = called (emptied s.line) ∧
          t.modem = (match s.modem.turnaround with
            | none => s.modem.offered ⟨0x16, s.centre.ownFrame, []⟩ []
            | some d => ⟨none, [⟨0x16, s.centre.ownFrame, []⟩], some d, s.modem.looks⟩)) ∧
      (s.line.phase = .seizing ∨ s.line.phase = .dialling ∨ s.line.phase = .awaitAnswer →
        s.line.purpose = s.arbiter.owner →
        ∃ t, exec .offHook s = .next t ∧ taken t (.releaseWait .preempt) ∧ t.arbiter.yieldTimer = none ∧
          t.line = called (emptied (s.line.releasedAt s.now)) ∧ t.modem.silent) ∧
      (s.line.phase = .releasing →
        ∃ t, exec .offHook s = .next t ∧ taken t (.releaseWait .preempt) ∧ t.arbiter.yieldTimer = none ∧
          t.line = called (emptied s.line) ∧ t.modem = s.modem)) ∧
    (s.line.phase ≠ .ringIn → s.arbiter.takeBack ≠ .none ∨ s.arbiter.window = .opened →
      ∃ t, exec .offHook s = .next t ∧
        t.beforeTests = State.beforeTests
          (let opened : State :=
            { s with
              line := called (if s.line.phase = .dialling then s.line else emptied s.line)
              call := { s.call with sessionOpen := true }
              arbiter := { s.arbiter with userHeld := true }
              setPort := s.setPort.notified .callPhase }
           if s.arbiter.takeBack = .none then
             { opened with
               arbiter := { opened.arbiter with waiting := true }
               setPort := opened.setPort.notified .lineWait }
           else opened))

/-! ## Chapter 7: tamper monitor and event queue -/

/-- R120, R121, R122, R124, R125, R126: a door's or the cord's level held for 50 ms.  The first after a start is no edge, but a
cord found OPEN sets CORD_CUT; a change is an edge: it sets the input's latch, with SERVICE when the latch was clear, and hands
over an occurrence when the input is enabled and its edge select names the edge.  A collector session exempts the coin door.  An
OPEN edge of CORD sets CORD_CUT with no session open too, and a CLOSE edge starts the 2 s restore timer, whose end clears
CORD_CUT.  A shock pulse opens the 2 s window or adds one to its count; at the window's end a count of 5 or more sets the SHOCK
latch and, with SHOCK enabled as the window opened, hands over the count, and a lower count is dropped.  All this holds with an
owner on the line, with none in ACTIVE, and in STANDBY. -/
def Obligations.InputsLatchReportAndCount : Prop :=
  let edge (s : State) (k : Fin 4) (p : EventPair) (l : Level) (after : Tamper) : State :=
    let latched : State := { s with events := { s.events with latches := maskAdd s.events.latches k.val } }
    { s with
      tamper := after
      events :=
        if maskHas s.config.enables k.val ∧ (s.config.edges.get k = .both ∨
            s.config.edges.get k = (match l with | .opened => .opened | .closed => .closed)) then
          (latched.occur p .absent).events
        else latched.events
      setPort := if maskHas s.events.latches k.val then s.setPort else s.setPort.notified .service }
  ((∀ (s : State) (l : Level), s.serving →
     (s.tamper.upperDoor.qualified = false →
       ∃ t, exec (.inputEdge .upperDoor l) s = .next t ∧
         t.beforeTests = ({ s with tamper := { s.tamper with upperDoor := ⟨l, true⟩ } } : State).beforeTests) ∧
     (s.tamper.coinDoor.qualified = false →
       ∃ t, exec (.inputEdge .coinDoor l) s = .next t ∧
         t.beforeTests = ({ s with tamper := { s.tamper with coinDoor := ⟨l, true⟩ } } : State).beforeTests) ∧
     (s.tamper.cord.qualified = false →
       (∃ t, exec (.inputEdge .cord .closed) s = .next t ∧
         t.beforeTests = ({ s with tamper := { s.tamper with cord := ⟨.closed, true⟩ } } : State).beforeTests) ∧
       ∃ t, exec (.inputEdge .cord .opened) s = .next t ∧
         t.tamper = { s.tamper with cord := ⟨.opened, true⟩, causes := { s.tamper.causes with cordCut := true } } ∧
         t.events = s.events ∧ (s.tamper.causes.cordCut = false → t.isPending .service = true) ∧
         t.line.session = s.line.session ∧ ((∀ id d, s.line.resolution ≠ .waitingDeposit id d) → t.line = s.line) ∧
         SameMoney s t ∧ SameStore s t ∧ SameClock s t ∧ SameService s t ∧ t.coin = s.coin)) ∧
   (∀ (s : State) (l : Level), s.busy ∨ s.unclaimed →
     (s.tamper.upperDoor = ⟨l, true⟩ →
       ∃ t, exec (.inputEdge .upperDoor l) s = .next t ∧ t.beforeTests = s.beforeTests) ∧
     (s.tamper.upperDoor.qualified = true → s.tamper.upperDoor.level ≠ l →
       ∃ t, exec (.inputEdge .upperDoor l) s = .next t ∧
         t.beforeTests = (edge s 1 .doorUpper l { s.tamper with upperDoor := ⟨l, true⟩ }).beforeTests) ∧
     (s.tamper.coinDoor.qualified = true → s.tamper.coinDoor.level ≠ l →
       ∃ t, exec (.inputEdge .coinDoor l) s = .next t ∧
         t.beforeTests = State.beforeTests
           (if s.tamper.collectorOpen then { s with tamper := { s.tamper with coinDoor := ⟨l, true⟩ } }
            else edge s 0 .doorCoin l { s.tamper with coinDoor := ⟨l, true⟩ }))) ∧
   (∀ s : State, s.busy ∨ s.unclaimed → s.tamper.cord = ⟨.opened, true⟩ →
     ∃ t, exec (.inputEdge .cord .closed) s = .next t ∧
       t.beforeTests =
         (edge s 2 .cord .closed
           { s.tamper with cord := ⟨.closed, true⟩, cordRestore := some (s.now + 2000) }).beforeTests) ∧
   (∀ s : State, s.busy ∨ s.unclaimed → s.tamper.cord = ⟨.closed, true⟩ → s.line.session ≠ .opened →
     ∃ t, exec (.inputEdge .cord .opened) s = .next t ∧ t.events = (edge s 2 .cord .opened s.tamper).events ∧
       t.tamper = { s.tamper with
         cord := ⟨.opened, true⟩, cordRestore := none, causes := { s.tamper.causes with cordCut := true } } ∧
       maskHas t.events.latches 2 = true ∧ t.serviceState = .outOfOrder ∧ t.line.session = s.line.session ∧
       ((∀ id d, s.line.resolution ≠ .waitingDeposit id d) → t.line = s.line) ∧ SameMoney s t ∧ SameStore s t ∧
       SameClock s t ∧ SameService s t ∧ t.coin = s.coin) ∧
   (∀ (s : State) (d : Nat), s.serving → s.tamper.cordRestore = some d →
     ∃ t, exec .cordRestoreExpiry s = .next t ∧ t.tamper.cordRestore = none ∧ t.tamper.causes.cordCut = false ∧
       t.events = s.events ∧ SameMoney s t ∧ SameStore s t ∧ SameService s t ∧ SameClock s t ∧ t.coin = s.coin)) ∧
  ((∀ s : State, s.serving →
     ∃ t, exec .shockPulse s = .next t ∧
       t.beforeTests =
         ({ s with
           tamper :=
             if s.tamper.shockTimer = none then
               { s.tamper with
                 shockCount := 1, shockTimer := some (s.now + 2000), shockEnabled := maskHas s.config.enables 3 }
             else { s.tamper with shockCount := min (s.tamper.shockCount + 1) 255 } } : State).beforeTests) ∧
   (∀ (s : State) (d : Nat), s.busy ∨ s.unclaimed → s.tamper.shockTimer = some d →
     let latched : State := { s with events := { s.events with latches := maskAdd s.events.latches 3 } }
     ∃ t, exec .shockWindowExpiry s = .next t ∧
       t.beforeTests =
         ({ s with
           now := max s.now d
           tamper := { s.tamper with shockCount := 0, shockTimer := none, shockEnabled := false }
           events :=
             if s.tamper.shockCount < 5 then s.events
             else if s.tamper.shockEnabled then (latched.occur .shock (.number s.tamper.shockCount)).events
             else latched.events
           setPort :=
             if s.tamper.shockCount < 5 ∨ maskHas s.events.latches 3 = true then s.setPort
             else s.setPort.notified .service } : State).beforeTests))

/-- R129, R131, R132: an occurrence is coalesced into the record of its pair that is not yet REPORTED, or appended as a new
PENDING record with the next sequence number, a full queue losing its oldest REPORTED record first.  A change of the queue marks
EVENTS. -/
def Obligations.OccurrencesCoalesceOrAppend : Prop :=
  ∀ (s : State) (p : EventPair) (d : Detail), s.EventsInOrder →
    let now := s.timestamp
    let urgent := decide (s.config.severities.get p.index = .urgent)
    (∀ r ∈ s.events.records, r.pair = p → r.state ≠ .reported →
      (s.occur p d).events.records =
        s.events.records.map (fun x =>
          if x = r then
            { r with
              repeats := min (r.repeats + 1) 255
              last := now
              detail := if d = .absent then r.detail else d
              severity := if urgent then .urgent else r.severity
              amended := r.amended || decide (r.state = .sending) }
          else x) ∧
      (s.occur p d).events.nextSeq = s.events.nextSeq) ∧
    ((∀ r ∈ s.events.records, r.pair = p → r.state = .reported) →
      ∃ kept, (s.occur p d).events.records =
          kept ++ [⟨s.events.nextSeq, p, if urgent then .urgent else .routine, now, now, 1, d, .pending, false, s.elapsed⟩] ∧
        (s.events.records.length < 20 → kept = s.events.records) ∧
        (s.events.records.length = 20 →
          ∃ a r b, s.events.records = a ++ r :: b ∧ (∀ x ∈ a, x.state ≠ .reported) ∧ r.state = .reported ∧
            kept = a ++ b) ∧
        (s.occur p d).events.nextSeq = s.events.nextSeq + 1) ∧
    (s.occur p d).events.latches = s.events.latches ∧
    ((s.occur p d).events ≠ s.events → Section.events ∈ (s.occur p d).ledger.dirty)

/-- R133: a record's state changes at Send, Acknowledge and Return as the table gives, a request for a record in any other state
changes nothing, each change marks EVENTS, and a record keeps its place and its sequence number.  A session that is suspended or
fails returns its record in flight. -/
def Obligations.RecordRequestsFollowTheTable : Prop :=
  (∀ r : EventRecord,
    r.send = (if r.state = .pending then { r with state := .sending } else r) ∧
    r.acknowledge =
      (if r.state = .sending then
        if r.amended then { r with state := .pending, amended := false } else { r with state := .reported }
      else r) ∧
    r.giveBack = (if r.state = .sending then { r with state := .pending } else r)) ∧
  (∀ (s : State) (seq : BitVec 16) (f : EventRecord → EventRecord),
    f = EventRecord.send ∨ f = EventRecord.acknowledge ∨ f = EventRecord.giveBack →
    (s.changeRecord seq f).events.records = s.events.records.map (fun r => if r.seq = seq then f r else r) ∧
    (s.changeRecord seq f).events.records.map (·.seq) = s.events.records.map (·.seq) ∧
    ((s.changeRecord seq f).events ≠ s.events → Section.events ∈ (s.changeRecord seq f).ledger.dirty) ∧
    ((s.changeRecord seq f).events = s.events → s.changeRecord seq f = s)) ∧
  (∀ (s : State) (seq : BitVec 16), s.centre.inFlight = some seq → s.centre.phase ≠ .idle → s.centre.phase ≠ .suspended →
    s.suspend.events = (s.changeRecord seq EventRecord.giveBack).events ∧
    s.failSession.events = (s.changeRecord seq EventRecord.giveBack).events)

/-! ## Chapter 8: centre sessions -/

/-- R139, R141, R146, R147, R148, R149, R150, R152, R159: the ends of the routine timer and of the backoff timer stop them, and
the REPORT request is held exactly when the conditions of R139 hold afterwards; the record that the routine timer was set for
counts as reached whatever its age by the seconds' base (log entry 14).  With resends left to make, the end of the IDENT or
UPLOAD timer, a REJECT and a second GREET send the waiting frame again, with its number and contents; the third fails the
session, for the timer as R159 says and for a REJECT or GREET by the same limit (log entry 50), as the end of AWAIT_ANSWER or
AWAIT_GREET does.  A REJECT is taken whatever its payload (log entry 12), and the reference polarity becomes none at the
release that a failure asks for (log entry 48), which empties the dial buffer (log entry 37).  The phase timer stops at a
REJECT or a second GREET and runs again from the resend (log entry 62).  The conditions of R139 stand as the model writes them
(`State.wantsReport`, with log entry 14).  The centre's carrier, which the frame waits for, is a free value (log entry 55). -/
def Obligations.CentreTimersReviewResendOrFail : Prop :=
  ((∀ (s : State) (d : Nat) (r : EventRecord), s.busy → s.centre.routineTimer = some d → s.oldestPending .routine = some r →
     s.centre.routineFor = some (r.seq, s.config.routineDelay) → s.centre.backoff = none → s.config.centreNumber ≠ [] →
     ∃ t, exec .routineTimerExpiry s = .next t ∧ t.arbiter.reportHeld = true ∧ t.centre.routineTimer = none ∧
       t.beforeTests = ({ s with now := max s.now d } : State).beforeTests) ∧
   (∀ (s : State) (d : Nat), s.busy → s.centre.backoff = some d →
     ∃ t, exec .backoffExpiry s = .next t ∧ t.arbiter.reportHeld = t.wantsReport ∧
       t.beforeTests =
         ({ s with now := max s.now d, centre := { s.centre with backoff := none } } : State).beforeTests)) ∧
  ((∀ (s : State) (c : Instr) (d : Nat) (f : Frame), s.busy → s.centre.phaseTimer = some d → s.centre.awaited = some f →
     s.modem.silent → s.centre.resends < 2 →
     (c = .helloTimerExpiry ∧ s.centre.phase = .ident) ∨ (c = .uploadTimerExpiry ∧ s.centre.phase = .upload) →
     ∃ t, exec c s = .next t ∧
       t.beforeTests =
         ({ s with
           now := max s.now d
           centre := { s.centre with resends := s.centre.resends + 1, phaseTimer := none }
           modem := s.modem.offered f [] } : State).beforeTests) ∧
   (∀ (s : State) (c : Instr) (n : Byte) (payload : List Byte) (f : Frame), s.inSession → payload.length ≤ 80 →
     s.centre.awaited = some f → s.centre.resends < 2 →
     (c = .reject n payload ∧ (s.centre.phase = .ident ∨ s.centre.phase = .upload)) ∨
       (c = .greet n payload ∧ s.centre.phase = .ident) →
     ∃ t, exec c s = .next t ∧
       t.beforeTests =
         ({ s with
           centre := { s.centre with resends := s.centre.resends + 1, phaseTimer := none }
           modem := { s.modem with waiting := s.modem.waiting ++ [f], turnaround := some (s.now + 30) } } :
           State).beforeTests) ∧
   (∀ (s : State) (c : Instr) (d : Nat), s.busy → s.line.phase.atRest = false → s.line.phase ≠ .releasing →
     s.line.purpose ≠ .user → s.centre.phaseTimer = some d →
     (c = .helloTimerExpiry ∧ s.centre.phase = .ident ∧ 2 ≤ s.centre.resends) ∨
       (c = .uploadTimerExpiry ∧ s.centre.phase = .upload ∧ 2 ≤ s.centre.resends) ∨
       (c = .awaitAnswerExpiry ∧ s.centre.phase = .awaitAnswer) ∨ (c = .awaitGreetExpiry ∧ s.centre.phase = .awaitGreet) →
     ∃ t, exec c s = .next t ∧ CentreFailed s t (max s.now d)) ∧
   (∀ (s : State) (c : Instr) (n : Byte) (payload : List Byte), s.inSession → payload.length ≤ 80 →
     s.line.purpose ≠ .user → 2 ≤ s.centre.resends →
     (c = .reject n payload ∧ (s.centre.phase = .ident ∨ s.centre.phase = .upload)) ∨
       (c = .greet n payload ∧ s.centre.phase = .ident) →
     ∃ t, exec c s = .next t ∧ CentreFailed s t s.now))

/-- R149, R150, R152, R153: a GREET in AWAIT_GREET is answered with HELLO in IDENT; an ACK of HELLO or of the record in flight
leads on to the next record PENDING, urgent ones first, or with none left to DONE and the centre's turn; an ACK with another
sequence number is ignored.  The bits of a record as sent that section 12.5 does not name are 0 (log entry 63). -/
def Obligations.UploadFollowsTheAcknowledgements : Prop :=
  (∀ (s : State) (n : Byte) (payload : List Byte), s.inSession → payload.length ≤ 80 → s.centre.phase = .awaitGreet →
    ∃ t, exec (.greet n payload) s = .next t ∧
      t.beforeTests = State.beforeTests
        (let hello := s.helloBytes
         ({ s.heard with
           centre := { s.centre with
             phase := .ident, phaseTimer := none, awaited := some ⟨0x11, s.centre.ownFrame, hello⟩ } } :
           State).sends 0x11 hello)) ∧
  (∀ (s : State) (n : Byte), s.inSession → s.centre.phase = .ident → s.nextRecord = none →
    ∃ t, exec (.ack n []) s = .next t ∧
      t.beforeTests = State.beforeTests
        (({ s.heard with
          centre := { s.centre with
            phase := .centreTurn, phaseTimer := none, resends := 0, awaited := none, uploadDone := true, attempts := 0,
            backoff := none, dailyDue := false, resume := false, lastReply := some ⟨0x14, s.centre.ownFrame, []⟩ } } :
          State).sends 0x14 [])) ∧
  (∀ (s : State) (n : Byte) (r : EventRecord), s.inSession → s.centre.phase = .ident → s.nextRecord = some r →
    ∃ t, exec (.ack n []) s = .next t ∧
      t.beforeTests = State.beforeTests
        (({ s.heard with
          centre := { s.centre with
            phase := .upload, phaseTimer := none, resends := 0, inFlight := some r.seq,
            awaited := some ⟨0x13, s.centre.ownFrame, r.send.encode⟩ }
          events := (s.changeRecord r.seq EventRecord.send).events } : State).sends 0x13 r.send.encode)) ∧
  (∀ (s : State) (n : Byte) (seq : BitVec 16), s.inSession → s.centre.phase = .upload → s.centre.inFlight = some seq →
    let done := s.changeRecord seq EventRecord.acknowledge
    (done.nextRecord = none →
      ∃ t, exec (.ack n (be16 seq.toNat)) s = .next t ∧
        t.beforeTests = State.beforeTests
          (({ s.heard with
            events := done.events
            centre := { s.centre with
              phase := .centreTurn, phaseTimer := none, inFlight := none, awaited := none, lastAcked := some seq,
              uploadDone := true, attempts := 0, backoff := none, dailyDue := false, resume := false,
              lastReply := some ⟨0x14, s.centre.ownFrame, []⟩ } } : State).sends 0x14 [])) ∧
    (∀ r, done.nextRecord = some r →
      ∃ t, exec (.ack n (be16 seq.toNat)) s = .next t ∧
        t.beforeTests = State.beforeTests
          (({ s.heard with
            events := (done.changeRecord r.seq EventRecord.send).events
            centre := { s.centre with
              phaseTimer := none, inFlight := some r.seq, resends := 0, lastAcked := some seq,
              awaited := some ⟨0x13, s.centre.ownFrame, r.send.encode⟩ } } : State).sends 0x13 r.send.encode)) ∧
    (∀ other : BitVec 16, other ≠ seq →
      ∃ t, exec (.ack n (be16 other.toNat)) s = .next t ∧ t.beforeTests = s.heard.beforeTests))

/-- R143, R146, R147, R154: a discarded frame is answered REJECT(BAD_FRAME) in the centre's turn and ignored in every other
phase; a valid frame of a type that no phase takes, and one of a known type in a phase that does not take it, is answered
REJECT(UNEXPECTED) in AWAIT_GREET, IDENT, UPLOAD and the centre's turn, and ignored in the others.  A REJECT of the centre in
its turn, whatever reason it carries, and an ACK of the last record repeated before any command make the part send its last
reply again, DONE before any command.  A command sent twice is not carried out again: the last reply is sent again with its
number and contents, and the idle timer restarts.  A command that comes while a reply waits is not taken.  That the 30 ms
turnaround runs after a discarded frame and a gap too is the model's inference (log entry 13). -/
def Obligations.FramesOutOfTurnAreRefusedOrRepeated : Prop :=
  ((∀ (s : State) (c : Instr), s.inSession → c = .badFrame ∨ c = .frameGapExpiry →
     ∃ t, exec c s = .next t ∧
       t.beforeTests =
         (if s.centre.phase = .centreTurn then s.heard.sends 0x15 [0] else s.heard).beforeTests) ∧
   (∀ (s : State) (k n : Byte) (payload : List Byte), s.inSession → payload.length ≤ 80 →
     ∃ t, exec (.unknownFrameType k n payload) s = .next t ∧
       t.beforeTests = State.beforeTests
         (let u := if s.centre.phase = .centreTurn then
             { s.heard with centre := { s.centre with idleTimer := some (s.now + 20000) } } else s.heard
          if s.centre.phase.answers then u.sends 0x15 [1] else u)) ∧
   (∀ (s : State) (c : Instr) (n : Byte) (payload : List Byte), s.inSession → payload.length ≤ 80 →
     (c ∈ [Instr.auditRead n payload, .queueRead n payload, .clockSet n payload, .serviceSet n payload, .configSet n payload,
         .stageClear n payload, .blockLoad n payload, .stageActivate n payload, .endTurn n payload] ∧
       s.centre.phase ≠ .centreTurn) ∨
     (c = .greet n payload ∧ s.centre.phase ≠ .awaitGreet ∧ s.centre.phase ≠ .ident) ∨
     (c = .ack n payload ∧ s.centre.phase ≠ .ident ∧ s.centre.phase ≠ .upload ∧ s.centre.phase ≠ .centreTurn) ∨
     (c = .ack n payload ∧ s.centre.phase = .centreTurn ∧
       (s.centre.lastCommand ≠ none ∨ ∀ seq : BitVec 16, s.centre.lastAcked = some seq → payload ≠ be16 seq.toNat)) ∨
     (c = .reject n payload ∧ s.centre.phase ≠ .ident ∧ s.centre.phase ≠ .upload ∧ s.centre.phase ≠ .centreTurn) →
     ∃ t, exec c s = .next t ∧
       t.beforeTests =
         (if s.centre.phase.answers then s.heardValid.sends 0x15 [1] else s.heardValid).beforeTests) ∧
   (∀ (s : State) (c : Instr) (n : Byte) (payload : List Byte) (f : Frame), s.inSession → payload.length ≤ 80 →
     s.centre.phase = .centreTurn → s.centre.lastReply = some f →
     c = .reject n payload ∨
       (c = .ack n payload ∧ s.centre.lastCommand = none ∧
         ∃ seq : BitVec 16, s.centre.lastAcked = some seq ∧ payload = be16 seq.toNat) →
     ∃ t, exec c s = .next t ∧
       t.beforeTests =
         ({ s.heardValid with modem := { s.heardValid.modem with waiting := s.modem.waiting ++ [f] } } :
           State).beforeTests)) ∧
  (∀ (s : State) (n : Byte) (payload : List Byte) (c : Instr), s.inSession → payload.length ≤ 80 →
     s.centre.phase = .centreTurn →
     c ∈ [Instr.auditRead n payload, .queueRead n payload, .clockSet n payload, .serviceSet n payload, .configSet n payload,
       .stageClear n payload, .blockLoad n payload, .stageActivate n payload, .endTurn n payload] →
     let idle : CentreLink := { s.centre with idleTimer := some (s.now + 20000) }
     ∃ t, exec c s = .next t ∧
       (s.replyWaits = true → t.beforeTests = ({ s.heard with centre := idle } : State).beforeTests) ∧
       (∀ f, s.replyWaits = false → s.centre.lastCommand = some n → s.centre.lastReply = some f →
         t.beforeTests =
           ({ s with
             centre := idle
             modem := { s.modem with waiting := s.modem.waiting ++ [f], turnaround := some (s.now + 30) } } :
             State).beforeTests))

/-- R146, R150, R152, R154, R158, R160: the turnaround's end starts the first waiting frame; a frame sent starts the wait that
runs from it, ends a closing session at its last reply and a suspended one at YIELD, and makes room for the next.  A frame
starts only with no centre carrier present, which is a free value (log entry 55).  The reference polarity becomes none at the
release that CLOSING and SUSPENDED ask for (log entry 48), which empties the dial buffer (log entry 37). -/
def Obligations.ModemSendsOneFrameAtATime : Prop :=
  (∀ (s : State) (d : Nat), s.busy → s.modem.turnaround = some d →
    ∃ t, exec .turnaroundExpiry s = .next t ∧
      t.beforeTests =
        ({ s with
          now := max s.now d
          modem := match s.modem.sending, s.modem.waiting with
            | none, f :: rest => s.modem.offered f rest
            | _, _ => { s.modem with turnaround := none } } : State).beforeTests) ∧
  (∀ (s : State) (f : Frame), s.busy → s.modem.sending = some f → s.modem.turnaround = none →
    let next : Modem := match s.modem.waiting with
      | g :: rest => s.modem.offered g rest
      | [] => ⟨none, [], none, s.modem.looks⟩
    (s.centre.phase = .ident ∨ s.centre.phase = .upload → s.centre.awaited = some f →
      ∃ t, exec .frameSent s = .next t ∧
        t.beforeTests =
          ({ s with modem := next, centre := { s.centre with phaseTimer := some (s.now + 4000) } } :
            State).beforeTests) ∧
    (s.centre.phase = .centreTurn →
      ∃ t, exec .frameSent s = .next t ∧
        t.beforeTests =
          ({ s with modem := next, centre := { s.centre with idleTimer := some (s.now + 20000) } } :
            State).beforeTests) ∧
    ((s.centre.phase = .closing ∧ s.centre.lastReply = some f) ∨ (s.centre.phase = .suspended ∧ f.ftype = 0x16) →
      s.line.phase = .data →
      ∃ t, exec .frameSent s = .next t ∧ t.line = s.line.releasedAt s.now ∧ t.modem.silent ∧
        t.arbiter.takeBack = s.arbiter.takeBack.released ∧ t.arbiter.yieldTimer = none ∧
        t.centre.phase = s.centre.phase ∧ (s.centre.phase = .suspended → t.centre.resetYield = none) ∧ SameMoney s t ∧
        SameStore s t ∧ SameHousing s t ∧ SameService s t ∧ SameClock s t ∧ t.coin = s.coin))

/-- R134, R155, R156, R176, R192: AUDIT_READ is answered with the part it names and QUEUE_READ with up to four records from its
position; neither changes anything but the link's own record, and a part above 2 is answered RANGE.  The centre's CLOCK_SET
sets the clock and its valid flag, whether it was valid or not, and SERVICE_SET the cause CENTRE_INHIBIT; a value out of range
is answered RANGE and changes nothing.  The bits of a record as sent that sections 12.1 and 12.5 do not name are 0 (log entry
63). -/
def Obligations.CentreReadsAndSwitches : Prop :=
  ((∀ (s : State) (n part : Byte), s.takesCommand n →
     ∃ t, exec (.auditRead n [part]) s = .next t ∧
       t.beforeTests = State.beforeTests
         (if part = 0 then s.repliesTo n 0x31 (part :: s.lifetime.encode)
          else if part = 1 then s.repliesTo n 0x31 (part :: s.period.encode)
          else if part = 2 then s.repliesTo n 0x31
            (part :: (be16 s.call.boxCount ++ be16 s.config.boxCapacity ++
              [byteOf s.serviceState.code, s.causeMask.setWidth 8, s.events.latches.setWidth 8, byteOf s.pendingCount]))
          else s.repliesTo n 0x30 [4, 0])) ∧
   (∀ (s : State) (n position : Byte), s.takesCommand n →
     ∃ t, exec (.queueRead n [position]) s = .next t ∧
       t.beforeTests =
         (s.repliesTo n 0x32 ([byteOf s.events.records.length, position] ++
           (((s.events.records.drop position.toNat).take 4).map EventRecord.encode).flatten)).beforeTests)) ∧
  ((∀ (s : State) (n w d1 d0 s2 s1 s0 : Byte), s.takesCommand n →
     let second := s2.toNat * 65536 + s1.toNat * 256 + s0.toNat
     ∃ t, exec (.clockSet n [d1, d0, w, s2, s1, s0]) s = .next t ∧
       t.beforeTests = State.beforeTests
         (if w.toNat ≤ 6 ∧ second ≤ 86399 then
           ({ s with clock := ⟨d1.toNat * 256 + d0.toNat, w.toNat, second, true, s.now⟩ } : State).repliesTo n 0x30 [0, 0]
         else s.repliesTo n 0x30 [4, 0])) ∧
   (∀ (s : State) (n v : Byte), s.takesCommand n →
     ∃ t, exec (.serviceSet n [v]) s = .next t ∧
       t.beforeTests = State.beforeTests
         (if v = 0 ∨ v = 1 then
           let change := s.config.centreInhibit ≠ decide (v = 1)
           ({ s with
             config := { s.config with centreInhibit := decide (v = 1) }
             setPort := if change then s.setPort.notified .service else s.setPort } : State).repliesTo n 0x30 [0, 0]
         else s.repliesTo n 0x30 [4, 0])))

/-- R39, R56, R121, R123, R157, R192: an accepted CONFIG_SET gives its item the value, item by item, and nothing else, and
CONFIG is marked and written unless it is as it was (R167, log entry 49); the latch clear is carried out and not stored; a box
capacity evaluates BOX_NEAR_FULL at once and is refused below the box count plus 12.  What does not fit its item is answered
RANGE and changes nothing.  The items' layouts follow section 12.4.  Log entry 18 gives the order in which items 17 to 21 name
the five inputs, log entry 19 answers a mask of 32 or more in item 38 RANGE, log entry 20 says how a collector entry stands, and
log entry 54 what digits a code may have. -/
def Obligations.ConfigSetReplacesItsItem : Prop :=
  (∀ (s : State) (n : Byte) (payload : List Byte), s.takesCommand n → payload.length ≤ 80 →
    (∀ c', ¬ ConfigAccepts s.config payload c') → payload.head? ≠ some 4 → payload.head? ≠ some 38 →
    ∃ t, exec (.configSet n payload) s = .next t ∧ t.beforeTests = (s.repliesTo n 0x30 [4, 0]).beforeTests ∧
      (s.ledger = ⟨[], none⟩ → t.ledger = ⟨[], none⟩)) ∧
  (∀ (s : State) (n : Byte) (rest : List Byte) (m : Byte), s.takesCommand n → rest.length < 80 →
    (rest.length ≠ 2 →
      ∃ t, exec (.configSet n (4 :: rest)) s = .next t ∧ t.beforeTests = (s.repliesTo n 0x30 [4, 0]).beforeTests) ∧
    (rest.length ≠ 1 →
      ∃ t, exec (.configSet n (38 :: rest)) s = .next t ∧ t.beforeTests = (s.repliesTo n 0x30 [4, 0]).beforeTests) ∧
    (32 ≤ m.toNat →
      ∃ t, exec (.configSet n [38, m]) s = .next t ∧ t.beforeTests = (s.repliesTo n 0x30 [4, 0]).beforeTests)) ∧
  (∀ (s : State) (n v : Byte), s.takesCommand n →
    ∃ t, exec (.configSet n [10, v]) s = .next t ∧
      t.beforeTests = State.beforeTests
        (if 2 ≤ v.toNat ∧ v.toNat ≤ 15 then
          ({ s with config := { s.config with ringCount := v.toNat } } : State).repliesTo n 0x30 [0, 0]
        else s.repliesTo n 0x30 [4, 0])) ∧
  (∀ (s : State) (n : Byte) (payload : List Byte) (c' : ConfigSection), s.takesCommand n → payload.length ≤ 80 →
    ConfigAccepts s.config payload c' →
    ∃ t, exec (.configSet n payload) s = .next t ∧
      t.beforeTests = (({ s with config := c' } : State).repliesTo n 0x30 [0, 0]).beforeTests ∧
      (s.ledger = ⟨[], none⟩ →
        t.ledger = if c' = s.config then ⟨[], none⟩
          else ⟨[], some ⟨.config, s.nv.config.target ConfigSection.encode, s.now + 8⟩⟩)) ∧
  (∀ (s : State) (n m : Byte), s.takesCommand n → m.toNat < 32 →
    ∃ t, exec (.configSet n [38, m]) s = .next t ∧
      t.beforeTests =
        (({ s with events := { s.events with latches := s.events.latches &&& ~~~ m.setWidth 5 } } :
          State).repliesTo n 0x30 [0, 0]).beforeTests) ∧
  (∀ (s : State) (n h l : Byte), s.takesCommand n →
    let k := h.toNat * 256 + l.toNat
    (200 ≤ k → k ≤ 3000 → s.call.boxCount + 12 ≤ k →
      ∃ t, exec (.configSet n [4, h, l]) s = .next t ∧ t.config = { s.config with boxCapacity := k } ∧
        t.tamper.causes.boxNearFull = decide (k - 12 ≤ s.call.boxCount) ∧
        t.modem = (s.repliesTo n 0x30 [0, 0]).modem ∧ SameMoney s t ∧ t.line = s.line ∧ t.coin = s.coin ∧
        SameService s t ∧ SameClock s t) ∧
    (k < 200 ∨ 3000 < k ∨ k < s.call.boxCount + 12 →
      ∃ t, exec (.configSet n [4, h, l]) s = .next t ∧ t.beforeTests = (s.repliesTo n 0x30 [4, 0]).beforeTests))

/-- R158, R160: END is answered OK and closes the session; the end of the idle timer closes it with no frame and releases the
line at once; a reset's wait for YIELD ends with the release.  The reference polarity becomes none at the release of REPORT and
POLL (log entry 48), which empties the dial buffer (log entry 37). -/
def Obligations.SessionClosesAndReleases : Prop :=
  (∀ (s : State) (n : Byte), s.takesCommand n →
    ∃ t, exec (.endTurn n []) s = .next t ∧
      t.beforeTests = State.beforeTests
        (let u := s.repliesTo n 0x30 [0, 0]
         { u with centre := { u.centre with phase := .closing, idleTimer := none } })) ∧
  (∀ (s : State) (d : Nat), s.busy → s.line.phase = .data → s.centre.idleTimer = some d →
    ∃ t, exec .idleTimerExpiry s = .next t ∧
      t.beforeTests =
        ({ s with
          now := max s.now d
          centre := { s.centre with phase := .closing, idleTimer := none }
          line := s.line.releasedAt (max s.now d)
          arbiter := { s.arbiter with takeBack := s.arbiter.takeBack.released, yieldTimer := none }
          modem := ⟨none, [], none, s.modem.looks⟩
          setPort := s.setPort.notified .callPhase } : State).beforeTests) ∧
  (∀ (s : State) (d : Nat), s.busy → s.line.phase = .data → s.centre.resetYield = some d →
    ∃ t, exec .resetYieldExpiry s = .next t ∧
      t.beforeTests =
        ({ s with
          now := max s.now d
          centre := { s.centre with resetYield := none }
          line := s.line.releasedAt (max s.now d)
          arbiter := { s.arbiter with takeBack := s.arbiter.takeBack.released, yieldTimer := none }
          modem := ⟨none, [], none, s.modem.looks⟩
          setPort := s.setPort.notified .callPhase } : State).beforeTests)

/-- R143, R144, R145, R178, R185, R192: a byte of the data link is read from its eleven bits, and one wrong bit of its data, its
parity or its stop bit is a byte error (log entry 57 gives the levels of start and stop).  A frame with a payload of at most 80
bytes is received as it was sent, behind anything that is not the sync byte, and the receiver then waits for the next; a byte
error or a gap inside a frame, a length above 80 and a wrong check discard the frame, and the frames behind it are received.  A
set port request frame spells its request, every type and payload that spell one are listed, and a service port request frame
spells its request, so that the write of its bytes is that request's command: that it is so in every state is the model's choice
(log entry 23). -/
def Obligations.FramesAreReadAsTheyWereSent : Prop :=
  ((∀ b : Byte, itemOfBits (byteBits b) = .byte b ∧
     ∀ i, 1 ≤ i → i ≤ 10 → itemOfBits ((byteBits b).modify i not) = .error) ∧
   (∀ (noise : List LinkItem) (f : Frame) (rest : List LinkItem), (∀ x ∈ noise, x ≠ .byte 0xA7) → f.payload.length ≤ 80 →
     linkCommands (noise ++ f.encode.map .byte ++ rest) = f.command :: linkCommands rest ∧
     (∀ k, 0 < k → k < f.encode.length →
       linkCommands (noise ++ (f.encode.take k).map .byte ++ .error :: rest) = .badFrame :: linkCommands rest ∧
       linkCommands (noise ++ (f.encode.take k).map .byte ++ .gap :: rest) = .frameGapExpiry :: linkCommands rest) ∧
     (∀ check : List Byte, check.length = 2 → check ≠ be16 (crc16 f.body).toNat →
       linkCommands (noise ++ (0xA7 :: f.body ++ check).map .byte ++ rest) = .badFrame :: linkCommands rest)) ∧
   (∀ (t k n : Byte) (rest : List LinkItem), 80 < n.toNat →
     linkCommands (.byte 0xA7 :: .byte t :: .byte k :: .byte n :: rest) = .badFrame :: linkCommands rest) ∧
   (∀ noise : List LinkItem, (∀ x ∈ noise, x ≠ .byte 0xA7) → linkCommands noise = []) ∧
   (∀ (t k : Byte) (p : List Byte),
     (⟨t, k, p⟩ : Frame).command =
       if t = 0x10 then .greet k p else if t = 0x12 then .ack k p else if t = 0x15 then .reject k p
       else if t = 0x20 then .auditRead k p else if t = 0x21 then .queueRead k p else if t = 0x22 then .clockSet k p
       else if t = 0x23 then .serviceSet k p else if t = 0x24 then .configSet k p else if t = 0x25 then .stageClear k p
       else if t = 0x26 then .blockLoad k p else if t = 0x27 then .stageActivate k p else if t = 0x28 then .endTurn k p
       else .unknownFrameType t k p)) ∧
  ((∀ (t : Byte) (payload extra : List Byte), t ≠ 0 → payload.length < 256 →
     setFrame (setBytes t payload ++ extra) =
       (match setRequest t payload with
       | some c => .taken c
       | none => .refused t)) ∧
   (∀ (h l k d1 d0 w s2 s1 s0 : Byte) (d : Key),
     setRequest 1 [] = some .statusRead ∧ setRequest 2 [] = some .noticeRead ∧
     setRequest 3 [h, l] = some (.noticeClear (h ++ l)) ∧ setRequest 4 [h, l] = some (.noticeEnable (h ++ l)) ∧
     setRequest 5 [byteOf d.val] = some (.digit d) ∧ setRequest 6 [] = some .dialClear ∧
     setRequest 7 [] = some .followOn ∧
     setRequest 8 [d1, d0, w, s2, s1, s0] = some (.setPortClockSet (d1 ++ d0) w (s2 ++ s1 ++ s0)) ∧
     setRequest 9 [k] = some (.keypadFault k) ∧ (12 ≤ k.toNat → setRequest 5 [k] = none)) ∧
   (∀ (t : Byte) (payload : List Byte), setRequest t payload ≠ none →
     (t.toNat, payload.length) ∈ [(1, 0), (2, 0), (3, 2), (4, 2), (5, 1), (6, 0), (7, 0), (8, 6), (9, 1)])) ∧
  (∀ (s : State) (index : Fin 8) (code : Code) (i p : Byte), code.length = 6 →
    exec (.serviceWrite (ServiceFrame.login index code).encode) s = exec (.login index code) s ∧
    exec (.serviceWrite ServiceFrame.readTotals.encode) s = exec .readTotals s ∧
    exec (.serviceWrite (ServiceFrame.readHistory i).encode) s = exec (.readHistory i) s ∧
    exec (.serviceWrite (ServiceFrame.readEvents p).encode) s = exec (.readEvents p) s ∧
    exec (.serviceWrite ServiceFrame.closePeriod.encode) s = exec .closePeriod s ∧
    exec (.serviceWrite ServiceFrame.logout.encode) s = exec .logout s)

/-- R145: the register starts at 0xFFFF; each bit of each byte, the highest first, shifts it left by one and combines it with
0x1021 where its top bit differed from the data bit; the register after the last byte is the CRC, 0x29B1 over the nine digit
characters 1 to 9; on the link its high byte goes first. -/
def Obligations.CrcIsComputedBitByBit : Prop :=
  crc16 [] = 0xFFFF ∧
  (∀ (bytes : List Byte) (b : Byte),
    crc16 (bytes ++ [b]) =
      [7, 6, 5, 4, 3, 2, 1, 0].foldl
        (fun (r : BitVec 16) i => if r.getLsbD 15 ≠ b.getLsbD i then (r <<< 1) ^^^ 0x1021 else r <<< 1) (crc16 bytes)) ∧
  crc16 [0x31, 0x32, 0x33, 0x34, 0x35, 0x36, 0x37, 0x38, 0x39] = 0x29B1 ∧
  (∀ f : Frame, ∃ front, f.encode = front ++
    [(crc16 f.body).extractLsb' 8 8, (crc16 f.body).extractLsb' 0 8])

/-! ## Chapter 9: ledger store, power and clock -/

/-- R164, R165, R166, R168: the write in flight completes at its instant: its slot takes the check over what was captured and so
becomes valid.  The next head of the dirty list then starts: into the slot without the newest valid copy, under the next
generation, with the live contents captured and no check while the write runs.  This is said for each of the eight sections.
While a two-slot write runs, the section restores as before it; once complete, it restores what the write captured, and the
other slot keeps its copy.  In HOLDUP the drain goes on alike, and in OFF no write runs.  A section's contents stand as bytes in
the model's own order (log entry 56), and a record's creation instant is not captured (R130, R164). -/
def Obligations.WritesCompleteAndTheDrainGoesOn : Prop :=
  let completed (n : Nonvolatile) (w : SectionWrite) : Nonvolatile := match w.name with
    | .config => { n with config := n.config.endWrite ConfigSection.encode w.slot }
    | .image0 => { n with image0 := ⟨n.image0.contents, some (crc16 n.image0.contents.encode)⟩ }
    | .image1 => { n with image1 := ⟨n.image1.contents, some (crc16 n.image1.contents.encode)⟩ }
    | .lifetime => { n with lifetime := n.lifetime.endWrite Totals.encode w.slot }
    | .period => { n with period := n.period.endWrite Totals.encode w.slot }
    | .history => { n with history := n.history.endWrite historySection w.slot }
    | .call => { n with call := n.call.endWrite CallSection.encode w.slot }
    | .events => { n with events := n.events.endWrite EventsSection.encode w.slot }
  let started (s : State) (n : Nonvolatile) (name : Section) (now : Nat) : Nonvolatile × SectionWrite := match name with
    | .config => ({ n with config := n.config.startWrite ConfigSection.encode s.config },
        ⟨.config, n.config.target ConfigSection.encode, now + 8⟩)
    | .image0 => ({ n with image0 := ⟨s.image0, none⟩ }, ⟨.image0, .slot0, now + 30⟩)
    | .image1 => ({ n with image1 := ⟨s.image1, none⟩ }, ⟨.image1, .slot0, now + 30⟩)
    | .lifetime => ({ n with lifetime := n.lifetime.startWrite Totals.encode s.lifetime },
        ⟨.lifetime, n.lifetime.target Totals.encode, now + 6⟩)
    | .period => ({ n with period := n.period.startWrite Totals.encode s.period },
        ⟨.period, n.period.target Totals.encode, now + 6⟩)
    | .history => ({ n with history := n.history.startWrite historySection s.history },
        ⟨.history, n.history.target historySection, now + 6⟩)
    | .call => ({ n with call := n.call.startWrite CallSection.encode s.call },
        ⟨.call, n.call.target CallSection.encode, now + 6⟩)
    | .events =>
      let captured := { s.events with records := s.events.records.map fun r => { r with created := 0 } }
      ({ n with events := n.events.startWrite EventsSection.encode captured },
        ⟨.events, n.events.target EventsSection.encode, now + 6⟩)
  (∀ (α : Type) (bytes : α → List Byte) (t : TwoSlot α) (contents : α),
    let u := t.startWrite bytes contents
    let i := t.target bytes
    (t.newest bytes = none → i = .slot0 ∧ (u.slot i).generation = 0) ∧
    (∀ j, t.newest bytes = some j → i = j.other ∧ (u.slot i).generation = (t.slot j).generation + 1) ∧
    (u.slot i).contents = contents ∧ (u.slot i).check = none ∧ u.slot i.other = t.slot i.other ∧
    u.restored bytes = t.restored bytes ∧ (u.endWrite bytes i).restored bytes = some contents ∧
    ((u.endWrite bytes i).slot i).check = some (crc16 (be16 (u.slot i).generation.toNat ++ bytes contents)) ∧
    (u.endWrite bytes i).slot i.other = t.slot i.other) ∧
  (∀ (s : State) (w : SectionWrite), s.busy → s.ledger.writing = some w →
    let now := max s.now w.ends
    ∃ t, exec .sectionWriteComplete s = .next t ∧ t.beforeTests = ({ s with now := now } : State).beforeTests ∧
      (s.ledger.dirty = [] → t.ledger = ⟨[], none⟩ ∧ t.nv = completed s.nv w) ∧
      (∀ name rest, s.ledger.dirty = name :: rest →
        t.nv = (started s (completed s.nv w) name now).1 ∧
        t.ledger = ⟨rest, some (started s (completed s.nv w) name now).2⟩)) ∧
  (∀ (s : State) (w : SectionWrite), s.power.state = .holdup → s.power.returnPending = false →
    s.ledger.writing = some w →
    let now := max s.now w.ends
    (s.ledger.dirty = [] →
      exec .sectionWriteComplete s = .next { s with now := now, nv := completed s.nv w, ledger := ⟨[], none⟩ }) ∧
    (∀ name rest, s.ledger.dirty = name :: rest →
      exec .sectionWriteComplete s = .next
        { s with
          now := now
          nv := (started s (completed s.nv w) name now).1
          ledger := ⟨rest, some (started s (completed s.nv w) name now).2⟩ })) ∧
  (∀ s : State, s.power.state = .off → exec .sectionWriteComplete s = .next s)

/-- R85, R107, R119, R162, R171, R172: a power warning enters HOLDUP at once from ACTIVE and STANDBY, with the coin path
emptied, the timers stopped, the relay open and nothing held in a section changed; while the restore sequence runs it is held
back.  In HOLDUP a clear warning runs 500 ms, a renewed one stops them, and their end waits for the drain.  When the supply
falls, the clock, the dirty list and the write in flight are lost.  That a renewed warning cancels a return that waits (log
entry 10), and that the supply may fall in ACTIVE and STANDBY too (log entry 36), is the model's reading. -/
def Obligations.WarningEntersHoldupAndLossEntersOff : Prop :=
  (∀ s : State, s.running = true → s.power.restoring = false →
    ∃ t, exec .powerWarningAssert s = .next t ∧
      t.power = { s.power with state := .holdup, warningLevel := true, clearTimer := none, returnPending := false } ∧
      SameMoney s t ∧ SameStore s t ∧ t.history = s.history ∧ t.events = s.events ∧ t.clock = s.clock ∧
      t.elapsed = s.elapsed ∧ t.setPort = s.setPort ∧ t.coin.entry = .empty ∧ t.coin.measureTimer = none ∧
      t.coin.transit = none ∧ t.coin.chute = [] ∧ t.coin.returnWait = [] ∧ t.credit.mirrorEscrow = 0 ∧
      t.credit.mirrorSum = 0 ∧ t.credit.inFlight = none ∧ t.credit.retryTimer = none ∧
      t.rating = { s.rating with periodTimer := none, warningTimer := none } ∧ t.relayClosed = false ∧
      t.line.dialToneTimer = none ∧ t.line.interdigitTimer = none ∧ t.line.digitTimer = none ∧ t.line.pauseTimer = none ∧
      t.line.answerTimer = none ∧ t.line.timedAnswerTimer = none ∧ t.line.clearTimer = none ∧ t.line.recallTimer = none ∧
      t.line.guardTimer = none ∧ t.line.abandonTimer = none ∧ t.line.silenceTimer = none ∧
      t.arbiter = { s.arbiter with yieldTimer := none, holdOff := none, windowTimer := none, spacing := none } ∧
      t.tamper = { s.tamper with shockCount := 0, shockTimer := none, shockEnabled := false, cordRestore := none } ∧
      t.centre.phase = .idle ∧
      t.centre.backoff = none ∧ t.centre.routineTimer = none ∧ t.modem.silent ∧ t.service.sessionTimer = none ∧
      t.service.lockoutTimer = none ∧ t.service.closing = false ∧ t.attention = false) ∧
  (∀ s : State, s.busy → s.power.restoring = true → s.power.held = [] →
    ∃ t, exec .powerWarningAssert s = .next t ∧
      t.beforeTests =
        ({ s with power := { s.power with warningLevel := true, held := [.warning] } } : State).beforeTests) ∧
  (∀ s : State, s.running = true →
    exec .powerWarningClear s = .next { s with power := { s.power with warningLevel := false } }) ∧
  (∀ s : State, s.power.state = .holdup →
    exec .powerWarningAssert s =
      .next { s with power := { s.power with warningLevel := true, clearTimer := none, returnPending := false } } ∧
    exec .powerWarningClear s =
      .next { s with power := { s.power with warningLevel := false, clearTimer := some (s.now + 500) } }) ∧
  (∀ (s : State) (d : Nat), s.power.state = .holdup → s.power.clearTimer = some d → s.ledger.writing ≠ none →
    exec .warningClearExpiry s =
      .next { s with now := max s.now d, power := { s.power with clearTimer := none, returnPending := true } }) ∧
  (∀ s : State, s.power.state ≠ .off →
    exec .supplyLoss s = .next
      { s with
        power := ⟨.off, none, s.power.warningLevel, false, false, []⟩
        clock := ⟨0, 0, 0, false, s.now⟩
        ledger := ⟨[], none⟩ })

/-- R130, R137, R165, R172, R173, R174, R175, R187: a power return with CONFIG lost is a cold start, whose first write takes
CONFIG into slot 0 with generation 0.  With CONFIG found, the restore sequence runs: each section is its newest valid copy, a
session found OPEN is ended with reason POWER, the causes are built again, POWER_RETURN is handed to the queue and no record is
SENDING.  The clock is lost from OFF and kept from HOLDUP.  The end of the sequence starts a restored lockout's 15 min afresh
(log entry 29) and takes a warning that was held back. -/
def Obligations.PowerReturnRestoresOrStartsCold : Prop :=
  (∀ s : State, s.power.state = .off → s.nv.config.restored ConfigSection.encode = none →
    ∃ t, exec .powerReturnFromOff s = .next t ∧ t.config = .cold ∧ t.image0 = .cold ∧ t.image1 = .cold ∧
      t.lifetime = .zero ∧ t.period = .zero ∧ t.history = [] ∧ t.call = .cold ∧ t.events = ⟨[.coldStart], 1, 0⟩ ∧
      t.elapsed = 0 ∧ t.tamper.causes = ⟨false, false, true, false, false⟩ ∧ t.serviceState = .freeOnly ∧
      t.clock = ⟨0, 0, 0, false, s.now⟩ ∧ t.setPort.pendingSet = maskAdd (maskAdd 0 Notice.service.index)
        Notice.clockInvalid.index ∧ t.setPort.enableSet = 0 ∧ t.setPort.lastReply = none ∧ t.power.state = .standby ∧
      t.power.restoring = false ∧ t.ledger.dirty = [.lifetime, .period, .history, .call, .events, .image0, .image1] ∧
      t.ledger.writing = some ⟨.config, .slot0, s.now + 8⟩ ∧
      t.nv = { s.nv with config := { s.nv.config with slot0 := ⟨0, .cold, none⟩ } }) ∧
  (∀ (s : State) (c : ConfigSection) (k : CallSection) (life per : Totals), s.power.state = .off →
    s.nv.config.restored ConfigSection.encode = some c → c.activationPending = false →
    s.nv.call.restored CallSection.encode = some k → s.nv.lifetime.restored Totals.encode = some life →
    s.nv.period.restored Totals.encode = some per →
    ∃ t, exec .powerReturnFromOff s = .next t ∧ t.power.restoring = true ∧
      t.config = { c with activePresent := t.config.activePresent } ∧ t.clock = ⟨0, 0, 0, false, s.now⟩ ∧
      (s.nv.imageValid c.activeSlot = false → t.config.activePresent = false) ∧
      t.tamper.causes.noImage = (!t.config.activePresent) ∧ t.tamper.causes.cordCut = false ∧
      t.tamper.causes.lineFault = false ∧ t.elapsed = 0 ∧ t.setPort.lastReply = none ∧ t.setPort.enableSet = 0 ∧
      t.isPending .service = true ∧ t.isPending .clockInvalid = true ∧ t.service.session = none ∧
      (∀ r ∈ t.events.records, r.state ≠ .sending ∧ r.created = 0) ∧
      (k.sessionOpen = false → t.call = k ∧ t.lifetime = life ∧ t.period = per ∧
        ∃ r ∈ t.events.records, r.pair = .powerReturn ∧ r.state = .pending ∧ r.detail = .power false 0) ∧
      (k.sessionOpen = true →
        t.call = { k with sessionOpen := false, escrow := [], credit := 0, queue := k.queue ++ refunds k.escrow } ∧
        t.lifetime = life.sessionEnds k ∧ t.period = per.sessionEnds k ∧ t.line.lastEnd = some .power ∧
        t.isPending .callPhase = true ∧
        ∃ r ∈ t.events.records, r.pair = .powerReturn ∧ r.state = .pending ∧
          r.detail = .power true k.escrow.length)) ∧
  (∀ (s : State) (c : ConfigSection) (d : Nat), s.power.state = .holdup → s.power.clearTimer = some d →
    s.ledger = ⟨[], none⟩ → s.nv.config.restored ConfigSection.encode = some c →
    ∃ t, exec .warningClearExpiry s = .next t ∧ t.power.restoring = true ∧ t.running = true ∧ t.clock = s.clock ∧
      t.elapsed = 0) ∧
  (∀ s : State, s.busy → s.power.restoring = true → s.config.lockout = true → s.power.held = [] →
    ∃ t, exec .restoreSequenceEnd s = .next t ∧
      t.beforeTests =
        ({ s with
          power := { s.power with restoring := false }
          service := { s.service with lockoutTimer := some (s.now + 900000) } } : State).beforeTests) ∧
  (∀ s : State, s.running = true → s.power.restoring = true → s.power.held = [.warning] → s.power.warningLevel = true →
    ∃ t, exec .restoreSequenceEnd s = .next t ∧ t.power.state = .holdup ∧ t.power.restoring = false ∧ SameMoney s t ∧
      SameStore s t ∧ t.events = s.events)

/-- R130, R142, R175: a second passes in ACTIVE, STANDBY and HOLDUP: the second of the day rises, or begins a new day, the
elapsed-time base rises to its ceiling, and a valid clock that reaches the daily report minute with a record PENDING sets daily
due, but not in HOLDUP.  In OFF no second passes. -/
def Obligations.ClockCountsSeconds : Prop :=
  let instant (s : State) : Nat := max s.now (s.clock.secondStart + 1000)
  let next (s : State) : Clock :=
    if s.clock.second < 86399 then ⟨s.clock.dayCount, s.clock.day, s.clock.second + 1, s.clock.valid, instant s⟩
    else ⟨if s.clock.dayCount < 65535 then s.clock.dayCount + 1 else 0,
      if s.clock.day < 6 then s.clock.day + 1 else 0, 0, s.clock.valid, instant s⟩
  (∀ s : State, s.serving →
    let now := instant s
    let ticked : Clock := next s
    ∃ t, exec .clockSecond s = .next t ∧ t.clock = ticked ∧
      t.beforeTests =
        ({ s with
          now := now
          clock := ticked
          elapsed := min (s.elapsed + 1) 4294967295
          centre := { s.centre with
            dailyDue := s.centre.dailyDue || (s.clock.valid && decide (0 < s.pendingCount) &&
              decide (s.config.dailyTime.map (· * 60) = some ticked.second)) } } : State).beforeTests) ∧
  (∀ s : State, s.power.state = .holdup →
    exec .clockSecond s = .next
      { s with now := instant s, clock := next s, elapsed := min (s.elapsed + 1) 4294967295 }) ∧
  (∀ s : State, s.power.state = .off → exec .clockSecond s = .next s)

/-- R42: a step that begins and ends with the part running keeps both equalities between the lifetime totals and the session
money, as long as no lifetime total has saturated. -/
def Obligations.RunningStepsKeepTheMoneyEqualities : Prop :=
  ∀ (c : Instr) (s t : State), s.running = true → s.MoneyAgrees → exec c s = .next t → t.running = true →
    t.lifetime.unsaturated → t.MoneyAgrees

/-- R167, R168: a step keeps every section whose live contents differ from its newest valid copy on the dirty list or in the
write in flight, and the dirty list without repeats. -/
def Obligations.StepsKeepTheLedgerMirrored : Prop :=
  ∀ s t : State, s.DirtyOnce → s.LedgerMirrors → step s = .next t → t.DirtyOnce ∧ t.LedgerMirrors

/-- R131, R132, R63: a step keeps the event queue at 20 records or fewer with no two unreported records of one pair, in live
state and in nonvolatile memory, and it keeps every tariff image in the canonical form of memory (the form is the model's, log
entry 42). -/
def Obligations.StepsKeepQueueAndImagesInOrder : Prop :=
  (∀ s t : State, s.EventsInOrder → step s = .next t → t.EventsInOrder) ∧
  (∀ s t : State, s.ImagesCanonical → step s = .next t → t.ImagesCanonical)

/-- R11, R14, R23, R24, R90, R92, R99, R101, R104, R109, R185, R190: a step keeps the column at 8 coins or fewer with the chute
mirror right, every list within its bound, and the seizure purpose equal to the line owner, with the loop closed only for an
owner, a seizure up to its answer wait only for USER or REPORT, and a call only for USER. -/
def Obligations.StepsKeepColumnListsAndLoop : Prop :=
  (∀ s t : State, s.ColumnFits → step s = .next t → t.ColumnFits) ∧
  (∀ s t : State, s.ListsBounded → step s = .next t → t.ListsBounded) ∧
  (∀ s t : State, s.LoopHasOwner → step s = .next t → t.LoopHasOwner)

/-- R168, R169, R170, R171, R172: after every command that leaves the part running it is ACTIVE exactly when a condition of R170
holds.  A command that leaves it in HOLDUP changes nothing held in a section.  In OFF a command other than the power return
changes no more than the pin records of the beams and of the reset line (log entry 21). -/
def Obligations.PowerStateGovernsEveryCommand : Prop :=
  (∀ (c : Instr) (s t : State), (s.running = true → s.isActive = s.holdsActive) → exec c s = .next t → t.running = true →
    t.isActive = t.holdsActive) ∧
  (∀ (c : Instr) (s t : State), s.power.state = .holdup → exec c s = .next t → t.power.state = .holdup →
    SameMoney s t ∧ SameStore s t ∧ t.history = s.history ∧ t.events = s.events ∧
      ∀ n ∈ t.ledger.dirty, n ∈ s.ledger.dirty) ∧
  (∀ (c : Instr) (s t : State), s.power.state = .off → c ≠ .powerReturnFromOff → exec c s = .next t →
    t = { s with
      coin := { s.coin with beams := t.coin.beams }
      setPort := { s.setPort with resetLow := t.setPort.resetLow } })

/-! ## Chapter 10: set port -/

/-- R123, R176, R178, R179, R180, R182: a transaction shifts out the last reply and takes its request: STATUS and NOTICES change
nothing but the reply, NOTICE_CLEAR removes the notices it names and with SERVICE named the latches, NOTICE_ENABLE replaces the
enable set, CLOCK_SET sets an invalid clock, KEYPAD_FAULT hands over an occurrence, and a frame that fails a check is refused.
A request that finds a valid clock and a value out of range is refused with SET or RANGE, which of them left open (log entry 5).
The five bits of a notice mask that name no notice are passed over (log entry 22).  While the restore sequence runs and in
HOLDUP the reply is coded POWER and no request is taken, whatever the level of the reset line (log entry 53).  After every
command the attention line is asserted exactly while the part runs and a pending notice is enabled, and a NOTICE_ENABLE or a
NOTICE_CLEAR moves it at once. -/
def Obligations.SetPortTakesOneRequestPerTransaction : Prop :=
  (∀ (s : State) (mask : Half) (key : Byte), s.serving → s.takesRequest →
    (∃ t, exec .statusRead s = .next t ∧
      t.beforeTests =
        ({ s with setPort := s.setPort.answers ⟨1, .status, none, s.statusBytes⟩ } : State).beforeTests) ∧
    (∃ t, exec .noticeRead s = .next t ∧
      t.beforeTests =
        ({ s with setPort := s.setPort.answers ⟨2, .notices, none, s.noticeBytes⟩ } : State).beforeTests) ∧
    (∃ t, exec (.noticeClear mask) s = .next t ∧
      t.beforeTests =
        ({ s with
          setPort := { (s.setPort.answers ⟨3, .taken, none, []⟩) with
            pendingSet := s.setPort.pendingSet &&& ~~~ mask.setWidth 11 }
          events := if mask.getLsbD 4 then { s.events with latches := 0 } else s.events } : State).beforeTests ∧
      (t.attention = true ↔
        ∃ n : Notice, s.isPending n = true ∧ mask.getLsbD n.index = false ∧ maskHas s.setPort.enableSet n.index = true)) ∧
    (∃ t, exec (.noticeEnable mask) s = .next t ∧
      t.beforeTests =
        ({ s with
          setPort := { (s.setPort.answers ⟨4, .taken, none, []⟩) with enableSet := mask.setWidth 11 } } :
          State).beforeTests ∧
      (t.attention = true ↔ ∃ n : Notice, s.isPending n = true ∧ mask.getLsbD n.index = true)) ∧
    (s.lineTaken ∨ s.unclaimed →
      ∃ t, exec (.keypadFault key) s = .next t ∧
        t.beforeTests =
          ({ s with
            setPort := s.setPort.answers ⟨9, .taken, none, []⟩
            events := (s.occur .keypad (.number key.toNat)).events } : State).beforeTests)) ∧
  (∀ (c : Instr) (s t : State), exec c s = .next t →
    (t.attention = true ↔
      t.running = true ∧ ∃ n : Notice, t.isPending n = true ∧ maskHas t.setPort.enableSet n.index = true)) ∧
  (∀ (s : State) (t0 : Byte) (bytes : List Byte), s.serving → s.takesRequest → t0 ≠ 0 →
    ∃ t, exec (.setFrameRefused (t0 :: bytes)) s = .next t ∧
      t.beforeTests =
        ({ s with setPort := s.setPort.answers ⟨t0, .refused, some .format, []⟩ } : State).beforeTests) ∧
  (∀ (s : State) (dayCount : Half) (day : Byte) (second : BitVec 24), s.serving → s.takesRequest →
    ∃ t, exec (.setPortClockSet dayCount day second) s = .next t ∧
      (s.clock.valid = false → day.toNat ≤ 6 → second.toNat ≤ 86399 →
        t.beforeTests =
          ({ s with
            clock := ⟨dayCount.toNat, day.toNat, second.toNat, true, s.now⟩
            setPort := s.setPort.answers ⟨8, .taken, none, []⟩ } : State).beforeTests) ∧
      (s.clock.valid = false → 6 < day.toNat ∨ 86399 < second.toNat →
        t.beforeTests =
          ({ s with setPort := s.setPort.answers ⟨8, .refused, some .range, []⟩ } : State).beforeTests) ∧
      (s.clock.valid = true → day.toNat ≤ 6 → second.toNat ≤ 86399 →
        t.beforeTests =
          ({ s with setPort := s.setPort.answers ⟨8, .refused, some .set, []⟩ } : State).beforeTests) ∧
      (s.clock.valid = true → 6 < day.toNat ∨ 86399 < second.toNat →
        ∃ r, (r = .set ∨ r = .range) ∧
          t.beforeTests =
            ({ s with setPort := s.setPort.answers ⟨8, .refused, some r, []⟩ } : State).beforeTests)) ∧
  (∀ (s : State) (c : Instr) (mask dayCount : Half) (key : Key) (code day : Byte) (second : BitVec 24)
    (bytes : List Byte),
    c ∈ [Instr.statusRead, .noticeRead, .noticeClear mask, .noticeEnable mask, .digit key, .dialClear, .followOn,
      .setPortClockSet dayCount day second, .keypadFault code, .setFrameRefused bytes] →
    ((s.running = true ∧ s.power.restoring = true) ∨ s.power.state = .holdup →
      exec c s = .next { s with setPort := { s.setPort with shifted := .power } }) ∧
    (s.running = true → s.power.restoring = false → s.setPort.resetLow = true →
      exec c s = .next { s with setPort := { s.setPort with shifted := .noReply } }))

/-- R108, R119, R160, R163, R170, R183, R188: a qualified reset clears the set port's own state.  With no session of any kind
it changes nothing else.  With one, it also empties the dial buffer, closes an OPEN forced window, stops the yield limit timer
and leaves no resend counted, by the reset columns of the line unit, the line arbiter and the centre link (log entry 43): an
OPEN USER session ends with reason RESET; a running centre session is suspended and its line taken back (the reference polarity
becoming none at a release, log entry 48); an open collector session ends, and the part is in STANDBY where nothing else holds
it ACTIVE.  A line still low from the last reset is no second one.  In HOLDUP and OFF a reset is not taken, which leaves no
trace even of the line's level (log entry 35), and while the restore sequence runs it is held back.  The release of the line
lets transactions be taken again. -/
def Obligations.ResetLineResetsTheSetPortAndEndsSessions : Prop :=
  let cleared (p : SetPort) : SetPort := { p with pendingSet := 0, enableSet := 0, lastReply := none, resetLow := true }
  let emptied (l : LineUnit) : LineUnit :=
    { l with buffer := [], resolution := .unresolved, endOfDialling := false, cursor := 0 }
  let closed (a : LineArbiter) : LineArbiter :=
    { a with
      yieldTimer := none
      window := if a.window = .opened then .closed else a.window
      windowTimer := if a.window = .opened then none else a.windowTimer }
  (∀ s : State, s.serving → s.setPort.resetLow = false → s.power.restoring = false → s.line.session ≠ .opened →
    s.centre.phase = .idle → s.service.session = none →
    ∃ t, exec .resetLine s = .next t ∧
      t.beforeTests = ({ s with setPort := cleared s.setPort } : State).beforeTests ∧ t.attention = false) ∧
  (∀ s : State, s.userOnLine → s.setPort.resetLow = false → s.power.restoring = false → s.centre.phase = .idle →
    s.service.session = none →
    ∃ t, exec .resetLine s = .next t ∧ SessionEnded s t .reset s.now ∧ t.setPort.enableSet = 0 ∧
      t.setPort.lastReply = none ∧ t.setPort.resetLow = true ∧ t.attention = false ∧
      t.line.session = (if s.line.hook = .offHook then .spent else .none) ∧ t.arbiter.yieldTimer = none ∧
      t.centre.resends = 0 ∧ SameStore s t ∧ SameHousing s t ∧ SameService s t ∧ SameClock s t) ∧
  (∀ s : State, s.busy → s.setPort.resetLow = false → s.power.restoring = false → s.line.session ≠ .opened →
    s.service.session = none → s.arbiter.centreOwns = true → s.arbiter.takeBack = .none → s.centre.phase ≠ .idle →
    s.centre.phase ≠ .suspended →
    ∃ t, exec .resetLine s = .next t ∧ t.centre.phase = .suspended ∧ t.centre.inFlight = none ∧
      t.centre.resume = (s.centre.resume || !s.centre.uploadDone) ∧ t.arbiter.takeBack = .releaseWait .reset ∧
      t.arbiter.owner = s.arbiter.owner ∧ t.centre.resends = 0 ∧ t.arbiter.window ≠ .opened ∧
      t.arbiter.yieldTimer = none ∧ t.setPort.enableSet = 0 ∧ t.setPort.lastReply = none ∧ t.attention = false ∧
      SameMoney s t ∧ SameStore s t ∧ t.tamper = s.tamper ∧ SameService s t ∧ SameClock s t ∧
      (s.line.phase = .data → t.centre.resetYield = some (s.now + 200) ∧ t.line = emptied s.line) ∧
      (s.line.phase = .seizing ∨ s.line.phase = .dialling ∨ s.line.phase = .awaitAnswer →
        t.line = emptied (s.line.releasedAt s.now) ∧ t.modem.silent) ∧
      (s.line.phase = .releasing → t.line = emptied s.line ∧ t.modem = s.modem)) ∧
  (∀ (s : State) (i : Fin 8), s.serving → s.setPort.resetLow = false → s.power.restoring = false →
    s.line.session ≠ .opened → s.centre.phase = .idle → s.service.session = some i → s.service.rx = [] →
    s.tamper.coinDoor.level = .closed → s.tamper.box.level = .closed →
    ∃ t, exec .resetLine s = .next t ∧
      t.beforeTests =
        ({ s with
          setPort := cleared s.setPort
          line := emptied s.line
          arbiter := closed s.arbiter
          centre := { s.centre with resends := 0 }
          service := { s.service with session := none, sessionTimer := none }
          tamper := { s.tamper with collectorOpen := false, swapRemoved := false } } :
          State).settledPower.beforeTests) ∧
  (∀ s : State, s.serving → s.setPort.resetLow = false → s.power.restoring = true →
    ∃ t, exec .resetLine s = .next t ∧
      t.beforeTests =
        ({ s with
          power := { s.power with held := s.power.held ++ [.reset] }
          setPort := { s.setPort with resetLow := true } } : State).beforeTests) ∧
  (∀ s : State, s.serving → s.setPort.resetLow = true →
    ∃ t, exec .resetLine s = .next t ∧ t.beforeTests = s.beforeTests) ∧
  (∀ s : State, s.running = false → exec .resetLine s = .next s) ∧
  (∀ s : State, exec .resetLineRelease s = .next { s with setPort := { s.setPort with resetLow := false } })

/-! ## Chapter 11: service port -/

/-- R185, R186: a write goes to the free receive slot, waits there while both transmit slots are full, and is dropped with the
overflow flag set when both receive slots are full; a frame that fails a check is answered FORMAT with its type, and like every
request restarts the 20 min of an open session (R186, log entry 30).  A read returns the oldest transmit slot with the overflow
flag, which it clears, or EMPTY; one that finds no reply while a request waits or a CLOSE_PERIOD is held keeps the clock line
low.  In HOLDUP, in OFF and while the restore sequence runs neither is answered.  An empty write is a malformed frame of type 0
(log entry 30). -/
def Obligations.ServiceSlotsQueueFramesAndReplies : Prop :=
  (∀ (s : State) (c : Instr) (bytes : List Byte), s.serving → s.power.restoring = false → s.service.readHeld = false →
    c = .serviceWrite bytes ∨ c = .serviceFrameRefused bytes →
    (2 ≤ s.service.rx.length →
      ∃ t, exec c s = .next t ∧
        t.beforeTests = ({ s with service := { s.service with overflow := true } } : State).beforeTests) ∧
    (s.service.rx.length < 2 → 2 ≤ s.service.tx.length →
      ∃ f t, exec c s = .next t ∧
        t.beforeTests =
          ({ s with service := { s.service with rx := s.service.rx ++ [f] } } : State).beforeTests ∧
        (c = .serviceWrite bytes → f = serviceFrame bytes) ∧
        (c = .serviceFrameRefused bytes → f = .malformed (bytes.headD 0)))) ∧
  (∀ (s : State) (t0 : Byte) (bytes : List Byte), s.serving → s.power.restoring = false → s.service.readHeld = false →
    s.service.rx = [] → s.service.tx.length < 2 →
    ∃ t, exec (.serviceFrameRefused (t0 :: bytes)) s = .next t ∧
      t.beforeTests =
        ({ s with
          service := { s.service with
            sessionTimer := if s.service.session = none then s.service.sessionTimer else some (s.now + 1200000)
            tx := s.service.tx ++ [⟨t0, .format, []⟩] } } : State).beforeTests) ∧
  (∀ (s : State) (r : ServiceReply) (rest : List ServiceReply), s.serving → s.power.restoring = false → s.service.rx = [] →
    s.service.tx = r :: rest →
    ∃ t, exec .serviceRead s = .next t ∧
      t.beforeTests =
        ({ s with
          service := { s.service with
            tx := rest, overflow := false, readHeld := false, lastRead := some ⟨r, s.service.overflow⟩ } } :
          State).beforeTests) ∧
  (∀ s : State, s.settled → s.power.restoring = false → s.service.tx = [] →
    (s.service.rx = [] → s.service.closing = false →
      ∃ t, exec .serviceRead s = .next t ∧
        t.beforeTests =
          ({ s with
            service := { s.service with
              overflow := false, readHeld := false, lastRead := some ⟨⟨0, .empty, []⟩, s.service.overflow⟩ } } :
            State).beforeTests) ∧
    (s.service.rx ≠ [] ∨ s.service.closing = true →
      ∃ t, exec .serviceRead s = .next t ∧
        t.beforeTests = ({ s with service := { s.service with readHeld := true } } : State).beforeTests)) ∧
  (∀ (s : State) (bytes : List Byte), s.running = false ∨ s.power.restoring = true →
    exec (.serviceWrite bytes) s = .next s ∧ exec (.serviceFrameRefused bytes) s = .next s ∧ exec .serviceRead s = .next s)

/-- R126, R127, R170, R186, R187, R188, R189: without a session a LOGIN is answered LOCKED under the lockout, opens the session
on a match and else is DENIED, the third failure in a row setting the lockout; every other request is refused NO_SESSION.  With
a session each request restarts the 20 min, one refused FORMAT too (log entry 30): LOGIN is BUSY, the reads are answered, and
LOGOUT ends the session, as the timer's end does.  The end of the lockout timer clears the lockout.  A login makes a part in
STANDBY ACTIVE, and the session's end lets it return where nothing else holds it ACTIVE (R170).  The bits of a record as sent
that sections 12.1 and 12.5 do not name are 0 (log entry 63). -/
def Obligations.CollectorLogsInReadsAndLogsOut : Prop :=
  (∀ (s : State), s.serving → s.power.restoring = false → s.service.readHeld = false → s.service.rx = [] →
    s.service.tx.length < 2 → s.service.session = none →
    (∀ (i : Fin 8) (code : Code), s.lineTaken ∨ s.unclaimed ∨ s.config.failedLogins < 2 →
      ∃ t, exec (.login i code) s = .next t ∧
        t.beforeTests = State.beforeTests
          (if s.config.lockout then
            { s with service := { s.service with tx := s.service.tx ++ [⟨1, .locked, []⟩] } }
          else if s.config.collectors.get i = some code then
            { s with
              config := { s.config with failedLogins := 0 }
              tamper := { s.tamper with collectorOpen := true, swapRemoved := false, swapObserved := false }
              service := { s.service with
                session := some i, sessionTimer := some (s.now + 1200000), tx := s.service.tx ++ [⟨1, .ok, []⟩] }
              power := { s.power with state := .active } }
          else if s.config.failedLogins < 2 then
            { s with
              config := { s.config with failedLogins := s.config.failedLogins + 1 }
              service := { s.service with tx := s.service.tx ++ [⟨1, .denied, []⟩] } }
          else
            { s with
              config := { s.config with failedLogins := 0, lockout := true }
              events := (s.occur .authFail .absent).events
              service := { s.service with
                lockoutTimer := some (s.now + 900000), tx := s.service.tx ++ [⟨1, .denied, []⟩] } })) ∧
    (∀ (c : Instr) (k : Byte) (p : Byte),
      (c = .readTotals ∧ k = 2) ∨ (c = .readHistory p ∧ k = 3) ∨ (c = .readEvents p ∧ k = 4) ∨ (c = .closePeriod ∧ k = 5) ∨
        (c = .logout ∧ k = 6) →
      ∃ t, exec c s = .next t ∧
        t.beforeTests =
          ({ s with service := { s.service with tx := s.service.tx ++ [⟨k, .noSession, []⟩] } } :
            State).beforeTests)) ∧
  (∀ (s : State) (i : Fin 8) (c : Instr) (r : ServiceReply) (j : Fin 8) (code : Code) (p : Byte), s.serving →
    s.power.restoring = false → s.service.readHeld = false → s.service.rx = [] → s.service.tx.length < 2 →
    s.service.session = some i →
    (c = .login j code ∧ r = ⟨1, .busy, []⟩) ∨ (c = .readTotals ∧ r = ⟨2, .totals, s.totalsBytes⟩) ∨
      (c = .readHistory p ∧ p.toNat ≤ 3 ∧ r = ⟨3, .history, s.historyBytes p.toNat⟩) ∨
      (c = .readHistory p ∧ 3 < p.toNat ∧ r = ⟨3, .range, []⟩) ∨
      (c = .readEvents p ∧ r = ⟨4, .events, recordsFrom s.events.records p 2⟩) →
    ∃ t, exec c s = .next t ∧
      t.beforeTests =
        ({ s with
          service := { s.service with
            sessionTimer := some (s.now + 1200000), tx := s.service.tx ++ [r] } } : State).beforeTests) ∧
  (∀ (s : State) (i : Fin 8) (d : Nat), s.serving → s.power.restoring = false → s.service.readHeld = false →
    s.service.rx = [] → s.service.tx.length < 2 → s.service.session = some i → s.tamper.coinDoor.level = .closed →
    s.tamper.box.level = .closed →
    (∃ t, exec .logout s = .next t ∧
      t.beforeTests =
        ({ s with
          service := { s.service with
            session := none, sessionTimer := none, tx := s.service.tx ++ [⟨6, .ok, []⟩] }
          tamper := { s.tamper with collectorOpen := false, swapRemoved := false } } :
          State).settledPower.beforeTests) ∧
    (s.service.sessionTimer = some d →
      ∃ t, exec .sessionTimerExpiry s = .next t ∧
        t.beforeTests =
          ({ s with
            now := max s.now d
            service := { s.service with session := none, sessionTimer := none }
            tamper := { s.tamper with collectorOpen := false, swapRemoved := false } } :
            State).settledPower.beforeTests)) ∧
  (∀ s : State, s.tamper.coinDoor.level = .opened → s.tamper.box.level = .closed →
    s.endSession.events = (s.takeEdge .coinDoor .opened).events ∧
    maskHas s.endSession.events.latches 0 = true) ∧
  (∀ (s : State) (d : Nat), s.serving → s.service.lockoutTimer = some d →
    ∃ t, exec .lockoutExpiry s = .next t ∧
      t.beforeTests =
        ({ s with
          now := max s.now d
          config := { s.config with lockout := false }
          service := { s.service with lockoutTimer := none } } : State).beforeTests)

/-- R40, R126, R190: CLOSE_PERIOD with a session is refused BUSY while the USER session is OPEN or the release queue is not
empty, held while PERIOD or HISTORY is dirty or being written, and else carried out: the new record is the newest of four, the
period totals are 0, and an observed swap sets the box count to 0.  A held one is carried out as the last write completes.
With no session it is refused NO_SESSION, in STANDBY too.  The bits of the close time that R192 does not name are 0 (log entry
63). -/
def Obligations.ClosePeriodIsRefusedHeldOrCarriedOut : Prop :=
  (∀ s : State, s.serving → s.power.restoring = false → s.service.readHeld = false → s.service.rx = [] →
    s.service.tx.length < 2 → s.service.session = none →
    ∃ t, exec .closePeriod s = .next t ∧
      t.beforeTests =
        ({ s with service := { s.service with tx := s.service.tx ++ [⟨5, .noSession, []⟩] } } : State).beforeTests) ∧
  (∀ (s : State) (i : Fin 8), s.serving → s.power.restoring = false → s.service.readHeld = false → s.service.rx = [] →
    s.service.tx.length < 2 → s.service.session = some i →
    (s.call.sessionOpen = true ∨ s.call.queue ≠ [] →
      ∃ t, exec .closePeriod s = .next t ∧
        t.beforeTests =
          ({ s with
            service := { s.service with
              sessionTimer := some (s.now + 1200000), tx := s.service.tx ++ [⟨5, .busy, []⟩] } } :
            State).beforeTests) ∧
    (s.call.sessionOpen = false → s.call.queue = [] → s.sectionBusy .period = true ∨ s.sectionBusy .history = true →
      ∃ t, exec .closePeriod s = .next t ∧
        t.beforeTests =
          ({ s with
            service := { s.service with closing := true, sessionTimer := some (s.now + 1200000) } } :
            State).beforeTests) ∧
    (s.call.sessionOpen = false → s.call.queue = [] → s.sectionBusy .period = false → s.sectionBusy .history = false →
      let record : HistoryRecord := ⟨s.timestamp, i, s.period, s.tamper.swapObserved⟩
      ∃ t, exec .closePeriod s = .next t ∧ t.history = (record :: s.history).take 4 ∧ t.period = .zero ∧
        t.lifetime = s.lifetime ∧
        t.call = (if s.tamper.swapObserved then { s.call with boxCount := 0 } else s.call) ∧
        t.tamper.swapObserved = false ∧
        t.tamper.causes.boxNearFull =
          (if s.tamper.swapObserved then decide (s.config.boxCapacity - 12 ≤ 0) else s.tamper.causes.boxNearFull) ∧
        t.service = { s.service with
          sessionTimer := some (s.now + 1200000), tx := s.service.tx ++ [⟨5, .closed, record.encode⟩] } ∧
        (t.history ≠ s.history → t.sectionBusy .history = true) ∧ (t.period ≠ s.period → t.sectionBusy .period = true) ∧
        SameStore s t ∧ SameClock s t ∧ t.coin = s.coin)) ∧
  (∀ (s : State) (i : Fin 8) (w : SectionWrite), s.settled → s.service.closing = true →
    s.service.rx = [] → s.service.readHeld = false → s.service.session = some i → s.call.sessionOpen = false →
    s.call.queue = [] → s.ledger = ⟨[], some w⟩ →
    let record : HistoryRecord := ⟨s.timestamp, i, s.period, s.tamper.swapObserved⟩
    ∃ t, exec .sectionWriteComplete s = .next t ∧ t.history = (record :: s.history).take 4 ∧ t.period = .zero ∧
      t.service.closing = false ∧ t.service.tx = s.service.tx ++ [⟨5, .closed, record.encode⟩] ∧ t.lifetime = s.lifetime)

/-! ## The block as a whole -/

/-- A step with a command at the front of the queue is that command carried out with the queue's rest. -/
def Obligations.StepRunsTheFrontCommand : Prop :=
  ∀ (c : Instr) (rest : List Instr) (s : State),
    step { s with pending := c :: rest } = exec c { s with pending := rest }

/-- Every step answers a next state: a command is carried out, ignored or refused to its sender, and never stops the part.  It
takes the command at the front of the queue and no other, and the clock of the time base never runs back.  With no command
waiting a millisecond passes, in which a frame that waits for the centre's carrier may start (log entries 1 and 55). -/
def Obligations.EveryStepGoesOn : Prop :=
  (∀ s : State, ∃ t, step s = .next t ∧ t.pending = s.pending.tail ∧ s.now ≤ t.now) ∧
  (∀ s : State, s.pending = [] → s.ledger.writing ≠ none →
    (s.power.state = .active → s.modem.waiting = [] ∨ s.modem.sending ≠ none ∨ s.modem.turnaround ≠ none) →
    step s = .next { s with now := s.now + 1 }) ∧
  (∀ (s : State) (f : Frame) (rest : List Frame), s.pending = [] → s.ledger.writing ≠ none → s.power.state = .active →
    s.modem = ⟨none, f :: rest, none, s.modem.looks⟩ →
    step s = .next { s with now := s.now + 1, modem := s.modem.offered f rest })

/-- R22, R44, R63, R86, R108, R119, R138, R163, R174, R177, R184, R191: the values after a cold start, and the reset state is
what a cold start makes of it.  The levels of the beams, the flap and the line polarity at reset are the model's (log
entry 4). -/
def Obligations.ResetIsAColdStart : Prop :=
  State.reset.coldStart = State.reset ∧
  State.reset.pending = [] ∧ State.reset.call = ⟨false, [], 0, 0, []⟩ ∧ State.reset.lifetime = .zero ∧
  State.reset.period = .zero ∧ State.reset.history = [] ∧ State.reset.config.activePresent = false ∧
  State.reset.config.centreNumber = [] ∧ State.reset.config.collectors = Vector.replicate 8 none ∧
  (∀ a, memRead State.reset.image0.bytes a = 0 ∧ memRead State.reset.image1.bytes a = 0) ∧
  State.reset.image0.loaded = 0 ∧ State.reset.image1.loaded = 0 ∧
  State.reset.ledger = ⟨[.config, .lifetime, .period, .history, .call, .events, .image0, .image1], none⟩ ∧
  State.reset.power.state = .standby ∧ State.reset.clock.valid = false ∧ State.reset.isPending .clockInvalid = true ∧
  State.reset.isPending .service = true ∧ State.reset.attention = false ∧ State.reset.serviceState = .freeOnly ∧
  State.reset.tamper.causes.noImage = true ∧ State.reset.events.records.map (·.pair) = [.powerReturn] ∧
  State.reset.line.phase = .idle ∧ State.reset.line.session = .none ∧ State.reset.arbiter.owner = .none ∧
  State.reset.rating.phase = .idle ∧ State.reset.centre.phase = .idle ∧ State.reset.service.session = none ∧
  State.reset.coin.entry = .empty ∧ State.reset.coin.chute = [] ∧ State.reset.setPort.lastReply = none

/-- The invariants that every step keeps hold after reset. -/
def Obligations.ResetMeetsTheInvariants : Prop :=
  State.reset.DirtyOnce ∧ State.reset.LedgerMirrors ∧ State.reset.EventsInOrder ∧ State.reset.ImagesCanonical ∧
  State.reset.ColumnFits ∧ State.reset.ListsBounded ∧ State.reset.LoopHasOwner ∧ State.reset.MoneyAgrees ∧
  State.reset.isActive = State.reset.holdsActive
end

