-- ==== Sys2Proof/Laws/State.lean ====
section
/-!
SUPPORT. What each update of Machine/Update.lean does to each field of `State`: one lemma per field per update,
each true by `rfl` and tagged for `simp`, so that no proof unfolds a record update.
-/

namespace Sys2Proof.Machine

variable (s : State)

@[simp] theorem State.modNow_now (f : Nat → Nat) : (s.modNow f).now = f s.now := rfl
@[simp] theorem State.modNow_pending (f : Nat → Nat) : (s.modNow f).pending = s.pending := rfl
@[simp] theorem State.modNow_coin (f : Nat → Nat) : (s.modNow f).coin = s.coin := rfl
@[simp] theorem State.modNow_credit (f : Nat → Nat) : (s.modNow f).credit = s.credit := rfl
@[simp] theorem State.modNow_rating (f : Nat → Nat) : (s.modNow f).rating = s.rating := rfl
@[simp] theorem State.modNow_line (f : Nat → Nat) : (s.modNow f).line = s.line := rfl
@[simp] theorem State.modNow_arbiter (f : Nat → Nat) : (s.modNow f).arbiter = s.arbiter := rfl
@[simp] theorem State.modNow_tamper (f : Nat → Nat) : (s.modNow f).tamper = s.tamper := rfl
@[simp] theorem State.modNow_elapsed (f : Nat → Nat) : (s.modNow f).elapsed = s.elapsed := rfl
@[simp] theorem State.modNow_centre (f : Nat → Nat) : (s.modNow f).centre = s.centre := rfl
@[simp] theorem State.modNow_modem (f : Nat → Nat) : (s.modNow f).modem = s.modem := rfl
@[simp] theorem State.modNow_ledger (f : Nat → Nat) : (s.modNow f).ledger = s.ledger := rfl
@[simp] theorem State.modNow_power (f : Nat → Nat) : (s.modNow f).power = s.power := rfl
@[simp] theorem State.modNow_clock (f : Nat → Nat) : (s.modNow f).clock = s.clock := rfl
@[simp] theorem State.modNow_setPort (f : Nat → Nat) : (s.modNow f).setPort = s.setPort := rfl
@[simp] theorem State.modNow_service (f : Nat → Nat) : (s.modNow f).service = s.service := rfl
@[simp] theorem State.modNow_config (f : Nat → Nat) : (s.modNow f).config = s.config := rfl
@[simp] theorem State.modNow_image0 (f : Nat → Nat) : (s.modNow f).image0 = s.image0 := rfl
@[simp] theorem State.modNow_image1 (f : Nat → Nat) : (s.modNow f).image1 = s.image1 := rfl
@[simp] theorem State.modNow_lifetime (f : Nat → Nat) : (s.modNow f).lifetime = s.lifetime := rfl
@[simp] theorem State.modNow_period (f : Nat → Nat) : (s.modNow f).period = s.period := rfl
@[simp] theorem State.modNow_history (f : Nat → Nat) : (s.modNow f).history = s.history := rfl
@[simp] theorem State.modNow_call (f : Nat → Nat) : (s.modNow f).call = s.call := rfl
@[simp] theorem State.modNow_events (f : Nat → Nat) : (s.modNow f).events = s.events := rfl
@[simp] theorem State.modNow_nv (f : Nat → Nat) : (s.modNow f).nv = s.nv := rfl
@[simp] theorem State.modNow_restores (f : Nat → Nat) : (s.modNow f).restores = s.restores := rfl

@[simp] theorem State.modPending_now (f : List Instr → List Instr) : (s.modPending f).now = s.now := rfl
@[simp] theorem State.modPending_pending (f : List Instr → List Instr) : (s.modPending f).pending = f s.pending := rfl
@[simp] theorem State.modPending_coin (f : List Instr → List Instr) : (s.modPending f).coin = s.coin := rfl
@[simp] theorem State.modPending_credit (f : List Instr → List Instr) : (s.modPending f).credit = s.credit := rfl
@[simp] theorem State.modPending_rating (f : List Instr → List Instr) : (s.modPending f).rating = s.rating := rfl
@[simp] theorem State.modPending_line (f : List Instr → List Instr) : (s.modPending f).line = s.line := rfl
@[simp] theorem State.modPending_arbiter (f : List Instr → List Instr) : (s.modPending f).arbiter = s.arbiter := rfl
@[simp] theorem State.modPending_tamper (f : List Instr → List Instr) : (s.modPending f).tamper = s.tamper := rfl
@[simp] theorem State.modPending_elapsed (f : List Instr → List Instr) : (s.modPending f).elapsed = s.elapsed := rfl
@[simp] theorem State.modPending_centre (f : List Instr → List Instr) : (s.modPending f).centre = s.centre := rfl
@[simp] theorem State.modPending_modem (f : List Instr → List Instr) : (s.modPending f).modem = s.modem := rfl
@[simp] theorem State.modPending_ledger (f : List Instr → List Instr) : (s.modPending f).ledger = s.ledger := rfl
@[simp] theorem State.modPending_power (f : List Instr → List Instr) : (s.modPending f).power = s.power := rfl
@[simp] theorem State.modPending_clock (f : List Instr → List Instr) : (s.modPending f).clock = s.clock := rfl
@[simp] theorem State.modPending_setPort (f : List Instr → List Instr) : (s.modPending f).setPort = s.setPort := rfl
@[simp] theorem State.modPending_service (f : List Instr → List Instr) : (s.modPending f).service = s.service := rfl
@[simp] theorem State.modPending_config (f : List Instr → List Instr) : (s.modPending f).config = s.config := rfl
@[simp] theorem State.modPending_image0 (f : List Instr → List Instr) : (s.modPending f).image0 = s.image0 := rfl
@[simp] theorem State.modPending_image1 (f : List Instr → List Instr) : (s.modPending f).image1 = s.image1 := rfl
@[simp] theorem State.modPending_lifetime (f : List Instr → List Instr) : (s.modPending f).lifetime = s.lifetime := rfl
@[simp] theorem State.modPending_period (f : List Instr → List Instr) : (s.modPending f).period = s.period := rfl
@[simp] theorem State.modPending_history (f : List Instr → List Instr) : (s.modPending f).history = s.history := rfl
@[simp] theorem State.modPending_call (f : List Instr → List Instr) : (s.modPending f).call = s.call := rfl
@[simp] theorem State.modPending_events (f : List Instr → List Instr) : (s.modPending f).events = s.events := rfl
@[simp] theorem State.modPending_nv (f : List Instr → List Instr) : (s.modPending f).nv = s.nv := rfl
@[simp] theorem State.modPending_restores (f : List Instr → List Instr) : (s.modPending f).restores = s.restores := rfl

@[simp] theorem State.modCoin_now (f : CoinPath → CoinPath) : (s.modCoin f).now = s.now := rfl
@[simp] theorem State.modCoin_pending (f : CoinPath → CoinPath) : (s.modCoin f).pending = s.pending := rfl
@[simp] theorem State.modCoin_coin (f : CoinPath → CoinPath) : (s.modCoin f).coin = f s.coin := rfl
@[simp] theorem State.modCoin_credit (f : CoinPath → CoinPath) : (s.modCoin f).credit = s.credit := rfl
@[simp] theorem State.modCoin_rating (f : CoinPath → CoinPath) : (s.modCoin f).rating = s.rating := rfl
@[simp] theorem State.modCoin_line (f : CoinPath → CoinPath) : (s.modCoin f).line = s.line := rfl
@[simp] theorem State.modCoin_arbiter (f : CoinPath → CoinPath) : (s.modCoin f).arbiter = s.arbiter := rfl
@[simp] theorem State.modCoin_tamper (f : CoinPath → CoinPath) : (s.modCoin f).tamper = s.tamper := rfl
@[simp] theorem State.modCoin_elapsed (f : CoinPath → CoinPath) : (s.modCoin f).elapsed = s.elapsed := rfl
@[simp] theorem State.modCoin_centre (f : CoinPath → CoinPath) : (s.modCoin f).centre = s.centre := rfl
@[simp] theorem State.modCoin_modem (f : CoinPath → CoinPath) : (s.modCoin f).modem = s.modem := rfl
@[simp] theorem State.modCoin_ledger (f : CoinPath → CoinPath) : (s.modCoin f).ledger = s.ledger := rfl
@[simp] theorem State.modCoin_power (f : CoinPath → CoinPath) : (s.modCoin f).power = s.power := rfl
@[simp] theorem State.modCoin_clock (f : CoinPath → CoinPath) : (s.modCoin f).clock = s.clock := rfl
@[simp] theorem State.modCoin_setPort (f : CoinPath → CoinPath) : (s.modCoin f).setPort = s.setPort := rfl
@[simp] theorem State.modCoin_service (f : CoinPath → CoinPath) : (s.modCoin f).service = s.service := rfl
@[simp] theorem State.modCoin_config (f : CoinPath → CoinPath) : (s.modCoin f).config = s.config := rfl
@[simp] theorem State.modCoin_image0 (f : CoinPath → CoinPath) : (s.modCoin f).image0 = s.image0 := rfl
@[simp] theorem State.modCoin_image1 (f : CoinPath → CoinPath) : (s.modCoin f).image1 = s.image1 := rfl
@[simp] theorem State.modCoin_lifetime (f : CoinPath → CoinPath) : (s.modCoin f).lifetime = s.lifetime := rfl
@[simp] theorem State.modCoin_period (f : CoinPath → CoinPath) : (s.modCoin f).period = s.period := rfl
@[simp] theorem State.modCoin_history (f : CoinPath → CoinPath) : (s.modCoin f).history = s.history := rfl
@[simp] theorem State.modCoin_call (f : CoinPath → CoinPath) : (s.modCoin f).call = s.call := rfl
@[simp] theorem State.modCoin_events (f : CoinPath → CoinPath) : (s.modCoin f).events = s.events := rfl
@[simp] theorem State.modCoin_nv (f : CoinPath → CoinPath) : (s.modCoin f).nv = s.nv := rfl
@[simp] theorem State.modCoin_restores (f : CoinPath → CoinPath) : (s.modCoin f).restores = s.restores := rfl

@[simp] theorem State.modCredit_now (f : CreditUnit → CreditUnit) : (s.modCredit f).now = s.now := rfl
@[simp] theorem State.modCredit_pending (f : CreditUnit → CreditUnit) : (s.modCredit f).pending = s.pending := rfl
@[simp] theorem State.modCredit_coin (f : CreditUnit → CreditUnit) : (s.modCredit f).coin = s.coin := rfl
@[simp] theorem State.modCredit_credit (f : CreditUnit → CreditUnit) : (s.modCredit f).credit = f s.credit := rfl
@[simp] theorem State.modCredit_rating (f : CreditUnit → CreditUnit) : (s.modCredit f).rating = s.rating := rfl
@[simp] theorem State.modCredit_line (f : CreditUnit → CreditUnit) : (s.modCredit f).line = s.line := rfl
@[simp] theorem State.modCredit_arbiter (f : CreditUnit → CreditUnit) : (s.modCredit f).arbiter = s.arbiter := rfl
@[simp] theorem State.modCredit_tamper (f : CreditUnit → CreditUnit) : (s.modCredit f).tamper = s.tamper := rfl
@[simp] theorem State.modCredit_elapsed (f : CreditUnit → CreditUnit) : (s.modCredit f).elapsed = s.elapsed := rfl
@[simp] theorem State.modCredit_centre (f : CreditUnit → CreditUnit) : (s.modCredit f).centre = s.centre := rfl
@[simp] theorem State.modCredit_modem (f : CreditUnit → CreditUnit) : (s.modCredit f).modem = s.modem := rfl
@[simp] theorem State.modCredit_ledger (f : CreditUnit → CreditUnit) : (s.modCredit f).ledger = s.ledger := rfl
@[simp] theorem State.modCredit_power (f : CreditUnit → CreditUnit) : (s.modCredit f).power = s.power := rfl
@[simp] theorem State.modCredit_clock (f : CreditUnit → CreditUnit) : (s.modCredit f).clock = s.clock := rfl
@[simp] theorem State.modCredit_setPort (f : CreditUnit → CreditUnit) : (s.modCredit f).setPort = s.setPort := rfl
@[simp] theorem State.modCredit_service (f : CreditUnit → CreditUnit) : (s.modCredit f).service = s.service := rfl
@[simp] theorem State.modCredit_config (f : CreditUnit → CreditUnit) : (s.modCredit f).config = s.config := rfl
@[simp] theorem State.modCredit_image0 (f : CreditUnit → CreditUnit) : (s.modCredit f).image0 = s.image0 := rfl
@[simp] theorem State.modCredit_image1 (f : CreditUnit → CreditUnit) : (s.modCredit f).image1 = s.image1 := rfl
@[simp] theorem State.modCredit_lifetime (f : CreditUnit → CreditUnit) : (s.modCredit f).lifetime = s.lifetime := rfl
@[simp] theorem State.modCredit_period (f : CreditUnit → CreditUnit) : (s.modCredit f).period = s.period := rfl
@[simp] theorem State.modCredit_history (f : CreditUnit → CreditUnit) : (s.modCredit f).history = s.history := rfl
@[simp] theorem State.modCredit_call (f : CreditUnit → CreditUnit) : (s.modCredit f).call = s.call := rfl
@[simp] theorem State.modCredit_events (f : CreditUnit → CreditUnit) : (s.modCredit f).events = s.events := rfl
@[simp] theorem State.modCredit_nv (f : CreditUnit → CreditUnit) : (s.modCredit f).nv = s.nv := rfl
@[simp] theorem State.modCredit_restores (f : CreditUnit → CreditUnit) : (s.modCredit f).restores = s.restores := rfl

@[simp] theorem State.modRating_now (f : RatingUnit → RatingUnit) : (s.modRating f).now = s.now := rfl
@[simp] theorem State.modRating_pending (f : RatingUnit → RatingUnit) : (s.modRating f).pending = s.pending := rfl
@[simp] theorem State.modRating_coin (f : RatingUnit → RatingUnit) : (s.modRating f).coin = s.coin := rfl
@[simp] theorem State.modRating_credit (f : RatingUnit → RatingUnit) : (s.modRating f).credit = s.credit := rfl
@[simp] theorem State.modRating_rating (f : RatingUnit → RatingUnit) : (s.modRating f).rating = f s.rating := rfl
@[simp] theorem State.modRating_line (f : RatingUnit → RatingUnit) : (s.modRating f).line = s.line := rfl
@[simp] theorem State.modRating_arbiter (f : RatingUnit → RatingUnit) : (s.modRating f).arbiter = s.arbiter := rfl
@[simp] theorem State.modRating_tamper (f : RatingUnit → RatingUnit) : (s.modRating f).tamper = s.tamper := rfl
@[simp] theorem State.modRating_elapsed (f : RatingUnit → RatingUnit) : (s.modRating f).elapsed = s.elapsed := rfl
@[simp] theorem State.modRating_centre (f : RatingUnit → RatingUnit) : (s.modRating f).centre = s.centre := rfl
@[simp] theorem State.modRating_modem (f : RatingUnit → RatingUnit) : (s.modRating f).modem = s.modem := rfl
@[simp] theorem State.modRating_ledger (f : RatingUnit → RatingUnit) : (s.modRating f).ledger = s.ledger := rfl
@[simp] theorem State.modRating_power (f : RatingUnit → RatingUnit) : (s.modRating f).power = s.power := rfl
@[simp] theorem State.modRating_clock (f : RatingUnit → RatingUnit) : (s.modRating f).clock = s.clock := rfl
@[simp] theorem State.modRating_setPort (f : RatingUnit → RatingUnit) : (s.modRating f).setPort = s.setPort := rfl
@[simp] theorem State.modRating_service (f : RatingUnit → RatingUnit) : (s.modRating f).service = s.service := rfl
@[simp] theorem State.modRating_config (f : RatingUnit → RatingUnit) : (s.modRating f).config = s.config := rfl
@[simp] theorem State.modRating_image0 (f : RatingUnit → RatingUnit) : (s.modRating f).image0 = s.image0 := rfl
@[simp] theorem State.modRating_image1 (f : RatingUnit → RatingUnit) : (s.modRating f).image1 = s.image1 := rfl
@[simp] theorem State.modRating_lifetime (f : RatingUnit → RatingUnit) : (s.modRating f).lifetime = s.lifetime := rfl
@[simp] theorem State.modRating_period (f : RatingUnit → RatingUnit) : (s.modRating f).period = s.period := rfl
@[simp] theorem State.modRating_history (f : RatingUnit → RatingUnit) : (s.modRating f).history = s.history := rfl
@[simp] theorem State.modRating_call (f : RatingUnit → RatingUnit) : (s.modRating f).call = s.call := rfl
@[simp] theorem State.modRating_events (f : RatingUnit → RatingUnit) : (s.modRating f).events = s.events := rfl
@[simp] theorem State.modRating_nv (f : RatingUnit → RatingUnit) : (s.modRating f).nv = s.nv := rfl
@[simp] theorem State.modRating_restores (f : RatingUnit → RatingUnit) : (s.modRating f).restores = s.restores := rfl

@[simp] theorem State.modLine_now (f : LineUnit → LineUnit) : (s.modLine f).now = s.now := rfl
@[simp] theorem State.modLine_pending (f : LineUnit → LineUnit) : (s.modLine f).pending = s.pending := rfl
@[simp] theorem State.modLine_coin (f : LineUnit → LineUnit) : (s.modLine f).coin = s.coin := rfl
@[simp] theorem State.modLine_credit (f : LineUnit → LineUnit) : (s.modLine f).credit = s.credit := rfl
@[simp] theorem State.modLine_rating (f : LineUnit → LineUnit) : (s.modLine f).rating = s.rating := rfl
@[simp] theorem State.modLine_line (f : LineUnit → LineUnit) : (s.modLine f).line = f s.line := rfl
@[simp] theorem State.modLine_arbiter (f : LineUnit → LineUnit) : (s.modLine f).arbiter = s.arbiter := rfl
@[simp] theorem State.modLine_tamper (f : LineUnit → LineUnit) : (s.modLine f).tamper = s.tamper := rfl
@[simp] theorem State.modLine_elapsed (f : LineUnit → LineUnit) : (s.modLine f).elapsed = s.elapsed := rfl
@[simp] theorem State.modLine_centre (f : LineUnit → LineUnit) : (s.modLine f).centre = s.centre := rfl
@[simp] theorem State.modLine_modem (f : LineUnit → LineUnit) : (s.modLine f).modem = s.modem := rfl
@[simp] theorem State.modLine_ledger (f : LineUnit → LineUnit) : (s.modLine f).ledger = s.ledger := rfl
@[simp] theorem State.modLine_power (f : LineUnit → LineUnit) : (s.modLine f).power = s.power := rfl
@[simp] theorem State.modLine_clock (f : LineUnit → LineUnit) : (s.modLine f).clock = s.clock := rfl
@[simp] theorem State.modLine_setPort (f : LineUnit → LineUnit) : (s.modLine f).setPort = s.setPort := rfl
@[simp] theorem State.modLine_service (f : LineUnit → LineUnit) : (s.modLine f).service = s.service := rfl
@[simp] theorem State.modLine_config (f : LineUnit → LineUnit) : (s.modLine f).config = s.config := rfl
@[simp] theorem State.modLine_image0 (f : LineUnit → LineUnit) : (s.modLine f).image0 = s.image0 := rfl
@[simp] theorem State.modLine_image1 (f : LineUnit → LineUnit) : (s.modLine f).image1 = s.image1 := rfl
@[simp] theorem State.modLine_lifetime (f : LineUnit → LineUnit) : (s.modLine f).lifetime = s.lifetime := rfl
@[simp] theorem State.modLine_period (f : LineUnit → LineUnit) : (s.modLine f).period = s.period := rfl
@[simp] theorem State.modLine_history (f : LineUnit → LineUnit) : (s.modLine f).history = s.history := rfl
@[simp] theorem State.modLine_call (f : LineUnit → LineUnit) : (s.modLine f).call = s.call := rfl
@[simp] theorem State.modLine_events (f : LineUnit → LineUnit) : (s.modLine f).events = s.events := rfl
@[simp] theorem State.modLine_nv (f : LineUnit → LineUnit) : (s.modLine f).nv = s.nv := rfl
@[simp] theorem State.modLine_restores (f : LineUnit → LineUnit) : (s.modLine f).restores = s.restores := rfl

@[simp] theorem State.modArbiter_now (f : LineArbiter → LineArbiter) : (s.modArbiter f).now = s.now := rfl
@[simp] theorem State.modArbiter_pending (f : LineArbiter → LineArbiter) : (s.modArbiter f).pending = s.pending := rfl
@[simp] theorem State.modArbiter_coin (f : LineArbiter → LineArbiter) : (s.modArbiter f).coin = s.coin := rfl
@[simp] theorem State.modArbiter_credit (f : LineArbiter → LineArbiter) : (s.modArbiter f).credit = s.credit := rfl
@[simp] theorem State.modArbiter_rating (f : LineArbiter → LineArbiter) : (s.modArbiter f).rating = s.rating := rfl
@[simp] theorem State.modArbiter_line (f : LineArbiter → LineArbiter) : (s.modArbiter f).line = s.line := rfl
@[simp] theorem State.modArbiter_arbiter (f : LineArbiter → LineArbiter) : (s.modArbiter f).arbiter = f s.arbiter := rfl
@[simp] theorem State.modArbiter_tamper (f : LineArbiter → LineArbiter) : (s.modArbiter f).tamper = s.tamper := rfl
@[simp] theorem State.modArbiter_elapsed (f : LineArbiter → LineArbiter) : (s.modArbiter f).elapsed = s.elapsed := rfl
@[simp] theorem State.modArbiter_centre (f : LineArbiter → LineArbiter) : (s.modArbiter f).centre = s.centre := rfl
@[simp] theorem State.modArbiter_modem (f : LineArbiter → LineArbiter) : (s.modArbiter f).modem = s.modem := rfl
@[simp] theorem State.modArbiter_ledger (f : LineArbiter → LineArbiter) : (s.modArbiter f).ledger = s.ledger := rfl
@[simp] theorem State.modArbiter_power (f : LineArbiter → LineArbiter) : (s.modArbiter f).power = s.power := rfl
@[simp] theorem State.modArbiter_clock (f : LineArbiter → LineArbiter) : (s.modArbiter f).clock = s.clock := rfl
@[simp] theorem State.modArbiter_setPort (f : LineArbiter → LineArbiter) : (s.modArbiter f).setPort = s.setPort := rfl
@[simp] theorem State.modArbiter_service (f : LineArbiter → LineArbiter) : (s.modArbiter f).service = s.service := rfl
@[simp] theorem State.modArbiter_config (f : LineArbiter → LineArbiter) : (s.modArbiter f).config = s.config := rfl
@[simp] theorem State.modArbiter_image0 (f : LineArbiter → LineArbiter) : (s.modArbiter f).image0 = s.image0 := rfl
@[simp] theorem State.modArbiter_image1 (f : LineArbiter → LineArbiter) : (s.modArbiter f).image1 = s.image1 := rfl
@[simp] theorem State.modArbiter_lifetime (f : LineArbiter → LineArbiter) : (s.modArbiter f).lifetime = s.lifetime := rfl
@[simp] theorem State.modArbiter_period (f : LineArbiter → LineArbiter) : (s.modArbiter f).period = s.period := rfl
@[simp] theorem State.modArbiter_history (f : LineArbiter → LineArbiter) : (s.modArbiter f).history = s.history := rfl
@[simp] theorem State.modArbiter_call (f : LineArbiter → LineArbiter) : (s.modArbiter f).call = s.call := rfl
@[simp] theorem State.modArbiter_events (f : LineArbiter → LineArbiter) : (s.modArbiter f).events = s.events := rfl
@[simp] theorem State.modArbiter_nv (f : LineArbiter → LineArbiter) : (s.modArbiter f).nv = s.nv := rfl
@[simp] theorem State.modArbiter_restores (f : LineArbiter → LineArbiter) : (s.modArbiter f).restores = s.restores := rfl

@[simp] theorem State.modTamper_now (f : Tamper → Tamper) : (s.modTamper f).now = s.now := rfl
@[simp] theorem State.modTamper_pending (f : Tamper → Tamper) : (s.modTamper f).pending = s.pending := rfl
@[simp] theorem State.modTamper_coin (f : Tamper → Tamper) : (s.modTamper f).coin = s.coin := rfl
@[simp] theorem State.modTamper_credit (f : Tamper → Tamper) : (s.modTamper f).credit = s.credit := rfl
@[simp] theorem State.modTamper_rating (f : Tamper → Tamper) : (s.modTamper f).rating = s.rating := rfl
@[simp] theorem State.modTamper_line (f : Tamper → Tamper) : (s.modTamper f).line = s.line := rfl
@[simp] theorem State.modTamper_arbiter (f : Tamper → Tamper) : (s.modTamper f).arbiter = s.arbiter := rfl
@[simp] theorem State.modTamper_tamper (f : Tamper → Tamper) : (s.modTamper f).tamper = f s.tamper := rfl
@[simp] theorem State.modTamper_elapsed (f : Tamper → Tamper) : (s.modTamper f).elapsed = s.elapsed := rfl
@[simp] theorem State.modTamper_centre (f : Tamper → Tamper) : (s.modTamper f).centre = s.centre := rfl
@[simp] theorem State.modTamper_modem (f : Tamper → Tamper) : (s.modTamper f).modem = s.modem := rfl
@[simp] theorem State.modTamper_ledger (f : Tamper → Tamper) : (s.modTamper f).ledger = s.ledger := rfl
@[simp] theorem State.modTamper_power (f : Tamper → Tamper) : (s.modTamper f).power = s.power := rfl
@[simp] theorem State.modTamper_clock (f : Tamper → Tamper) : (s.modTamper f).clock = s.clock := rfl
@[simp] theorem State.modTamper_setPort (f : Tamper → Tamper) : (s.modTamper f).setPort = s.setPort := rfl
@[simp] theorem State.modTamper_service (f : Tamper → Tamper) : (s.modTamper f).service = s.service := rfl
@[simp] theorem State.modTamper_config (f : Tamper → Tamper) : (s.modTamper f).config = s.config := rfl
@[simp] theorem State.modTamper_image0 (f : Tamper → Tamper) : (s.modTamper f).image0 = s.image0 := rfl
@[simp] theorem State.modTamper_image1 (f : Tamper → Tamper) : (s.modTamper f).image1 = s.image1 := rfl
@[simp] theorem State.modTamper_lifetime (f : Tamper → Tamper) : (s.modTamper f).lifetime = s.lifetime := rfl
@[simp] theorem State.modTamper_period (f : Tamper → Tamper) : (s.modTamper f).period = s.period := rfl
@[simp] theorem State.modTamper_history (f : Tamper → Tamper) : (s.modTamper f).history = s.history := rfl
@[simp] theorem State.modTamper_call (f : Tamper → Tamper) : (s.modTamper f).call = s.call := rfl
@[simp] theorem State.modTamper_events (f : Tamper → Tamper) : (s.modTamper f).events = s.events := rfl
@[simp] theorem State.modTamper_nv (f : Tamper → Tamper) : (s.modTamper f).nv = s.nv := rfl
@[simp] theorem State.modTamper_restores (f : Tamper → Tamper) : (s.modTamper f).restores = s.restores := rfl

@[simp] theorem State.modElapsed_now (f : Nat → Nat) : (s.modElapsed f).now = s.now := rfl
@[simp] theorem State.modElapsed_pending (f : Nat → Nat) : (s.modElapsed f).pending = s.pending := rfl
@[simp] theorem State.modElapsed_coin (f : Nat → Nat) : (s.modElapsed f).coin = s.coin := rfl
@[simp] theorem State.modElapsed_credit (f : Nat → Nat) : (s.modElapsed f).credit = s.credit := rfl
@[simp] theorem State.modElapsed_rating (f : Nat → Nat) : (s.modElapsed f).rating = s.rating := rfl
@[simp] theorem State.modElapsed_line (f : Nat → Nat) : (s.modElapsed f).line = s.line := rfl
@[simp] theorem State.modElapsed_arbiter (f : Nat → Nat) : (s.modElapsed f).arbiter = s.arbiter := rfl
@[simp] theorem State.modElapsed_tamper (f : Nat → Nat) : (s.modElapsed f).tamper = s.tamper := rfl
@[simp] theorem State.modElapsed_elapsed (f : Nat → Nat) : (s.modElapsed f).elapsed = f s.elapsed := rfl
@[simp] theorem State.modElapsed_centre (f : Nat → Nat) : (s.modElapsed f).centre = s.centre := rfl
@[simp] theorem State.modElapsed_modem (f : Nat → Nat) : (s.modElapsed f).modem = s.modem := rfl
@[simp] theorem State.modElapsed_ledger (f : Nat → Nat) : (s.modElapsed f).ledger = s.ledger := rfl
@[simp] theorem State.modElapsed_power (f : Nat → Nat) : (s.modElapsed f).power = s.power := rfl
@[simp] theorem State.modElapsed_clock (f : Nat → Nat) : (s.modElapsed f).clock = s.clock := rfl
@[simp] theorem State.modElapsed_setPort (f : Nat → Nat) : (s.modElapsed f).setPort = s.setPort := rfl
@[simp] theorem State.modElapsed_service (f : Nat → Nat) : (s.modElapsed f).service = s.service := rfl
@[simp] theorem State.modElapsed_config (f : Nat → Nat) : (s.modElapsed f).config = s.config := rfl
@[simp] theorem State.modElapsed_image0 (f : Nat → Nat) : (s.modElapsed f).image0 = s.image0 := rfl
@[simp] theorem State.modElapsed_image1 (f : Nat → Nat) : (s.modElapsed f).image1 = s.image1 := rfl
@[simp] theorem State.modElapsed_lifetime (f : Nat → Nat) : (s.modElapsed f).lifetime = s.lifetime := rfl
@[simp] theorem State.modElapsed_period (f : Nat → Nat) : (s.modElapsed f).period = s.period := rfl
@[simp] theorem State.modElapsed_history (f : Nat → Nat) : (s.modElapsed f).history = s.history := rfl
@[simp] theorem State.modElapsed_call (f : Nat → Nat) : (s.modElapsed f).call = s.call := rfl
@[simp] theorem State.modElapsed_events (f : Nat → Nat) : (s.modElapsed f).events = s.events := rfl
@[simp] theorem State.modElapsed_nv (f : Nat → Nat) : (s.modElapsed f).nv = s.nv := rfl
@[simp] theorem State.modElapsed_restores (f : Nat → Nat) : (s.modElapsed f).restores = s.restores := rfl

@[simp] theorem State.modCentre_now (f : CentreLink → CentreLink) : (s.modCentre f).now = s.now := rfl
@[simp] theorem State.modCentre_pending (f : CentreLink → CentreLink) : (s.modCentre f).pending = s.pending := rfl
@[simp] theorem State.modCentre_coin (f : CentreLink → CentreLink) : (s.modCentre f).coin = s.coin := rfl
@[simp] theorem State.modCentre_credit (f : CentreLink → CentreLink) : (s.modCentre f).credit = s.credit := rfl
@[simp] theorem State.modCentre_rating (f : CentreLink → CentreLink) : (s.modCentre f).rating = s.rating := rfl
@[simp] theorem State.modCentre_line (f : CentreLink → CentreLink) : (s.modCentre f).line = s.line := rfl
@[simp] theorem State.modCentre_arbiter (f : CentreLink → CentreLink) : (s.modCentre f).arbiter = s.arbiter := rfl
@[simp] theorem State.modCentre_tamper (f : CentreLink → CentreLink) : (s.modCentre f).tamper = s.tamper := rfl
@[simp] theorem State.modCentre_elapsed (f : CentreLink → CentreLink) : (s.modCentre f).elapsed = s.elapsed := rfl
@[simp] theorem State.modCentre_centre (f : CentreLink → CentreLink) : (s.modCentre f).centre = f s.centre := rfl
@[simp] theorem State.modCentre_modem (f : CentreLink → CentreLink) : (s.modCentre f).modem = s.modem := rfl
@[simp] theorem State.modCentre_ledger (f : CentreLink → CentreLink) : (s.modCentre f).ledger = s.ledger := rfl
@[simp] theorem State.modCentre_power (f : CentreLink → CentreLink) : (s.modCentre f).power = s.power := rfl
@[simp] theorem State.modCentre_clock (f : CentreLink → CentreLink) : (s.modCentre f).clock = s.clock := rfl
@[simp] theorem State.modCentre_setPort (f : CentreLink → CentreLink) : (s.modCentre f).setPort = s.setPort := rfl
@[simp] theorem State.modCentre_service (f : CentreLink → CentreLink) : (s.modCentre f).service = s.service := rfl
@[simp] theorem State.modCentre_config (f : CentreLink → CentreLink) : (s.modCentre f).config = s.config := rfl
@[simp] theorem State.modCentre_image0 (f : CentreLink → CentreLink) : (s.modCentre f).image0 = s.image0 := rfl
@[simp] theorem State.modCentre_image1 (f : CentreLink → CentreLink) : (s.modCentre f).image1 = s.image1 := rfl
@[simp] theorem State.modCentre_lifetime (f : CentreLink → CentreLink) : (s.modCentre f).lifetime = s.lifetime := rfl
@[simp] theorem State.modCentre_period (f : CentreLink → CentreLink) : (s.modCentre f).period = s.period := rfl
@[simp] theorem State.modCentre_history (f : CentreLink → CentreLink) : (s.modCentre f).history = s.history := rfl
@[simp] theorem State.modCentre_call (f : CentreLink → CentreLink) : (s.modCentre f).call = s.call := rfl
@[simp] theorem State.modCentre_events (f : CentreLink → CentreLink) : (s.modCentre f).events = s.events := rfl
@[simp] theorem State.modCentre_nv (f : CentreLink → CentreLink) : (s.modCentre f).nv = s.nv := rfl
@[simp] theorem State.modCentre_restores (f : CentreLink → CentreLink) : (s.modCentre f).restores = s.restores := rfl

@[simp] theorem State.modModem_now (f : Modem → Modem) : (s.modModem f).now = s.now := rfl
@[simp] theorem State.modModem_pending (f : Modem → Modem) : (s.modModem f).pending = s.pending := rfl
@[simp] theorem State.modModem_coin (f : Modem → Modem) : (s.modModem f).coin = s.coin := rfl
@[simp] theorem State.modModem_credit (f : Modem → Modem) : (s.modModem f).credit = s.credit := rfl
@[simp] theorem State.modModem_rating (f : Modem → Modem) : (s.modModem f).rating = s.rating := rfl
@[simp] theorem State.modModem_line (f : Modem → Modem) : (s.modModem f).line = s.line := rfl
@[simp] theorem State.modModem_arbiter (f : Modem → Modem) : (s.modModem f).arbiter = s.arbiter := rfl
@[simp] theorem State.modModem_tamper (f : Modem → Modem) : (s.modModem f).tamper = s.tamper := rfl
@[simp] theorem State.modModem_elapsed (f : Modem → Modem) : (s.modModem f).elapsed = s.elapsed := rfl
@[simp] theorem State.modModem_centre (f : Modem → Modem) : (s.modModem f).centre = s.centre := rfl
@[simp] theorem State.modModem_modem (f : Modem → Modem) : (s.modModem f).modem = f s.modem := rfl
@[simp] theorem State.modModem_ledger (f : Modem → Modem) : (s.modModem f).ledger = s.ledger := rfl
@[simp] theorem State.modModem_power (f : Modem → Modem) : (s.modModem f).power = s.power := rfl
@[simp] theorem State.modModem_clock (f : Modem → Modem) : (s.modModem f).clock = s.clock := rfl
@[simp] theorem State.modModem_setPort (f : Modem → Modem) : (s.modModem f).setPort = s.setPort := rfl
@[simp] theorem State.modModem_service (f : Modem → Modem) : (s.modModem f).service = s.service := rfl
@[simp] theorem State.modModem_config (f : Modem → Modem) : (s.modModem f).config = s.config := rfl
@[simp] theorem State.modModem_image0 (f : Modem → Modem) : (s.modModem f).image0 = s.image0 := rfl
@[simp] theorem State.modModem_image1 (f : Modem → Modem) : (s.modModem f).image1 = s.image1 := rfl
@[simp] theorem State.modModem_lifetime (f : Modem → Modem) : (s.modModem f).lifetime = s.lifetime := rfl
@[simp] theorem State.modModem_period (f : Modem → Modem) : (s.modModem f).period = s.period := rfl
@[simp] theorem State.modModem_history (f : Modem → Modem) : (s.modModem f).history = s.history := rfl
@[simp] theorem State.modModem_call (f : Modem → Modem) : (s.modModem f).call = s.call := rfl
@[simp] theorem State.modModem_events (f : Modem → Modem) : (s.modModem f).events = s.events := rfl
@[simp] theorem State.modModem_nv (f : Modem → Modem) : (s.modModem f).nv = s.nv := rfl
@[simp] theorem State.modModem_restores (f : Modem → Modem) : (s.modModem f).restores = s.restores := rfl

@[simp] theorem State.modLedger_now (f : Ledger → Ledger) : (s.modLedger f).now = s.now := rfl
@[simp] theorem State.modLedger_pending (f : Ledger → Ledger) : (s.modLedger f).pending = s.pending := rfl
@[simp] theorem State.modLedger_coin (f : Ledger → Ledger) : (s.modLedger f).coin = s.coin := rfl
@[simp] theorem State.modLedger_credit (f : Ledger → Ledger) : (s.modLedger f).credit = s.credit := rfl
@[simp] theorem State.modLedger_rating (f : Ledger → Ledger) : (s.modLedger f).rating = s.rating := rfl
@[simp] theorem State.modLedger_line (f : Ledger → Ledger) : (s.modLedger f).line = s.line := rfl
@[simp] theorem State.modLedger_arbiter (f : Ledger → Ledger) : (s.modLedger f).arbiter = s.arbiter := rfl
@[simp] theorem State.modLedger_tamper (f : Ledger → Ledger) : (s.modLedger f).tamper = s.tamper := rfl
@[simp] theorem State.modLedger_elapsed (f : Ledger → Ledger) : (s.modLedger f).elapsed = s.elapsed := rfl
@[simp] theorem State.modLedger_centre (f : Ledger → Ledger) : (s.modLedger f).centre = s.centre := rfl
@[simp] theorem State.modLedger_modem (f : Ledger → Ledger) : (s.modLedger f).modem = s.modem := rfl
@[simp] theorem State.modLedger_ledger (f : Ledger → Ledger) : (s.modLedger f).ledger = f s.ledger := rfl
@[simp] theorem State.modLedger_power (f : Ledger → Ledger) : (s.modLedger f).power = s.power := rfl
@[simp] theorem State.modLedger_clock (f : Ledger → Ledger) : (s.modLedger f).clock = s.clock := rfl
@[simp] theorem State.modLedger_setPort (f : Ledger → Ledger) : (s.modLedger f).setPort = s.setPort := rfl
@[simp] theorem State.modLedger_service (f : Ledger → Ledger) : (s.modLedger f).service = s.service := rfl
@[simp] theorem State.modLedger_config (f : Ledger → Ledger) : (s.modLedger f).config = s.config := rfl
@[simp] theorem State.modLedger_image0 (f : Ledger → Ledger) : (s.modLedger f).image0 = s.image0 := rfl
@[simp] theorem State.modLedger_image1 (f : Ledger → Ledger) : (s.modLedger f).image1 = s.image1 := rfl
@[simp] theorem State.modLedger_lifetime (f : Ledger → Ledger) : (s.modLedger f).lifetime = s.lifetime := rfl
@[simp] theorem State.modLedger_period (f : Ledger → Ledger) : (s.modLedger f).period = s.period := rfl
@[simp] theorem State.modLedger_history (f : Ledger → Ledger) : (s.modLedger f).history = s.history := rfl
@[simp] theorem State.modLedger_call (f : Ledger → Ledger) : (s.modLedger f).call = s.call := rfl
@[simp] theorem State.modLedger_events (f : Ledger → Ledger) : (s.modLedger f).events = s.events := rfl
@[simp] theorem State.modLedger_nv (f : Ledger → Ledger) : (s.modLedger f).nv = s.nv := rfl
@[simp] theorem State.modLedger_restores (f : Ledger → Ledger) : (s.modLedger f).restores = s.restores := rfl

@[simp] theorem State.modPower_now (f : Power → Power) : (s.modPower f).now = s.now := rfl
@[simp] theorem State.modPower_pending (f : Power → Power) : (s.modPower f).pending = s.pending := rfl
@[simp] theorem State.modPower_coin (f : Power → Power) : (s.modPower f).coin = s.coin := rfl
@[simp] theorem State.modPower_credit (f : Power → Power) : (s.modPower f).credit = s.credit := rfl
@[simp] theorem State.modPower_rating (f : Power → Power) : (s.modPower f).rating = s.rating := rfl
@[simp] theorem State.modPower_line (f : Power → Power) : (s.modPower f).line = s.line := rfl
@[simp] theorem State.modPower_arbiter (f : Power → Power) : (s.modPower f).arbiter = s.arbiter := rfl
@[simp] theorem State.modPower_tamper (f : Power → Power) : (s.modPower f).tamper = s.tamper := rfl
@[simp] theorem State.modPower_elapsed (f : Power → Power) : (s.modPower f).elapsed = s.elapsed := rfl
@[simp] theorem State.modPower_centre (f : Power → Power) : (s.modPower f).centre = s.centre := rfl
@[simp] theorem State.modPower_modem (f : Power → Power) : (s.modPower f).modem = s.modem := rfl
@[simp] theorem State.modPower_ledger (f : Power → Power) : (s.modPower f).ledger = s.ledger := rfl
@[simp] theorem State.modPower_power (f : Power → Power) : (s.modPower f).power = f s.power := rfl
@[simp] theorem State.modPower_clock (f : Power → Power) : (s.modPower f).clock = s.clock := rfl
@[simp] theorem State.modPower_setPort (f : Power → Power) : (s.modPower f).setPort = s.setPort := rfl
@[simp] theorem State.modPower_service (f : Power → Power) : (s.modPower f).service = s.service := rfl
@[simp] theorem State.modPower_config (f : Power → Power) : (s.modPower f).config = s.config := rfl
@[simp] theorem State.modPower_image0 (f : Power → Power) : (s.modPower f).image0 = s.image0 := rfl
@[simp] theorem State.modPower_image1 (f : Power → Power) : (s.modPower f).image1 = s.image1 := rfl
@[simp] theorem State.modPower_lifetime (f : Power → Power) : (s.modPower f).lifetime = s.lifetime := rfl
@[simp] theorem State.modPower_period (f : Power → Power) : (s.modPower f).period = s.period := rfl
@[simp] theorem State.modPower_history (f : Power → Power) : (s.modPower f).history = s.history := rfl
@[simp] theorem State.modPower_call (f : Power → Power) : (s.modPower f).call = s.call := rfl
@[simp] theorem State.modPower_events (f : Power → Power) : (s.modPower f).events = s.events := rfl
@[simp] theorem State.modPower_nv (f : Power → Power) : (s.modPower f).nv = s.nv := rfl
@[simp] theorem State.modPower_restores (f : Power → Power) : (s.modPower f).restores = s.restores := rfl

@[simp] theorem State.modClock_now (f : Clock → Clock) : (s.modClock f).now = s.now := rfl
@[simp] theorem State.modClock_pending (f : Clock → Clock) : (s.modClock f).pending = s.pending := rfl
@[simp] theorem State.modClock_coin (f : Clock → Clock) : (s.modClock f).coin = s.coin := rfl
@[simp] theorem State.modClock_credit (f : Clock → Clock) : (s.modClock f).credit = s.credit := rfl
@[simp] theorem State.modClock_rating (f : Clock → Clock) : (s.modClock f).rating = s.rating := rfl
@[simp] theorem State.modClock_line (f : Clock → Clock) : (s.modClock f).line = s.line := rfl
@[simp] theorem State.modClock_arbiter (f : Clock → Clock) : (s.modClock f).arbiter = s.arbiter := rfl
@[simp] theorem State.modClock_tamper (f : Clock → Clock) : (s.modClock f).tamper = s.tamper := rfl
@[simp] theorem State.modClock_elapsed (f : Clock → Clock) : (s.modClock f).elapsed = s.elapsed := rfl
@[simp] theorem State.modClock_centre (f : Clock → Clock) : (s.modClock f).centre = s.centre := rfl
@[simp] theorem State.modClock_modem (f : Clock → Clock) : (s.modClock f).modem = s.modem := rfl
@[simp] theorem State.modClock_ledger (f : Clock → Clock) : (s.modClock f).ledger = s.ledger := rfl
@[simp] theorem State.modClock_power (f : Clock → Clock) : (s.modClock f).power = s.power := rfl
@[simp] theorem State.modClock_clock (f : Clock → Clock) : (s.modClock f).clock = f s.clock := rfl
@[simp] theorem State.modClock_setPort (f : Clock → Clock) : (s.modClock f).setPort = s.setPort := rfl
@[simp] theorem State.modClock_service (f : Clock → Clock) : (s.modClock f).service = s.service := rfl
@[simp] theorem State.modClock_config (f : Clock → Clock) : (s.modClock f).config = s.config := rfl
@[simp] theorem State.modClock_image0 (f : Clock → Clock) : (s.modClock f).image0 = s.image0 := rfl
@[simp] theorem State.modClock_image1 (f : Clock → Clock) : (s.modClock f).image1 = s.image1 := rfl
@[simp] theorem State.modClock_lifetime (f : Clock → Clock) : (s.modClock f).lifetime = s.lifetime := rfl
@[simp] theorem State.modClock_period (f : Clock → Clock) : (s.modClock f).period = s.period := rfl
@[simp] theorem State.modClock_history (f : Clock → Clock) : (s.modClock f).history = s.history := rfl
@[simp] theorem State.modClock_call (f : Clock → Clock) : (s.modClock f).call = s.call := rfl
@[simp] theorem State.modClock_events (f : Clock → Clock) : (s.modClock f).events = s.events := rfl
@[simp] theorem State.modClock_nv (f : Clock → Clock) : (s.modClock f).nv = s.nv := rfl
@[simp] theorem State.modClock_restores (f : Clock → Clock) : (s.modClock f).restores = s.restores := rfl

@[simp] theorem State.modSetPort_now (f : SetPort → SetPort) : (s.modSetPort f).now = s.now := rfl
@[simp] theorem State.modSetPort_pending (f : SetPort → SetPort) : (s.modSetPort f).pending = s.pending := rfl
@[simp] theorem State.modSetPort_coin (f : SetPort → SetPort) : (s.modSetPort f).coin = s.coin := rfl
@[simp] theorem State.modSetPort_credit (f : SetPort → SetPort) : (s.modSetPort f).credit = s.credit := rfl
@[simp] theorem State.modSetPort_rating (f : SetPort → SetPort) : (s.modSetPort f).rating = s.rating := rfl
@[simp] theorem State.modSetPort_line (f : SetPort → SetPort) : (s.modSetPort f).line = s.line := rfl
@[simp] theorem State.modSetPort_arbiter (f : SetPort → SetPort) : (s.modSetPort f).arbiter = s.arbiter := rfl
@[simp] theorem State.modSetPort_tamper (f : SetPort → SetPort) : (s.modSetPort f).tamper = s.tamper := rfl
@[simp] theorem State.modSetPort_elapsed (f : SetPort → SetPort) : (s.modSetPort f).elapsed = s.elapsed := rfl
@[simp] theorem State.modSetPort_centre (f : SetPort → SetPort) : (s.modSetPort f).centre = s.centre := rfl
@[simp] theorem State.modSetPort_modem (f : SetPort → SetPort) : (s.modSetPort f).modem = s.modem := rfl
@[simp] theorem State.modSetPort_ledger (f : SetPort → SetPort) : (s.modSetPort f).ledger = s.ledger := rfl
@[simp] theorem State.modSetPort_power (f : SetPort → SetPort) : (s.modSetPort f).power = s.power := rfl
@[simp] theorem State.modSetPort_clock (f : SetPort → SetPort) : (s.modSetPort f).clock = s.clock := rfl
@[simp] theorem State.modSetPort_setPort (f : SetPort → SetPort) : (s.modSetPort f).setPort = f s.setPort := rfl
@[simp] theorem State.modSetPort_service (f : SetPort → SetPort) : (s.modSetPort f).service = s.service := rfl
@[simp] theorem State.modSetPort_config (f : SetPort → SetPort) : (s.modSetPort f).config = s.config := rfl
@[simp] theorem State.modSetPort_image0 (f : SetPort → SetPort) : (s.modSetPort f).image0 = s.image0 := rfl
@[simp] theorem State.modSetPort_image1 (f : SetPort → SetPort) : (s.modSetPort f).image1 = s.image1 := rfl
@[simp] theorem State.modSetPort_lifetime (f : SetPort → SetPort) : (s.modSetPort f).lifetime = s.lifetime := rfl
@[simp] theorem State.modSetPort_period (f : SetPort → SetPort) : (s.modSetPort f).period = s.period := rfl
@[simp] theorem State.modSetPort_history (f : SetPort → SetPort) : (s.modSetPort f).history = s.history := rfl
@[simp] theorem State.modSetPort_call (f : SetPort → SetPort) : (s.modSetPort f).call = s.call := rfl
@[simp] theorem State.modSetPort_events (f : SetPort → SetPort) : (s.modSetPort f).events = s.events := rfl
@[simp] theorem State.modSetPort_nv (f : SetPort → SetPort) : (s.modSetPort f).nv = s.nv := rfl
@[simp] theorem State.modSetPort_restores (f : SetPort → SetPort) : (s.modSetPort f).restores = s.restores := rfl

@[simp] theorem State.modService_now (f : ServicePort → ServicePort) : (s.modService f).now = s.now := rfl
@[simp] theorem State.modService_pending (f : ServicePort → ServicePort) : (s.modService f).pending = s.pending := rfl
@[simp] theorem State.modService_coin (f : ServicePort → ServicePort) : (s.modService f).coin = s.coin := rfl
@[simp] theorem State.modService_credit (f : ServicePort → ServicePort) : (s.modService f).credit = s.credit := rfl
@[simp] theorem State.modService_rating (f : ServicePort → ServicePort) : (s.modService f).rating = s.rating := rfl
@[simp] theorem State.modService_line (f : ServicePort → ServicePort) : (s.modService f).line = s.line := rfl
@[simp] theorem State.modService_arbiter (f : ServicePort → ServicePort) : (s.modService f).arbiter = s.arbiter := rfl
@[simp] theorem State.modService_tamper (f : ServicePort → ServicePort) : (s.modService f).tamper = s.tamper := rfl
@[simp] theorem State.modService_elapsed (f : ServicePort → ServicePort) : (s.modService f).elapsed = s.elapsed := rfl
@[simp] theorem State.modService_centre (f : ServicePort → ServicePort) : (s.modService f).centre = s.centre := rfl
@[simp] theorem State.modService_modem (f : ServicePort → ServicePort) : (s.modService f).modem = s.modem := rfl
@[simp] theorem State.modService_ledger (f : ServicePort → ServicePort) : (s.modService f).ledger = s.ledger := rfl
@[simp] theorem State.modService_power (f : ServicePort → ServicePort) : (s.modService f).power = s.power := rfl
@[simp] theorem State.modService_clock (f : ServicePort → ServicePort) : (s.modService f).clock = s.clock := rfl
@[simp] theorem State.modService_setPort (f : ServicePort → ServicePort) : (s.modService f).setPort = s.setPort := rfl
@[simp] theorem State.modService_service (f : ServicePort → ServicePort) : (s.modService f).service = f s.service := rfl
@[simp] theorem State.modService_config (f : ServicePort → ServicePort) : (s.modService f).config = s.config := rfl
@[simp] theorem State.modService_image0 (f : ServicePort → ServicePort) : (s.modService f).image0 = s.image0 := rfl
@[simp] theorem State.modService_image1 (f : ServicePort → ServicePort) : (s.modService f).image1 = s.image1 := rfl
@[simp] theorem State.modService_lifetime (f : ServicePort → ServicePort) : (s.modService f).lifetime = s.lifetime := rfl
@[simp] theorem State.modService_period (f : ServicePort → ServicePort) : (s.modService f).period = s.period := rfl
@[simp] theorem State.modService_history (f : ServicePort → ServicePort) : (s.modService f).history = s.history := rfl
@[simp] theorem State.modService_call (f : ServicePort → ServicePort) : (s.modService f).call = s.call := rfl
@[simp] theorem State.modService_events (f : ServicePort → ServicePort) : (s.modService f).events = s.events := rfl
@[simp] theorem State.modService_nv (f : ServicePort → ServicePort) : (s.modService f).nv = s.nv := rfl
@[simp] theorem State.modService_restores (f : ServicePort → ServicePort) : (s.modService f).restores = s.restores := rfl

@[simp] theorem State.modConfig_now (f : ConfigSection → ConfigSection) : (s.modConfig f).now = s.now := rfl
@[simp] theorem State.modConfig_pending (f : ConfigSection → ConfigSection) : (s.modConfig f).pending = s.pending := rfl
@[simp] theorem State.modConfig_coin (f : ConfigSection → ConfigSection) : (s.modConfig f).coin = s.coin := rfl
@[simp] theorem State.modConfig_credit (f : ConfigSection → ConfigSection) : (s.modConfig f).credit = s.credit := rfl
@[simp] theorem State.modConfig_rating (f : ConfigSection → ConfigSection) : (s.modConfig f).rating = s.rating := rfl
@[simp] theorem State.modConfig_line (f : ConfigSection → ConfigSection) : (s.modConfig f).line = s.line := rfl
@[simp] theorem State.modConfig_arbiter (f : ConfigSection → ConfigSection) : (s.modConfig f).arbiter = s.arbiter := rfl
@[simp] theorem State.modConfig_tamper (f : ConfigSection → ConfigSection) : (s.modConfig f).tamper = s.tamper := rfl
@[simp] theorem State.modConfig_elapsed (f : ConfigSection → ConfigSection) : (s.modConfig f).elapsed = s.elapsed := rfl
@[simp] theorem State.modConfig_centre (f : ConfigSection → ConfigSection) : (s.modConfig f).centre = s.centre := rfl
@[simp] theorem State.modConfig_modem (f : ConfigSection → ConfigSection) : (s.modConfig f).modem = s.modem := rfl
@[simp] theorem State.modConfig_ledger (f : ConfigSection → ConfigSection) : (s.modConfig f).ledger = s.ledger := rfl
@[simp] theorem State.modConfig_power (f : ConfigSection → ConfigSection) : (s.modConfig f).power = s.power := rfl
@[simp] theorem State.modConfig_clock (f : ConfigSection → ConfigSection) : (s.modConfig f).clock = s.clock := rfl
@[simp] theorem State.modConfig_setPort (f : ConfigSection → ConfigSection) : (s.modConfig f).setPort = s.setPort := rfl
@[simp] theorem State.modConfig_service (f : ConfigSection → ConfigSection) : (s.modConfig f).service = s.service := rfl
@[simp] theorem State.modConfig_config (f : ConfigSection → ConfigSection) : (s.modConfig f).config = f s.config := rfl
@[simp] theorem State.modConfig_image0 (f : ConfigSection → ConfigSection) : (s.modConfig f).image0 = s.image0 := rfl
@[simp] theorem State.modConfig_image1 (f : ConfigSection → ConfigSection) : (s.modConfig f).image1 = s.image1 := rfl
@[simp] theorem State.modConfig_lifetime (f : ConfigSection → ConfigSection) : (s.modConfig f).lifetime = s.lifetime := rfl
@[simp] theorem State.modConfig_period (f : ConfigSection → ConfigSection) : (s.modConfig f).period = s.period := rfl
@[simp] theorem State.modConfig_history (f : ConfigSection → ConfigSection) : (s.modConfig f).history = s.history := rfl
@[simp] theorem State.modConfig_call (f : ConfigSection → ConfigSection) : (s.modConfig f).call = s.call := rfl
@[simp] theorem State.modConfig_events (f : ConfigSection → ConfigSection) : (s.modConfig f).events = s.events := rfl
@[simp] theorem State.modConfig_nv (f : ConfigSection → ConfigSection) : (s.modConfig f).nv = s.nv := rfl
@[simp] theorem State.modConfig_restores (f : ConfigSection → ConfigSection) : (s.modConfig f).restores = s.restores := rfl

@[simp] theorem State.modImage0_now (f : ImageSection → ImageSection) : (s.modImage0 f).now = s.now := rfl
@[simp] theorem State.modImage0_pending (f : ImageSection → ImageSection) : (s.modImage0 f).pending = s.pending := rfl
@[simp] theorem State.modImage0_coin (f : ImageSection → ImageSection) : (s.modImage0 f).coin = s.coin := rfl
@[simp] theorem State.modImage0_credit (f : ImageSection → ImageSection) : (s.modImage0 f).credit = s.credit := rfl
@[simp] theorem State.modImage0_rating (f : ImageSection → ImageSection) : (s.modImage0 f).rating = s.rating := rfl
@[simp] theorem State.modImage0_line (f : ImageSection → ImageSection) : (s.modImage0 f).line = s.line := rfl
@[simp] theorem State.modImage0_arbiter (f : ImageSection → ImageSection) : (s.modImage0 f).arbiter = s.arbiter := rfl
@[simp] theorem State.modImage0_tamper (f : ImageSection → ImageSection) : (s.modImage0 f).tamper = s.tamper := rfl
@[simp] theorem State.modImage0_elapsed (f : ImageSection → ImageSection) : (s.modImage0 f).elapsed = s.elapsed := rfl
@[simp] theorem State.modImage0_centre (f : ImageSection → ImageSection) : (s.modImage0 f).centre = s.centre := rfl
@[simp] theorem State.modImage0_modem (f : ImageSection → ImageSection) : (s.modImage0 f).modem = s.modem := rfl
@[simp] theorem State.modImage0_ledger (f : ImageSection → ImageSection) : (s.modImage0 f).ledger = s.ledger := rfl
@[simp] theorem State.modImage0_power (f : ImageSection → ImageSection) : (s.modImage0 f).power = s.power := rfl
@[simp] theorem State.modImage0_clock (f : ImageSection → ImageSection) : (s.modImage0 f).clock = s.clock := rfl
@[simp] theorem State.modImage0_setPort (f : ImageSection → ImageSection) : (s.modImage0 f).setPort = s.setPort := rfl
@[simp] theorem State.modImage0_service (f : ImageSection → ImageSection) : (s.modImage0 f).service = s.service := rfl
@[simp] theorem State.modImage0_config (f : ImageSection → ImageSection) : (s.modImage0 f).config = s.config := rfl
@[simp] theorem State.modImage0_image0 (f : ImageSection → ImageSection) : (s.modImage0 f).image0 = f s.image0 := rfl
@[simp] theorem State.modImage0_image1 (f : ImageSection → ImageSection) : (s.modImage0 f).image1 = s.image1 := rfl
@[simp] theorem State.modImage0_lifetime (f : ImageSection → ImageSection) : (s.modImage0 f).lifetime = s.lifetime := rfl
@[simp] theorem State.modImage0_period (f : ImageSection → ImageSection) : (s.modImage0 f).period = s.period := rfl
@[simp] theorem State.modImage0_history (f : ImageSection → ImageSection) : (s.modImage0 f).history = s.history := rfl
@[simp] theorem State.modImage0_call (f : ImageSection → ImageSection) : (s.modImage0 f).call = s.call := rfl
@[simp] theorem State.modImage0_events (f : ImageSection → ImageSection) : (s.modImage0 f).events = s.events := rfl
@[simp] theorem State.modImage0_nv (f : ImageSection → ImageSection) : (s.modImage0 f).nv = s.nv := rfl
@[simp] theorem State.modImage0_restores (f : ImageSection → ImageSection) : (s.modImage0 f).restores = s.restores := rfl

@[simp] theorem State.modImage1_now (f : ImageSection → ImageSection) : (s.modImage1 f).now = s.now := rfl
@[simp] theorem State.modImage1_pending (f : ImageSection → ImageSection) : (s.modImage1 f).pending = s.pending := rfl
@[simp] theorem State.modImage1_coin (f : ImageSection → ImageSection) : (s.modImage1 f).coin = s.coin := rfl
@[simp] theorem State.modImage1_credit (f : ImageSection → ImageSection) : (s.modImage1 f).credit = s.credit := rfl
@[simp] theorem State.modImage1_rating (f : ImageSection → ImageSection) : (s.modImage1 f).rating = s.rating := rfl
@[simp] theorem State.modImage1_line (f : ImageSection → ImageSection) : (s.modImage1 f).line = s.line := rfl
@[simp] theorem State.modImage1_arbiter (f : ImageSection → ImageSection) : (s.modImage1 f).arbiter = s.arbiter := rfl
@[simp] theorem State.modImage1_tamper (f : ImageSection → ImageSection) : (s.modImage1 f).tamper = s.tamper := rfl
@[simp] theorem State.modImage1_elapsed (f : ImageSection → ImageSection) : (s.modImage1 f).elapsed = s.elapsed := rfl
@[simp] theorem State.modImage1_centre (f : ImageSection → ImageSection) : (s.modImage1 f).centre = s.centre := rfl
@[simp] theorem State.modImage1_modem (f : ImageSection → ImageSection) : (s.modImage1 f).modem = s.modem := rfl
@[simp] theorem State.modImage1_ledger (f : ImageSection → ImageSection) : (s.modImage1 f).ledger = s.ledger := rfl
@[simp] theorem State.modImage1_power (f : ImageSection → ImageSection) : (s.modImage1 f).power = s.power := rfl
@[simp] theorem State.modImage1_clock (f : ImageSection → ImageSection) : (s.modImage1 f).clock = s.clock := rfl
@[simp] theorem State.modImage1_setPort (f : ImageSection → ImageSection) : (s.modImage1 f).setPort = s.setPort := rfl
@[simp] theorem State.modImage1_service (f : ImageSection → ImageSection) : (s.modImage1 f).service = s.service := rfl
@[simp] theorem State.modImage1_config (f : ImageSection → ImageSection) : (s.modImage1 f).config = s.config := rfl
@[simp] theorem State.modImage1_image0 (f : ImageSection → ImageSection) : (s.modImage1 f).image0 = s.image0 := rfl
@[simp] theorem State.modImage1_image1 (f : ImageSection → ImageSection) : (s.modImage1 f).image1 = f s.image1 := rfl
@[simp] theorem State.modImage1_lifetime (f : ImageSection → ImageSection) : (s.modImage1 f).lifetime = s.lifetime := rfl
@[simp] theorem State.modImage1_period (f : ImageSection → ImageSection) : (s.modImage1 f).period = s.period := rfl
@[simp] theorem State.modImage1_history (f : ImageSection → ImageSection) : (s.modImage1 f).history = s.history := rfl
@[simp] theorem State.modImage1_call (f : ImageSection → ImageSection) : (s.modImage1 f).call = s.call := rfl
@[simp] theorem State.modImage1_events (f : ImageSection → ImageSection) : (s.modImage1 f).events = s.events := rfl
@[simp] theorem State.modImage1_nv (f : ImageSection → ImageSection) : (s.modImage1 f).nv = s.nv := rfl
@[simp] theorem State.modImage1_restores (f : ImageSection → ImageSection) : (s.modImage1 f).restores = s.restores := rfl

@[simp] theorem State.modLifetime_now (f : Totals → Totals) : (s.modLifetime f).now = s.now := rfl
@[simp] theorem State.modLifetime_pending (f : Totals → Totals) : (s.modLifetime f).pending = s.pending := rfl
@[simp] theorem State.modLifetime_coin (f : Totals → Totals) : (s.modLifetime f).coin = s.coin := rfl
@[simp] theorem State.modLifetime_credit (f : Totals → Totals) : (s.modLifetime f).credit = s.credit := rfl
@[simp] theorem State.modLifetime_rating (f : Totals → Totals) : (s.modLifetime f).rating = s.rating := rfl
@[simp] theorem State.modLifetime_line (f : Totals → Totals) : (s.modLifetime f).line = s.line := rfl
@[simp] theorem State.modLifetime_arbiter (f : Totals → Totals) : (s.modLifetime f).arbiter = s.arbiter := rfl
@[simp] theorem State.modLifetime_tamper (f : Totals → Totals) : (s.modLifetime f).tamper = s.tamper := rfl
@[simp] theorem State.modLifetime_elapsed (f : Totals → Totals) : (s.modLifetime f).elapsed = s.elapsed := rfl
@[simp] theorem State.modLifetime_centre (f : Totals → Totals) : (s.modLifetime f).centre = s.centre := rfl
@[simp] theorem State.modLifetime_modem (f : Totals → Totals) : (s.modLifetime f).modem = s.modem := rfl
@[simp] theorem State.modLifetime_ledger (f : Totals → Totals) : (s.modLifetime f).ledger = s.ledger := rfl
@[simp] theorem State.modLifetime_power (f : Totals → Totals) : (s.modLifetime f).power = s.power := rfl
@[simp] theorem State.modLifetime_clock (f : Totals → Totals) : (s.modLifetime f).clock = s.clock := rfl
@[simp] theorem State.modLifetime_setPort (f : Totals → Totals) : (s.modLifetime f).setPort = s.setPort := rfl
@[simp] theorem State.modLifetime_service (f : Totals → Totals) : (s.modLifetime f).service = s.service := rfl
@[simp] theorem State.modLifetime_config (f : Totals → Totals) : (s.modLifetime f).config = s.config := rfl
@[simp] theorem State.modLifetime_image0 (f : Totals → Totals) : (s.modLifetime f).image0 = s.image0 := rfl
@[simp] theorem State.modLifetime_image1 (f : Totals → Totals) : (s.modLifetime f).image1 = s.image1 := rfl
@[simp] theorem State.modLifetime_lifetime (f : Totals → Totals) : (s.modLifetime f).lifetime = f s.lifetime := rfl
@[simp] theorem State.modLifetime_period (f : Totals → Totals) : (s.modLifetime f).period = s.period := rfl
@[simp] theorem State.modLifetime_history (f : Totals → Totals) : (s.modLifetime f).history = s.history := rfl
@[simp] theorem State.modLifetime_call (f : Totals → Totals) : (s.modLifetime f).call = s.call := rfl
@[simp] theorem State.modLifetime_events (f : Totals → Totals) : (s.modLifetime f).events = s.events := rfl
@[simp] theorem State.modLifetime_nv (f : Totals → Totals) : (s.modLifetime f).nv = s.nv := rfl
@[simp] theorem State.modLifetime_restores (f : Totals → Totals) : (s.modLifetime f).restores = s.restores := rfl

@[simp] theorem State.modPeriod_now (f : Totals → Totals) : (s.modPeriod f).now = s.now := rfl
@[simp] theorem State.modPeriod_pending (f : Totals → Totals) : (s.modPeriod f).pending = s.pending := rfl
@[simp] theorem State.modPeriod_coin (f : Totals → Totals) : (s.modPeriod f).coin = s.coin := rfl
@[simp] theorem State.modPeriod_credit (f : Totals → Totals) : (s.modPeriod f).credit = s.credit := rfl
@[simp] theorem State.modPeriod_rating (f : Totals → Totals) : (s.modPeriod f).rating = s.rating := rfl
@[simp] theorem State.modPeriod_line (f : Totals → Totals) : (s.modPeriod f).line = s.line := rfl
@[simp] theorem State.modPeriod_arbiter (f : Totals → Totals) : (s.modPeriod f).arbiter = s.arbiter := rfl
@[simp] theorem State.modPeriod_tamper (f : Totals → Totals) : (s.modPeriod f).tamper = s.tamper := rfl
@[simp] theorem State.modPeriod_elapsed (f : Totals → Totals) : (s.modPeriod f).elapsed = s.elapsed := rfl
@[simp] theorem State.modPeriod_centre (f : Totals → Totals) : (s.modPeriod f).centre = s.centre := rfl
@[simp] theorem State.modPeriod_modem (f : Totals → Totals) : (s.modPeriod f).modem = s.modem := rfl
@[simp] theorem State.modPeriod_ledger (f : Totals → Totals) : (s.modPeriod f).ledger = s.ledger := rfl
@[simp] theorem State.modPeriod_power (f : Totals → Totals) : (s.modPeriod f).power = s.power := rfl
@[simp] theorem State.modPeriod_clock (f : Totals → Totals) : (s.modPeriod f).clock = s.clock := rfl
@[simp] theorem State.modPeriod_setPort (f : Totals → Totals) : (s.modPeriod f).setPort = s.setPort := rfl
@[simp] theorem State.modPeriod_service (f : Totals → Totals) : (s.modPeriod f).service = s.service := rfl
@[simp] theorem State.modPeriod_config (f : Totals → Totals) : (s.modPeriod f).config = s.config := rfl
@[simp] theorem State.modPeriod_image0 (f : Totals → Totals) : (s.modPeriod f).image0 = s.image0 := rfl
@[simp] theorem State.modPeriod_image1 (f : Totals → Totals) : (s.modPeriod f).image1 = s.image1 := rfl
@[simp] theorem State.modPeriod_lifetime (f : Totals → Totals) : (s.modPeriod f).lifetime = s.lifetime := rfl
@[simp] theorem State.modPeriod_period (f : Totals → Totals) : (s.modPeriod f).period = f s.period := rfl
@[simp] theorem State.modPeriod_history (f : Totals → Totals) : (s.modPeriod f).history = s.history := rfl
@[simp] theorem State.modPeriod_call (f : Totals → Totals) : (s.modPeriod f).call = s.call := rfl
@[simp] theorem State.modPeriod_events (f : Totals → Totals) : (s.modPeriod f).events = s.events := rfl
@[simp] theorem State.modPeriod_nv (f : Totals → Totals) : (s.modPeriod f).nv = s.nv := rfl
@[simp] theorem State.modPeriod_restores (f : Totals → Totals) : (s.modPeriod f).restores = s.restores := rfl

@[simp] theorem State.modHistory_now (f : List HistoryRecord → List HistoryRecord) : (s.modHistory f).now = s.now := rfl
@[simp] theorem State.modHistory_pending (f : List HistoryRecord → List HistoryRecord) : (s.modHistory f).pending = s.pending := rfl
@[simp] theorem State.modHistory_coin (f : List HistoryRecord → List HistoryRecord) : (s.modHistory f).coin = s.coin := rfl
@[simp] theorem State.modHistory_credit (f : List HistoryRecord → List HistoryRecord) : (s.modHistory f).credit = s.credit := rfl
@[simp] theorem State.modHistory_rating (f : List HistoryRecord → List HistoryRecord) : (s.modHistory f).rating = s.rating := rfl
@[simp] theorem State.modHistory_line (f : List HistoryRecord → List HistoryRecord) : (s.modHistory f).line = s.line := rfl
@[simp] theorem State.modHistory_arbiter (f : List HistoryRecord → List HistoryRecord) : (s.modHistory f).arbiter = s.arbiter := rfl
@[simp] theorem State.modHistory_tamper (f : List HistoryRecord → List HistoryRecord) : (s.modHistory f).tamper = s.tamper := rfl
@[simp] theorem State.modHistory_elapsed (f : List HistoryRecord → List HistoryRecord) : (s.modHistory f).elapsed = s.elapsed := rfl
@[simp] theorem State.modHistory_centre (f : List HistoryRecord → List HistoryRecord) : (s.modHistory f).centre = s.centre := rfl
@[simp] theorem State.modHistory_modem (f : List HistoryRecord → List HistoryRecord) : (s.modHistory f).modem = s.modem := rfl
@[simp] theorem State.modHistory_ledger (f : List HistoryRecord → List HistoryRecord) : (s.modHistory f).ledger = s.ledger := rfl
@[simp] theorem State.modHistory_power (f : List HistoryRecord → List HistoryRecord) : (s.modHistory f).power = s.power := rfl
@[simp] theorem State.modHistory_clock (f : List HistoryRecord → List HistoryRecord) : (s.modHistory f).clock = s.clock := rfl
@[simp] theorem State.modHistory_setPort (f : List HistoryRecord → List HistoryRecord) : (s.modHistory f).setPort = s.setPort := rfl
@[simp] theorem State.modHistory_service (f : List HistoryRecord → List HistoryRecord) : (s.modHistory f).service = s.service := rfl
@[simp] theorem State.modHistory_config (f : List HistoryRecord → List HistoryRecord) : (s.modHistory f).config = s.config := rfl
@[simp] theorem State.modHistory_image0 (f : List HistoryRecord → List HistoryRecord) : (s.modHistory f).image0 = s.image0 := rfl
@[simp] theorem State.modHistory_image1 (f : List HistoryRecord → List HistoryRecord) : (s.modHistory f).image1 = s.image1 := rfl
@[simp] theorem State.modHistory_lifetime (f : List HistoryRecord → List HistoryRecord) : (s.modHistory f).lifetime = s.lifetime := rfl
@[simp] theorem State.modHistory_period (f : List HistoryRecord → List HistoryRecord) : (s.modHistory f).period = s.period := rfl
@[simp] theorem State.modHistory_history (f : List HistoryRecord → List HistoryRecord) : (s.modHistory f).history = f s.history := rfl
@[simp] theorem State.modHistory_call (f : List HistoryRecord → List HistoryRecord) : (s.modHistory f).call = s.call := rfl
@[simp] theorem State.modHistory_events (f : List HistoryRecord → List HistoryRecord) : (s.modHistory f).events = s.events := rfl
@[simp] theorem State.modHistory_nv (f : List HistoryRecord → List HistoryRecord) : (s.modHistory f).nv = s.nv := rfl
@[simp] theorem State.modHistory_restores (f : List HistoryRecord → List HistoryRecord) : (s.modHistory f).restores = s.restores := rfl

@[simp] theorem State.modCall_now (f : CallSection → CallSection) : (s.modCall f).now = s.now := rfl
@[simp] theorem State.modCall_pending (f : CallSection → CallSection) : (s.modCall f).pending = s.pending := rfl
@[simp] theorem State.modCall_coin (f : CallSection → CallSection) : (s.modCall f).coin = s.coin := rfl
@[simp] theorem State.modCall_credit (f : CallSection → CallSection) : (s.modCall f).credit = s.credit := rfl
@[simp] theorem State.modCall_rating (f : CallSection → CallSection) : (s.modCall f).rating = s.rating := rfl
@[simp] theorem State.modCall_line (f : CallSection → CallSection) : (s.modCall f).line = s.line := rfl
@[simp] theorem State.modCall_arbiter (f : CallSection → CallSection) : (s.modCall f).arbiter = s.arbiter := rfl
@[simp] theorem State.modCall_tamper (f : CallSection → CallSection) : (s.modCall f).tamper = s.tamper := rfl
@[simp] theorem State.modCall_elapsed (f : CallSection → CallSection) : (s.modCall f).elapsed = s.elapsed := rfl
@[simp] theorem State.modCall_centre (f : CallSection → CallSection) : (s.modCall f).centre = s.centre := rfl
@[simp] theorem State.modCall_modem (f : CallSection → CallSection) : (s.modCall f).modem = s.modem := rfl
@[simp] theorem State.modCall_ledger (f : CallSection → CallSection) : (s.modCall f).ledger = s.ledger := rfl
@[simp] theorem State.modCall_power (f : CallSection → CallSection) : (s.modCall f).power = s.power := rfl
@[simp] theorem State.modCall_clock (f : CallSection → CallSection) : (s.modCall f).clock = s.clock := rfl
@[simp] theorem State.modCall_setPort (f : CallSection → CallSection) : (s.modCall f).setPort = s.setPort := rfl
@[simp] theorem State.modCall_service (f : CallSection → CallSection) : (s.modCall f).service = s.service := rfl
@[simp] theorem State.modCall_config (f : CallSection → CallSection) : (s.modCall f).config = s.config := rfl
@[simp] theorem State.modCall_image0 (f : CallSection → CallSection) : (s.modCall f).image0 = s.image0 := rfl
@[simp] theorem State.modCall_image1 (f : CallSection → CallSection) : (s.modCall f).image1 = s.image1 := rfl
@[simp] theorem State.modCall_lifetime (f : CallSection → CallSection) : (s.modCall f).lifetime = s.lifetime := rfl
@[simp] theorem State.modCall_period (f : CallSection → CallSection) : (s.modCall f).period = s.period := rfl
@[simp] theorem State.modCall_history (f : CallSection → CallSection) : (s.modCall f).history = s.history := rfl
@[simp] theorem State.modCall_call (f : CallSection → CallSection) : (s.modCall f).call = f s.call := rfl
@[simp] theorem State.modCall_events (f : CallSection → CallSection) : (s.modCall f).events = s.events := rfl
@[simp] theorem State.modCall_nv (f : CallSection → CallSection) : (s.modCall f).nv = s.nv := rfl
@[simp] theorem State.modCall_restores (f : CallSection → CallSection) : (s.modCall f).restores = s.restores := rfl

@[simp] theorem State.modEvents_now (f : EventsSection → EventsSection) : (s.modEvents f).now = s.now := rfl
@[simp] theorem State.modEvents_pending (f : EventsSection → EventsSection) : (s.modEvents f).pending = s.pending := rfl
@[simp] theorem State.modEvents_coin (f : EventsSection → EventsSection) : (s.modEvents f).coin = s.coin := rfl
@[simp] theorem State.modEvents_credit (f : EventsSection → EventsSection) : (s.modEvents f).credit = s.credit := rfl
@[simp] theorem State.modEvents_rating (f : EventsSection → EventsSection) : (s.modEvents f).rating = s.rating := rfl
@[simp] theorem State.modEvents_line (f : EventsSection → EventsSection) : (s.modEvents f).line = s.line := rfl
@[simp] theorem State.modEvents_arbiter (f : EventsSection → EventsSection) : (s.modEvents f).arbiter = s.arbiter := rfl
@[simp] theorem State.modEvents_tamper (f : EventsSection → EventsSection) : (s.modEvents f).tamper = s.tamper := rfl
@[simp] theorem State.modEvents_elapsed (f : EventsSection → EventsSection) : (s.modEvents f).elapsed = s.elapsed := rfl
@[simp] theorem State.modEvents_centre (f : EventsSection → EventsSection) : (s.modEvents f).centre = s.centre := rfl
@[simp] theorem State.modEvents_modem (f : EventsSection → EventsSection) : (s.modEvents f).modem = s.modem := rfl
@[simp] theorem State.modEvents_ledger (f : EventsSection → EventsSection) : (s.modEvents f).ledger = s.ledger := rfl
@[simp] theorem State.modEvents_power (f : EventsSection → EventsSection) : (s.modEvents f).power = s.power := rfl
@[simp] theorem State.modEvents_clock (f : EventsSection → EventsSection) : (s.modEvents f).clock = s.clock := rfl
@[simp] theorem State.modEvents_setPort (f : EventsSection → EventsSection) : (s.modEvents f).setPort = s.setPort := rfl
@[simp] theorem State.modEvents_service (f : EventsSection → EventsSection) : (s.modEvents f).service = s.service := rfl
@[simp] theorem State.modEvents_config (f : EventsSection → EventsSection) : (s.modEvents f).config = s.config := rfl
@[simp] theorem State.modEvents_image0 (f : EventsSection → EventsSection) : (s.modEvents f).image0 = s.image0 := rfl
@[simp] theorem State.modEvents_image1 (f : EventsSection → EventsSection) : (s.modEvents f).image1 = s.image1 := rfl
@[simp] theorem State.modEvents_lifetime (f : EventsSection → EventsSection) : (s.modEvents f).lifetime = s.lifetime := rfl
@[simp] theorem State.modEvents_period (f : EventsSection → EventsSection) : (s.modEvents f).period = s.period := rfl
@[simp] theorem State.modEvents_history (f : EventsSection → EventsSection) : (s.modEvents f).history = s.history := rfl
@[simp] theorem State.modEvents_call (f : EventsSection → EventsSection) : (s.modEvents f).call = s.call := rfl
@[simp] theorem State.modEvents_events (f : EventsSection → EventsSection) : (s.modEvents f).events = f s.events := rfl
@[simp] theorem State.modEvents_nv (f : EventsSection → EventsSection) : (s.modEvents f).nv = s.nv := rfl
@[simp] theorem State.modEvents_restores (f : EventsSection → EventsSection) : (s.modEvents f).restores = s.restores := rfl

@[simp] theorem State.modNv_now (f : Nonvolatile → Nonvolatile) : (s.modNv f).now = s.now := rfl
@[simp] theorem State.modNv_pending (f : Nonvolatile → Nonvolatile) : (s.modNv f).pending = s.pending := rfl
@[simp] theorem State.modNv_coin (f : Nonvolatile → Nonvolatile) : (s.modNv f).coin = s.coin := rfl
@[simp] theorem State.modNv_credit (f : Nonvolatile → Nonvolatile) : (s.modNv f).credit = s.credit := rfl
@[simp] theorem State.modNv_rating (f : Nonvolatile → Nonvolatile) : (s.modNv f).rating = s.rating := rfl
@[simp] theorem State.modNv_line (f : Nonvolatile → Nonvolatile) : (s.modNv f).line = s.line := rfl
@[simp] theorem State.modNv_arbiter (f : Nonvolatile → Nonvolatile) : (s.modNv f).arbiter = s.arbiter := rfl
@[simp] theorem State.modNv_tamper (f : Nonvolatile → Nonvolatile) : (s.modNv f).tamper = s.tamper := rfl
@[simp] theorem State.modNv_elapsed (f : Nonvolatile → Nonvolatile) : (s.modNv f).elapsed = s.elapsed := rfl
@[simp] theorem State.modNv_centre (f : Nonvolatile → Nonvolatile) : (s.modNv f).centre = s.centre := rfl
@[simp] theorem State.modNv_modem (f : Nonvolatile → Nonvolatile) : (s.modNv f).modem = s.modem := rfl
@[simp] theorem State.modNv_ledger (f : Nonvolatile → Nonvolatile) : (s.modNv f).ledger = s.ledger := rfl
@[simp] theorem State.modNv_power (f : Nonvolatile → Nonvolatile) : (s.modNv f).power = s.power := rfl
@[simp] theorem State.modNv_clock (f : Nonvolatile → Nonvolatile) : (s.modNv f).clock = s.clock := rfl
@[simp] theorem State.modNv_setPort (f : Nonvolatile → Nonvolatile) : (s.modNv f).setPort = s.setPort := rfl
@[simp] theorem State.modNv_service (f : Nonvolatile → Nonvolatile) : (s.modNv f).service = s.service := rfl
@[simp] theorem State.modNv_config (f : Nonvolatile → Nonvolatile) : (s.modNv f).config = s.config := rfl
@[simp] theorem State.modNv_image0 (f : Nonvolatile → Nonvolatile) : (s.modNv f).image0 = s.image0 := rfl
@[simp] theorem State.modNv_image1 (f : Nonvolatile → Nonvolatile) : (s.modNv f).image1 = s.image1 := rfl
@[simp] theorem State.modNv_lifetime (f : Nonvolatile → Nonvolatile) : (s.modNv f).lifetime = s.lifetime := rfl
@[simp] theorem State.modNv_period (f : Nonvolatile → Nonvolatile) : (s.modNv f).period = s.period := rfl
@[simp] theorem State.modNv_history (f : Nonvolatile → Nonvolatile) : (s.modNv f).history = s.history := rfl
@[simp] theorem State.modNv_call (f : Nonvolatile → Nonvolatile) : (s.modNv f).call = s.call := rfl
@[simp] theorem State.modNv_events (f : Nonvolatile → Nonvolatile) : (s.modNv f).events = s.events := rfl
@[simp] theorem State.modNv_nv (f : Nonvolatile → Nonvolatile) : (s.modNv f).nv = f s.nv := rfl
@[simp] theorem State.modNv_restores (f : Nonvolatile → Nonvolatile) : (s.modNv f).restores = s.restores := rfl

@[simp] theorem State.modRestores_now (f : Nat → Nat) : (s.modRestores f).now = s.now := rfl
@[simp] theorem State.modRestores_pending (f : Nat → Nat) : (s.modRestores f).pending = s.pending := rfl
@[simp] theorem State.modRestores_coin (f : Nat → Nat) : (s.modRestores f).coin = s.coin := rfl
@[simp] theorem State.modRestores_credit (f : Nat → Nat) : (s.modRestores f).credit = s.credit := rfl
@[simp] theorem State.modRestores_rating (f : Nat → Nat) : (s.modRestores f).rating = s.rating := rfl
@[simp] theorem State.modRestores_line (f : Nat → Nat) : (s.modRestores f).line = s.line := rfl
@[simp] theorem State.modRestores_arbiter (f : Nat → Nat) : (s.modRestores f).arbiter = s.arbiter := rfl
@[simp] theorem State.modRestores_tamper (f : Nat → Nat) : (s.modRestores f).tamper = s.tamper := rfl
@[simp] theorem State.modRestores_elapsed (f : Nat → Nat) : (s.modRestores f).elapsed = s.elapsed := rfl
@[simp] theorem State.modRestores_centre (f : Nat → Nat) : (s.modRestores f).centre = s.centre := rfl
@[simp] theorem State.modRestores_modem (f : Nat → Nat) : (s.modRestores f).modem = s.modem := rfl
@[simp] theorem State.modRestores_ledger (f : Nat → Nat) : (s.modRestores f).ledger = s.ledger := rfl
@[simp] theorem State.modRestores_power (f : Nat → Nat) : (s.modRestores f).power = s.power := rfl
@[simp] theorem State.modRestores_clock (f : Nat → Nat) : (s.modRestores f).clock = s.clock := rfl
@[simp] theorem State.modRestores_setPort (f : Nat → Nat) : (s.modRestores f).setPort = s.setPort := rfl
@[simp] theorem State.modRestores_service (f : Nat → Nat) : (s.modRestores f).service = s.service := rfl
@[simp] theorem State.modRestores_config (f : Nat → Nat) : (s.modRestores f).config = s.config := rfl
@[simp] theorem State.modRestores_image0 (f : Nat → Nat) : (s.modRestores f).image0 = s.image0 := rfl
@[simp] theorem State.modRestores_image1 (f : Nat → Nat) : (s.modRestores f).image1 = s.image1 := rfl
@[simp] theorem State.modRestores_lifetime (f : Nat → Nat) : (s.modRestores f).lifetime = s.lifetime := rfl
@[simp] theorem State.modRestores_period (f : Nat → Nat) : (s.modRestores f).period = s.period := rfl
@[simp] theorem State.modRestores_history (f : Nat → Nat) : (s.modRestores f).history = s.history := rfl
@[simp] theorem State.modRestores_call (f : Nat → Nat) : (s.modRestores f).call = s.call := rfl
@[simp] theorem State.modRestores_events (f : Nat → Nat) : (s.modRestores f).events = s.events := rfl
@[simp] theorem State.modRestores_nv (f : Nat → Nat) : (s.modRestores f).nv = s.nv := rfl
@[simp] theorem State.modRestores_restores (f : Nat → Nat) : (s.modRestores f).restores = f s.restores := rfl

end Sys2Proof.Machine
end

