-- ==== Sys2Proof/Laws/Ops.lean ====
section
/-!
SUPPORT. What each operation of Machine/Ops.lean leaves alone: one lemma for each field of `State` that it never
touches.  What it does to the fields it touches stands in its definition.
-/

set_option linter.unusedTactic false
set_option linter.unnecessarySeqFocus false
set_option linter.unreachableTactic false

namespace Sys2Proof.Machine

variable (s : State)

@[simp] theorem State.reach_pending (t : Nat) : (s.reach t).pending = s.pending := by
  unfold State.reach; (try dsimp only); (repeat' split) <;> simp
@[simp] theorem State.reach_coin (t : Nat) : (s.reach t).coin = s.coin := by
  unfold State.reach; (try dsimp only); (repeat' split) <;> simp
@[simp] theorem State.reach_credit (t : Nat) : (s.reach t).credit = s.credit := by
  unfold State.reach; (try dsimp only); (repeat' split) <;> simp
@[simp] theorem State.reach_rating (t : Nat) : (s.reach t).rating = s.rating := by
  unfold State.reach; (try dsimp only); (repeat' split) <;> simp
@[simp] theorem State.reach_line (t : Nat) : (s.reach t).line = s.line := by
  unfold State.reach; (try dsimp only); (repeat' split) <;> simp
@[simp] theorem State.reach_arbiter (t : Nat) : (s.reach t).arbiter = s.arbiter := by
  unfold State.reach; (try dsimp only); (repeat' split) <;> simp
@[simp] theorem State.reach_tamper (t : Nat) : (s.reach t).tamper = s.tamper := by
  unfold State.reach; (try dsimp only); (repeat' split) <;> simp
@[simp] theorem State.reach_elapsed (t : Nat) : (s.reach t).elapsed = s.elapsed := by
  unfold State.reach; (try dsimp only); (repeat' split) <;> simp
@[simp] theorem State.reach_centre (t : Nat) : (s.reach t).centre = s.centre := by
  unfold State.reach; (try dsimp only); (repeat' split) <;> simp
@[simp] theorem State.reach_modem (t : Nat) : (s.reach t).modem = s.modem := by
  unfold State.reach; (try dsimp only); (repeat' split) <;> simp
@[simp] theorem State.reach_ledger (t : Nat) : (s.reach t).ledger = s.ledger := by
  unfold State.reach; (try dsimp only); (repeat' split) <;> simp
@[simp] theorem State.reach_power (t : Nat) : (s.reach t).power = s.power := by
  unfold State.reach; (try dsimp only); (repeat' split) <;> simp
@[simp] theorem State.reach_clock (t : Nat) : (s.reach t).clock = s.clock := by
  unfold State.reach; (try dsimp only); (repeat' split) <;> simp
@[simp] theorem State.reach_setPort (t : Nat) : (s.reach t).setPort = s.setPort := by
  unfold State.reach; (try dsimp only); (repeat' split) <;> simp
@[simp] theorem State.reach_service (t : Nat) : (s.reach t).service = s.service := by
  unfold State.reach; (try dsimp only); (repeat' split) <;> simp
@[simp] theorem State.reach_config (t : Nat) : (s.reach t).config = s.config := by
  unfold State.reach; (try dsimp only); (repeat' split) <;> simp
@[simp] theorem State.reach_image0 (t : Nat) : (s.reach t).image0 = s.image0 := by
  unfold State.reach; (try dsimp only); (repeat' split) <;> simp
@[simp] theorem State.reach_image1 (t : Nat) : (s.reach t).image1 = s.image1 := by
  unfold State.reach; (try dsimp only); (repeat' split) <;> simp
@[simp] theorem State.reach_lifetime (t : Nat) : (s.reach t).lifetime = s.lifetime := by
  unfold State.reach; (try dsimp only); (repeat' split) <;> simp
@[simp] theorem State.reach_period (t : Nat) : (s.reach t).period = s.period := by
  unfold State.reach; (try dsimp only); (repeat' split) <;> simp
@[simp] theorem State.reach_history (t : Nat) : (s.reach t).history = s.history := by
  unfold State.reach; (try dsimp only); (repeat' split) <;> simp
@[simp] theorem State.reach_call (t : Nat) : (s.reach t).call = s.call := by
  unfold State.reach; (try dsimp only); (repeat' split) <;> simp
@[simp] theorem State.reach_events (t : Nat) : (s.reach t).events = s.events := by
  unfold State.reach; (try dsimp only); (repeat' split) <;> simp
@[simp] theorem State.reach_nv (t : Nat) : (s.reach t).nv = s.nv := by
  unfold State.reach; (try dsimp only); (repeat' split) <;> simp
@[simp] theorem State.reach_restores (t : Nat) : (s.reach t).restores = s.restores := by
  unfold State.reach; (try dsimp only); (repeat' split) <;> simp

@[simp] theorem State.raise_now (n : Notice) : (s.raise n).now = s.now := by
  unfold State.raise; (try dsimp only); (repeat' split) <;> simp
@[simp] theorem State.raise_pending (n : Notice) : (s.raise n).pending = s.pending := by
  unfold State.raise; (try dsimp only); (repeat' split) <;> simp
@[simp] theorem State.raise_coin (n : Notice) : (s.raise n).coin = s.coin := by
  unfold State.raise; (try dsimp only); (repeat' split) <;> simp
@[simp] theorem State.raise_credit (n : Notice) : (s.raise n).credit = s.credit := by
  unfold State.raise; (try dsimp only); (repeat' split) <;> simp
@[simp] theorem State.raise_rating (n : Notice) : (s.raise n).rating = s.rating := by
  unfold State.raise; (try dsimp only); (repeat' split) <;> simp
@[simp] theorem State.raise_line (n : Notice) : (s.raise n).line = s.line := by
  unfold State.raise; (try dsimp only); (repeat' split) <;> simp
@[simp] theorem State.raise_arbiter (n : Notice) : (s.raise n).arbiter = s.arbiter := by
  unfold State.raise; (try dsimp only); (repeat' split) <;> simp
@[simp] theorem State.raise_tamper (n : Notice) : (s.raise n).tamper = s.tamper := by
  unfold State.raise; (try dsimp only); (repeat' split) <;> simp
@[simp] theorem State.raise_elapsed (n : Notice) : (s.raise n).elapsed = s.elapsed := by
  unfold State.raise; (try dsimp only); (repeat' split) <;> simp
@[simp] theorem State.raise_centre (n : Notice) : (s.raise n).centre = s.centre := by
  unfold State.raise; (try dsimp only); (repeat' split) <;> simp
@[simp] theorem State.raise_modem (n : Notice) : (s.raise n).modem = s.modem := by
  unfold State.raise; (try dsimp only); (repeat' split) <;> simp
@[simp] theorem State.raise_ledger (n : Notice) : (s.raise n).ledger = s.ledger := by
  unfold State.raise; (try dsimp only); (repeat' split) <;> simp
@[simp] theorem State.raise_power (n : Notice) : (s.raise n).power = s.power := by
  unfold State.raise; (try dsimp only); (repeat' split) <;> simp
@[simp] theorem State.raise_clock (n : Notice) : (s.raise n).clock = s.clock := by
  unfold State.raise; (try dsimp only); (repeat' split) <;> simp
@[simp] theorem State.raise_service (n : Notice) : (s.raise n).service = s.service := by
  unfold State.raise; (try dsimp only); (repeat' split) <;> simp
@[simp] theorem State.raise_config (n : Notice) : (s.raise n).config = s.config := by
  unfold State.raise; (try dsimp only); (repeat' split) <;> simp
@[simp] theorem State.raise_image0 (n : Notice) : (s.raise n).image0 = s.image0 := by
  unfold State.raise; (try dsimp only); (repeat' split) <;> simp
@[simp] theorem State.raise_image1 (n : Notice) : (s.raise n).image1 = s.image1 := by
  unfold State.raise; (try dsimp only); (repeat' split) <;> simp
@[simp] theorem State.raise_lifetime (n : Notice) : (s.raise n).lifetime = s.lifetime := by
  unfold State.raise; (try dsimp only); (repeat' split) <;> simp
@[simp] theorem State.raise_period (n : Notice) : (s.raise n).period = s.period := by
  unfold State.raise; (try dsimp only); (repeat' split) <;> simp
@[simp] theorem State.raise_history (n : Notice) : (s.raise n).history = s.history := by
  unfold State.raise; (try dsimp only); (repeat' split) <;> simp
@[simp] theorem State.raise_call (n : Notice) : (s.raise n).call = s.call := by
  unfold State.raise; (try dsimp only); (repeat' split) <;> simp
@[simp] theorem State.raise_events (n : Notice) : (s.raise n).events = s.events := by
  unfold State.raise; (try dsimp only); (repeat' split) <;> simp
@[simp] theorem State.raise_nv (n : Notice) : (s.raise n).nv = s.nv := by
  unfold State.raise; (try dsimp only); (repeat' split) <;> simp
@[simp] theorem State.raise_restores (n : Notice) : (s.raise n).restores = s.restores := by
  unfold State.raise; (try dsimp only); (repeat' split) <;> simp

@[simp] theorem State.raiseDeposit_now (d : Nat) : (s.raiseDeposit d).now = s.now := by
  unfold State.raiseDeposit; (try dsimp only); (repeat' split) <;> simp
@[simp] theorem State.raiseDeposit_pending (d : Nat) : (s.raiseDeposit d).pending = s.pending := by
  unfold State.raiseDeposit; (try dsimp only); (repeat' split) <;> simp
@[simp] theorem State.raiseDeposit_coin (d : Nat) : (s.raiseDeposit d).coin = s.coin := by
  unfold State.raiseDeposit; (try dsimp only); (repeat' split) <;> simp
@[simp] theorem State.raiseDeposit_credit (d : Nat) : (s.raiseDeposit d).credit = s.credit := by
  unfold State.raiseDeposit; (try dsimp only); (repeat' split) <;> simp
@[simp] theorem State.raiseDeposit_rating (d : Nat) : (s.raiseDeposit d).rating = s.rating := by
  unfold State.raiseDeposit; (try dsimp only); (repeat' split) <;> simp
@[simp] theorem State.raiseDeposit_line (d : Nat) : (s.raiseDeposit d).line = s.line := by
  unfold State.raiseDeposit; (try dsimp only); (repeat' split) <;> simp
@[simp] theorem State.raiseDeposit_arbiter (d : Nat) : (s.raiseDeposit d).arbiter = s.arbiter := by
  unfold State.raiseDeposit; (try dsimp only); (repeat' split) <;> simp
@[simp] theorem State.raiseDeposit_tamper (d : Nat) : (s.raiseDeposit d).tamper = s.tamper := by
  unfold State.raiseDeposit; (try dsimp only); (repeat' split) <;> simp
@[simp] theorem State.raiseDeposit_elapsed (d : Nat) : (s.raiseDeposit d).elapsed = s.elapsed := by
  unfold State.raiseDeposit; (try dsimp only); (repeat' split) <;> simp
@[simp] theorem State.raiseDeposit_centre (d : Nat) : (s.raiseDeposit d).centre = s.centre := by
  unfold State.raiseDeposit; (try dsimp only); (repeat' split) <;> simp
@[simp] theorem State.raiseDeposit_modem (d : Nat) : (s.raiseDeposit d).modem = s.modem := by
  unfold State.raiseDeposit; (try dsimp only); (repeat' split) <;> simp
@[simp] theorem State.raiseDeposit_ledger (d : Nat) : (s.raiseDeposit d).ledger = s.ledger := by
  unfold State.raiseDeposit; (try dsimp only); (repeat' split) <;> simp
@[simp] theorem State.raiseDeposit_power (d : Nat) : (s.raiseDeposit d).power = s.power := by
  unfold State.raiseDeposit; (try dsimp only); (repeat' split) <;> simp
@[simp] theorem State.raiseDeposit_clock (d : Nat) : (s.raiseDeposit d).clock = s.clock := by
  unfold State.raiseDeposit; (try dsimp only); (repeat' split) <;> simp
@[simp] theorem State.raiseDeposit_service (d : Nat) : (s.raiseDeposit d).service = s.service := by
  unfold State.raiseDeposit; (try dsimp only); (repeat' split) <;> simp
@[simp] theorem State.raiseDeposit_config (d : Nat) : (s.raiseDeposit d).config = s.config := by
  unfold State.raiseDeposit; (try dsimp only); (repeat' split) <;> simp
@[simp] theorem State.raiseDeposit_image0 (d : Nat) : (s.raiseDeposit d).image0 = s.image0 := by
  unfold State.raiseDeposit; (try dsimp only); (repeat' split) <;> simp
@[simp] theorem State.raiseDeposit_image1 (d : Nat) : (s.raiseDeposit d).image1 = s.image1 := by
  unfold State.raiseDeposit; (try dsimp only); (repeat' split) <;> simp
@[simp] theorem State.raiseDeposit_lifetime (d : Nat) : (s.raiseDeposit d).lifetime = s.lifetime := by
  unfold State.raiseDeposit; (try dsimp only); (repeat' split) <;> simp
@[simp] theorem State.raiseDeposit_period (d : Nat) : (s.raiseDeposit d).period = s.period := by
  unfold State.raiseDeposit; (try dsimp only); (repeat' split) <;> simp
@[simp] theorem State.raiseDeposit_history (d : Nat) : (s.raiseDeposit d).history = s.history := by
  unfold State.raiseDeposit; (try dsimp only); (repeat' split) <;> simp
@[simp] theorem State.raiseDeposit_call (d : Nat) : (s.raiseDeposit d).call = s.call := by
  unfold State.raiseDeposit; (try dsimp only); (repeat' split) <;> simp
@[simp] theorem State.raiseDeposit_events (d : Nat) : (s.raiseDeposit d).events = s.events := by
  unfold State.raiseDeposit; (try dsimp only); (repeat' split) <;> simp
@[simp] theorem State.raiseDeposit_nv (d : Nat) : (s.raiseDeposit d).nv = s.nv := by
  unfold State.raiseDeposit; (try dsimp only); (repeat' split) <;> simp
@[simp] theorem State.raiseDeposit_restores (d : Nat) : (s.raiseDeposit d).restores = s.restores := by
  unfold State.raiseDeposit; (try dsimp only); (repeat' split) <;> simp

@[simp] theorem State.raiseRejected_now (r : RejectReason) : (s.raiseRejected r).now = s.now := by
  unfold State.raiseRejected; (try dsimp only); (repeat' split) <;> simp
@[simp] theorem State.raiseRejected_pending (r : RejectReason) : (s.raiseRejected r).pending = s.pending := by
  unfold State.raiseRejected; (try dsimp only); (repeat' split) <;> simp
@[simp] theorem State.raiseRejected_coin (r : RejectReason) : (s.raiseRejected r).coin = s.coin := by
  unfold State.raiseRejected; (try dsimp only); (repeat' split) <;> simp
@[simp] theorem State.raiseRejected_credit (r : RejectReason) : (s.raiseRejected r).credit = s.credit := by
  unfold State.raiseRejected; (try dsimp only); (repeat' split) <;> simp
@[simp] theorem State.raiseRejected_rating (r : RejectReason) : (s.raiseRejected r).rating = s.rating := by
  unfold State.raiseRejected; (try dsimp only); (repeat' split) <;> simp
@[simp] theorem State.raiseRejected_line (r : RejectReason) : (s.raiseRejected r).line = s.line := by
  unfold State.raiseRejected; (try dsimp only); (repeat' split) <;> simp
@[simp] theorem State.raiseRejected_arbiter (r : RejectReason) : (s.raiseRejected r).arbiter = s.arbiter := by
  unfold State.raiseRejected; (try dsimp only); (repeat' split) <;> simp
@[simp] theorem State.raiseRejected_tamper (r : RejectReason) : (s.raiseRejected r).tamper = s.tamper := by
  unfold State.raiseRejected; (try dsimp only); (repeat' split) <;> simp
@[simp] theorem State.raiseRejected_elapsed (r : RejectReason) : (s.raiseRejected r).elapsed = s.elapsed := by
  unfold State.raiseRejected; (try dsimp only); (repeat' split) <;> simp
@[simp] theorem State.raiseRejected_centre (r : RejectReason) : (s.raiseRejected r).centre = s.centre := by
  unfold State.raiseRejected; (try dsimp only); (repeat' split) <;> simp
@[simp] theorem State.raiseRejected_modem (r : RejectReason) : (s.raiseRejected r).modem = s.modem := by
  unfold State.raiseRejected; (try dsimp only); (repeat' split) <;> simp
@[simp] theorem State.raiseRejected_ledger (r : RejectReason) : (s.raiseRejected r).ledger = s.ledger := by
  unfold State.raiseRejected; (try dsimp only); (repeat' split) <;> simp
@[simp] theorem State.raiseRejected_power (r : RejectReason) : (s.raiseRejected r).power = s.power := by
  unfold State.raiseRejected; (try dsimp only); (repeat' split) <;> simp
@[simp] theorem State.raiseRejected_clock (r : RejectReason) : (s.raiseRejected r).clock = s.clock := by
  unfold State.raiseRejected; (try dsimp only); (repeat' split) <;> simp
@[simp] theorem State.raiseRejected_service (r : RejectReason) : (s.raiseRejected r).service = s.service := by
  unfold State.raiseRejected; (try dsimp only); (repeat' split) <;> simp
@[simp] theorem State.raiseRejected_config (r : RejectReason) : (s.raiseRejected r).config = s.config := by
  unfold State.raiseRejected; (try dsimp only); (repeat' split) <;> simp
@[simp] theorem State.raiseRejected_image0 (r : RejectReason) : (s.raiseRejected r).image0 = s.image0 := by
  unfold State.raiseRejected; (try dsimp only); (repeat' split) <;> simp
@[simp] theorem State.raiseRejected_image1 (r : RejectReason) : (s.raiseRejected r).image1 = s.image1 := by
  unfold State.raiseRejected; (try dsimp only); (repeat' split) <;> simp
@[simp] theorem State.raiseRejected_lifetime (r : RejectReason) : (s.raiseRejected r).lifetime = s.lifetime := by
  unfold State.raiseRejected; (try dsimp only); (repeat' split) <;> simp
@[simp] theorem State.raiseRejected_period (r : RejectReason) : (s.raiseRejected r).period = s.period := by
  unfold State.raiseRejected; (try dsimp only); (repeat' split) <;> simp
@[simp] theorem State.raiseRejected_history (r : RejectReason) : (s.raiseRejected r).history = s.history := by
  unfold State.raiseRejected; (try dsimp only); (repeat' split) <;> simp
@[simp] theorem State.raiseRejected_call (r : RejectReason) : (s.raiseRejected r).call = s.call := by
  unfold State.raiseRejected; (try dsimp only); (repeat' split) <;> simp
@[simp] theorem State.raiseRejected_events (r : RejectReason) : (s.raiseRejected r).events = s.events := by
  unfold State.raiseRejected; (try dsimp only); (repeat' split) <;> simp
@[simp] theorem State.raiseRejected_nv (r : RejectReason) : (s.raiseRejected r).nv = s.nv := by
  unfold State.raiseRejected; (try dsimp only); (repeat' split) <;> simp
@[simp] theorem State.raiseRejected_restores (r : RejectReason) : (s.raiseRejected r).restores = s.restores := by
  unfold State.raiseRejected; (try dsimp only); (repeat' split) <;> simp

@[simp] theorem State.raiseRefused_now (r : RefusalReason) : (s.raiseRefused r).now = s.now := by
  unfold State.raiseRefused; (try dsimp only); (repeat' split) <;> simp
@[simp] theorem State.raiseRefused_pending (r : RefusalReason) : (s.raiseRefused r).pending = s.pending := by
  unfold State.raiseRefused; (try dsimp only); (repeat' split) <;> simp
@[simp] theorem State.raiseRefused_coin (r : RefusalReason) : (s.raiseRefused r).coin = s.coin := by
  unfold State.raiseRefused; (try dsimp only); (repeat' split) <;> simp
@[simp] theorem State.raiseRefused_credit (r : RefusalReason) : (s.raiseRefused r).credit = s.credit := by
  unfold State.raiseRefused; (try dsimp only); (repeat' split) <;> simp
@[simp] theorem State.raiseRefused_rating (r : RefusalReason) : (s.raiseRefused r).rating = s.rating := by
  unfold State.raiseRefused; (try dsimp only); (repeat' split) <;> simp
@[simp] theorem State.raiseRefused_line (r : RefusalReason) : (s.raiseRefused r).line = s.line := by
  unfold State.raiseRefused; (try dsimp only); (repeat' split) <;> simp
@[simp] theorem State.raiseRefused_arbiter (r : RefusalReason) : (s.raiseRefused r).arbiter = s.arbiter := by
  unfold State.raiseRefused; (try dsimp only); (repeat' split) <;> simp
@[simp] theorem State.raiseRefused_tamper (r : RefusalReason) : (s.raiseRefused r).tamper = s.tamper := by
  unfold State.raiseRefused; (try dsimp only); (repeat' split) <;> simp
@[simp] theorem State.raiseRefused_elapsed (r : RefusalReason) : (s.raiseRefused r).elapsed = s.elapsed := by
  unfold State.raiseRefused; (try dsimp only); (repeat' split) <;> simp
@[simp] theorem State.raiseRefused_centre (r : RefusalReason) : (s.raiseRefused r).centre = s.centre := by
  unfold State.raiseRefused; (try dsimp only); (repeat' split) <;> simp
@[simp] theorem State.raiseRefused_modem (r : RefusalReason) : (s.raiseRefused r).modem = s.modem := by
  unfold State.raiseRefused; (try dsimp only); (repeat' split) <;> simp
@[simp] theorem State.raiseRefused_ledger (r : RefusalReason) : (s.raiseRefused r).ledger = s.ledger := by
  unfold State.raiseRefused; (try dsimp only); (repeat' split) <;> simp
@[simp] theorem State.raiseRefused_power (r : RefusalReason) : (s.raiseRefused r).power = s.power := by
  unfold State.raiseRefused; (try dsimp only); (repeat' split) <;> simp
@[simp] theorem State.raiseRefused_clock (r : RefusalReason) : (s.raiseRefused r).clock = s.clock := by
  unfold State.raiseRefused; (try dsimp only); (repeat' split) <;> simp
@[simp] theorem State.raiseRefused_service (r : RefusalReason) : (s.raiseRefused r).service = s.service := by
  unfold State.raiseRefused; (try dsimp only); (repeat' split) <;> simp
@[simp] theorem State.raiseRefused_config (r : RefusalReason) : (s.raiseRefused r).config = s.config := by
  unfold State.raiseRefused; (try dsimp only); (repeat' split) <;> simp
@[simp] theorem State.raiseRefused_image0 (r : RefusalReason) : (s.raiseRefused r).image0 = s.image0 := by
  unfold State.raiseRefused; (try dsimp only); (repeat' split) <;> simp
@[simp] theorem State.raiseRefused_image1 (r : RefusalReason) : (s.raiseRefused r).image1 = s.image1 := by
  unfold State.raiseRefused; (try dsimp only); (repeat' split) <;> simp
@[simp] theorem State.raiseRefused_lifetime (r : RefusalReason) : (s.raiseRefused r).lifetime = s.lifetime := by
  unfold State.raiseRefused; (try dsimp only); (repeat' split) <;> simp
@[simp] theorem State.raiseRefused_period (r : RefusalReason) : (s.raiseRefused r).period = s.period := by
  unfold State.raiseRefused; (try dsimp only); (repeat' split) <;> simp
@[simp] theorem State.raiseRefused_history (r : RefusalReason) : (s.raiseRefused r).history = s.history := by
  unfold State.raiseRefused; (try dsimp only); (repeat' split) <;> simp
@[simp] theorem State.raiseRefused_call (r : RefusalReason) : (s.raiseRefused r).call = s.call := by
  unfold State.raiseRefused; (try dsimp only); (repeat' split) <;> simp
@[simp] theorem State.raiseRefused_events (r : RefusalReason) : (s.raiseRefused r).events = s.events := by
  unfold State.raiseRefused; (try dsimp only); (repeat' split) <;> simp
@[simp] theorem State.raiseRefused_nv (r : RefusalReason) : (s.raiseRefused r).nv = s.nv := by
  unfold State.raiseRefused; (try dsimp only); (repeat' split) <;> simp
@[simp] theorem State.raiseRefused_restores (r : RefusalReason) : (s.raiseRefused r).restores = s.restores := by
  unfold State.raiseRefused; (try dsimp only); (repeat' split) <;> simp

@[simp] theorem State.mark_now (n : Section) : (s.mark n).now = s.now := by
  unfold State.mark; (try dsimp only); (repeat' split) <;> simp
@[simp] theorem State.mark_pending (n : Section) : (s.mark n).pending = s.pending := by
  unfold State.mark; (try dsimp only); (repeat' split) <;> simp
@[simp] theorem State.mark_coin (n : Section) : (s.mark n).coin = s.coin := by
  unfold State.mark; (try dsimp only); (repeat' split) <;> simp
@[simp] theorem State.mark_credit (n : Section) : (s.mark n).credit = s.credit := by
  unfold State.mark; (try dsimp only); (repeat' split) <;> simp
@[simp] theorem State.mark_rating (n : Section) : (s.mark n).rating = s.rating := by
  unfold State.mark; (try dsimp only); (repeat' split) <;> simp
@[simp] theorem State.mark_line (n : Section) : (s.mark n).line = s.line := by
  unfold State.mark; (try dsimp only); (repeat' split) <;> simp
@[simp] theorem State.mark_arbiter (n : Section) : (s.mark n).arbiter = s.arbiter := by
  unfold State.mark; (try dsimp only); (repeat' split) <;> simp
@[simp] theorem State.mark_tamper (n : Section) : (s.mark n).tamper = s.tamper := by
  unfold State.mark; (try dsimp only); (repeat' split) <;> simp
@[simp] theorem State.mark_elapsed (n : Section) : (s.mark n).elapsed = s.elapsed := by
  unfold State.mark; (try dsimp only); (repeat' split) <;> simp
@[simp] theorem State.mark_centre (n : Section) : (s.mark n).centre = s.centre := by
  unfold State.mark; (try dsimp only); (repeat' split) <;> simp
@[simp] theorem State.mark_modem (n : Section) : (s.mark n).modem = s.modem := by
  unfold State.mark; (try dsimp only); (repeat' split) <;> simp
@[simp] theorem State.mark_power (n : Section) : (s.mark n).power = s.power := by
  unfold State.mark; (try dsimp only); (repeat' split) <;> simp
@[simp] theorem State.mark_clock (n : Section) : (s.mark n).clock = s.clock := by
  unfold State.mark; (try dsimp only); (repeat' split) <;> simp
@[simp] theorem State.mark_setPort (n : Section) : (s.mark n).setPort = s.setPort := by
  unfold State.mark; (try dsimp only); (repeat' split) <;> simp
@[simp] theorem State.mark_service (n : Section) : (s.mark n).service = s.service := by
  unfold State.mark; (try dsimp only); (repeat' split) <;> simp
@[simp] theorem State.mark_config (n : Section) : (s.mark n).config = s.config := by
  unfold State.mark; (try dsimp only); (repeat' split) <;> simp
@[simp] theorem State.mark_image0 (n : Section) : (s.mark n).image0 = s.image0 := by
  unfold State.mark; (try dsimp only); (repeat' split) <;> simp
@[simp] theorem State.mark_image1 (n : Section) : (s.mark n).image1 = s.image1 := by
  unfold State.mark; (try dsimp only); (repeat' split) <;> simp
@[simp] theorem State.mark_lifetime (n : Section) : (s.mark n).lifetime = s.lifetime := by
  unfold State.mark; (try dsimp only); (repeat' split) <;> simp
@[simp] theorem State.mark_period (n : Section) : (s.mark n).period = s.period := by
  unfold State.mark; (try dsimp only); (repeat' split) <;> simp
@[simp] theorem State.mark_history (n : Section) : (s.mark n).history = s.history := by
  unfold State.mark; (try dsimp only); (repeat' split) <;> simp
@[simp] theorem State.mark_call (n : Section) : (s.mark n).call = s.call := by
  unfold State.mark; (try dsimp only); (repeat' split) <;> simp
@[simp] theorem State.mark_events (n : Section) : (s.mark n).events = s.events := by
  unfold State.mark; (try dsimp only); (repeat' split) <;> simp
@[simp] theorem State.mark_nv (n : Section) : (s.mark n).nv = s.nv := by
  unfold State.mark; (try dsimp only); (repeat' split) <;> simp
@[simp] theorem State.mark_restores (n : Section) : (s.mark n).restores = s.restores := by
  unfold State.mark; (try dsimp only); (repeat' split) <;> simp

/-- Contents left as they were mark nothing (R167). -/
theorem State.markSince_same {b : State} {n : Section} (h : b.sameSection s n = true) : s.markSince b n = s := by
  simp [State.markSince, h]

/-- Contents that have changed mark their section (R167). -/
theorem State.markSince_changed {b : State} {n : Section} (h : b.sameSection s n = false) : s.markSince b n = s.mark n := by
  simp [State.markSince, h]

@[simp] theorem Modem.silenced_sending (m : Modem) : m.silenced.sending = none := rfl
@[simp] theorem Modem.silenced_waiting (m : Modem) : m.silenced.waiting = [] := rfl
@[simp] theorem Modem.silenced_turnaround (m : Modem) : m.silenced.turnaround = none := rfl
@[simp] theorem Modem.silenced_looks (m : Modem) : m.silenced.looks = m.looks := rfl

@[simp] theorem State.markSince_now (b : State) (n : Section) : (s.markSince b n).now = s.now := by
  unfold State.markSince; (try dsimp only); (repeat' split) <;> simp
@[simp] theorem State.markSince_pending (b : State) (n : Section) : (s.markSince b n).pending = s.pending := by
  unfold State.markSince; (try dsimp only); (repeat' split) <;> simp
@[simp] theorem State.markSince_coin (b : State) (n : Section) : (s.markSince b n).coin = s.coin := by
  unfold State.markSince; (try dsimp only); (repeat' split) <;> simp
@[simp] theorem State.markSince_credit (b : State) (n : Section) : (s.markSince b n).credit = s.credit := by
  unfold State.markSince; (try dsimp only); (repeat' split) <;> simp
@[simp] theorem State.markSince_rating (b : State) (n : Section) : (s.markSince b n).rating = s.rating := by
  unfold State.markSince; (try dsimp only); (repeat' split) <;> simp
@[simp] theorem State.markSince_line (b : State) (n : Section) : (s.markSince b n).line = s.line := by
  unfold State.markSince; (try dsimp only); (repeat' split) <;> simp
@[simp] theorem State.markSince_arbiter (b : State) (n : Section) : (s.markSince b n).arbiter = s.arbiter := by
  unfold State.markSince; (try dsimp only); (repeat' split) <;> simp
@[simp] theorem State.markSince_tamper (b : State) (n : Section) : (s.markSince b n).tamper = s.tamper := by
  unfold State.markSince; (try dsimp only); (repeat' split) <;> simp
@[simp] theorem State.markSince_elapsed (b : State) (n : Section) : (s.markSince b n).elapsed = s.elapsed := by
  unfold State.markSince; (try dsimp only); (repeat' split) <;> simp
@[simp] theorem State.markSince_centre (b : State) (n : Section) : (s.markSince b n).centre = s.centre := by
  unfold State.markSince; (try dsimp only); (repeat' split) <;> simp
@[simp] theorem State.markSince_modem (b : State) (n : Section) : (s.markSince b n).modem = s.modem := by
  unfold State.markSince; (try dsimp only); (repeat' split) <;> simp
@[simp] theorem State.markSince_power (b : State) (n : Section) : (s.markSince b n).power = s.power := by
  unfold State.markSince; (try dsimp only); (repeat' split) <;> simp
@[simp] theorem State.markSince_clock (b : State) (n : Section) : (s.markSince b n).clock = s.clock := by
  unfold State.markSince; (try dsimp only); (repeat' split) <;> simp
@[simp] theorem State.markSince_setPort (b : State) (n : Section) : (s.markSince b n).setPort = s.setPort := by
  unfold State.markSince; (try dsimp only); (repeat' split) <;> simp
@[simp] theorem State.markSince_service (b : State) (n : Section) : (s.markSince b n).service = s.service := by
  unfold State.markSince; (try dsimp only); (repeat' split) <;> simp
@[simp] theorem State.markSince_config (b : State) (n : Section) : (s.markSince b n).config = s.config := by
  unfold State.markSince; (try dsimp only); (repeat' split) <;> simp
@[simp] theorem State.markSince_image0 (b : State) (n : Section) : (s.markSince b n).image0 = s.image0 := by
  unfold State.markSince; (try dsimp only); (repeat' split) <;> simp
@[simp] theorem State.markSince_image1 (b : State) (n : Section) : (s.markSince b n).image1 = s.image1 := by
  unfold State.markSince; (try dsimp only); (repeat' split) <;> simp
@[simp] theorem State.markSince_lifetime (b : State) (n : Section) : (s.markSince b n).lifetime = s.lifetime := by
  unfold State.markSince; (try dsimp only); (repeat' split) <;> simp
@[simp] theorem State.markSince_period (b : State) (n : Section) : (s.markSince b n).period = s.period := by
  unfold State.markSince; (try dsimp only); (repeat' split) <;> simp
@[simp] theorem State.markSince_history (b : State) (n : Section) : (s.markSince b n).history = s.history := by
  unfold State.markSince; (try dsimp only); (repeat' split) <;> simp
@[simp] theorem State.markSince_call (b : State) (n : Section) : (s.markSince b n).call = s.call := by
  unfold State.markSince; (try dsimp only); (repeat' split) <;> simp
@[simp] theorem State.markSince_events (b : State) (n : Section) : (s.markSince b n).events = s.events := by
  unfold State.markSince; (try dsimp only); (repeat' split) <;> simp
@[simp] theorem State.markSince_nv (b : State) (n : Section) : (s.markSince b n).nv = s.nv := by
  unfold State.markSince; (try dsimp only); (repeat' split) <;> simp
@[simp] theorem State.markSince_restores (b : State) (n : Section) : (s.markSince b n).restores = s.restores := by
  unfold State.markSince; (try dsimp only); (repeat' split) <;> simp

@[simp] theorem State.markMoneySince_now (b : State) : (s.markMoneySince b).now = s.now := by
  unfold State.markMoneySince; (try dsimp only); (repeat' split) <;> simp
@[simp] theorem State.markMoneySince_pending (b : State) : (s.markMoneySince b).pending = s.pending := by
  unfold State.markMoneySince; (try dsimp only); (repeat' split) <;> simp
@[simp] theorem State.markMoneySince_coin (b : State) : (s.markMoneySince b).coin = s.coin := by
  unfold State.markMoneySince; (try dsimp only); (repeat' split) <;> simp
@[simp] theorem State.markMoneySince_credit (b : State) : (s.markMoneySince b).credit = s.credit := by
  unfold State.markMoneySince; (try dsimp only); (repeat' split) <;> simp
@[simp] theorem State.markMoneySince_rating (b : State) : (s.markMoneySince b).rating = s.rating := by
  unfold State.markMoneySince; (try dsimp only); (repeat' split) <;> simp
@[simp] theorem State.markMoneySince_line (b : State) : (s.markMoneySince b).line = s.line := by
  unfold State.markMoneySince; (try dsimp only); (repeat' split) <;> simp
@[simp] theorem State.markMoneySince_arbiter (b : State) : (s.markMoneySince b).arbiter = s.arbiter := by
  unfold State.markMoneySince; (try dsimp only); (repeat' split) <;> simp
@[simp] theorem State.markMoneySince_tamper (b : State) : (s.markMoneySince b).tamper = s.tamper := by
  unfold State.markMoneySince; (try dsimp only); (repeat' split) <;> simp
@[simp] theorem State.markMoneySince_elapsed (b : State) : (s.markMoneySince b).elapsed = s.elapsed := by
  unfold State.markMoneySince; (try dsimp only); (repeat' split) <;> simp
@[simp] theorem State.markMoneySince_centre (b : State) : (s.markMoneySince b).centre = s.centre := by
  unfold State.markMoneySince; (try dsimp only); (repeat' split) <;> simp
@[simp] theorem State.markMoneySince_modem (b : State) : (s.markMoneySince b).modem = s.modem := by
  unfold State.markMoneySince; (try dsimp only); (repeat' split) <;> simp
@[simp] theorem State.markMoneySince_power (b : State) : (s.markMoneySince b).power = s.power := by
  unfold State.markMoneySince; (try dsimp only); (repeat' split) <;> simp
@[simp] theorem State.markMoneySince_clock (b : State) : (s.markMoneySince b).clock = s.clock := by
  unfold State.markMoneySince; (try dsimp only); (repeat' split) <;> simp
@[simp] theorem State.markMoneySince_setPort (b : State) : (s.markMoneySince b).setPort = s.setPort := by
  unfold State.markMoneySince; (try dsimp only); (repeat' split) <;> simp
@[simp] theorem State.markMoneySince_service (b : State) : (s.markMoneySince b).service = s.service := by
  unfold State.markMoneySince; (try dsimp only); (repeat' split) <;> simp
@[simp] theorem State.markMoneySince_config (b : State) : (s.markMoneySince b).config = s.config := by
  unfold State.markMoneySince; (try dsimp only); (repeat' split) <;> simp
@[simp] theorem State.markMoneySince_image0 (b : State) : (s.markMoneySince b).image0 = s.image0 := by
  unfold State.markMoneySince; (try dsimp only); (repeat' split) <;> simp
@[simp] theorem State.markMoneySince_image1 (b : State) : (s.markMoneySince b).image1 = s.image1 := by
  unfold State.markMoneySince; (try dsimp only); (repeat' split) <;> simp
@[simp] theorem State.markMoneySince_lifetime (b : State) : (s.markMoneySince b).lifetime = s.lifetime := by
  unfold State.markMoneySince; (try dsimp only); (repeat' split) <;> simp
@[simp] theorem State.markMoneySince_period (b : State) : (s.markMoneySince b).period = s.period := by
  unfold State.markMoneySince; (try dsimp only); (repeat' split) <;> simp
@[simp] theorem State.markMoneySince_history (b : State) : (s.markMoneySince b).history = s.history := by
  unfold State.markMoneySince; (try dsimp only); (repeat' split) <;> simp
@[simp] theorem State.markMoneySince_call (b : State) : (s.markMoneySince b).call = s.call := by
  unfold State.markMoneySince; (try dsimp only); (repeat' split) <;> simp
@[simp] theorem State.markMoneySince_events (b : State) : (s.markMoneySince b).events = s.events := by
  unfold State.markMoneySince; (try dsimp only); (repeat' split) <;> simp
@[simp] theorem State.markMoneySince_nv (b : State) : (s.markMoneySince b).nv = s.nv := by
  unfold State.markMoneySince; (try dsimp only); (repeat' split) <;> simp
@[simp] theorem State.markMoneySince_restores (b : State) : (s.markMoneySince b).restores = s.restores := by
  unfold State.markMoneySince; (try dsimp only); (repeat' split) <;> simp

@[simp] theorem State.occur_now (p : EventPair) (d : Detail) : (s.occur p d).now = s.now := by
  unfold State.occur; (try dsimp only); (repeat' split) <;> simp
@[simp] theorem State.occur_pending (p : EventPair) (d : Detail) : (s.occur p d).pending = s.pending := by
  unfold State.occur; (try dsimp only); (repeat' split) <;> simp
@[simp] theorem State.occur_coin (p : EventPair) (d : Detail) : (s.occur p d).coin = s.coin := by
  unfold State.occur; (try dsimp only); (repeat' split) <;> simp
@[simp] theorem State.occur_credit (p : EventPair) (d : Detail) : (s.occur p d).credit = s.credit := by
  unfold State.occur; (try dsimp only); (repeat' split) <;> simp
@[simp] theorem State.occur_rating (p : EventPair) (d : Detail) : (s.occur p d).rating = s.rating := by
  unfold State.occur; (try dsimp only); (repeat' split) <;> simp
@[simp] theorem State.occur_line (p : EventPair) (d : Detail) : (s.occur p d).line = s.line := by
  unfold State.occur; (try dsimp only); (repeat' split) <;> simp
@[simp] theorem State.occur_arbiter (p : EventPair) (d : Detail) : (s.occur p d).arbiter = s.arbiter := by
  unfold State.occur; (try dsimp only); (repeat' split) <;> simp
@[simp] theorem State.occur_tamper (p : EventPair) (d : Detail) : (s.occur p d).tamper = s.tamper := by
  unfold State.occur; (try dsimp only); (repeat' split) <;> simp
@[simp] theorem State.occur_elapsed (p : EventPair) (d : Detail) : (s.occur p d).elapsed = s.elapsed := by
  unfold State.occur; (try dsimp only); (repeat' split) <;> simp
@[simp] theorem State.occur_centre (p : EventPair) (d : Detail) : (s.occur p d).centre = s.centre := by
  unfold State.occur; (try dsimp only); (repeat' split) <;> simp
@[simp] theorem State.occur_modem (p : EventPair) (d : Detail) : (s.occur p d).modem = s.modem := by
  unfold State.occur; (try dsimp only); (repeat' split) <;> simp
@[simp] theorem State.occur_power (p : EventPair) (d : Detail) : (s.occur p d).power = s.power := by
  unfold State.occur; (try dsimp only); (repeat' split) <;> simp
@[simp] theorem State.occur_clock (p : EventPair) (d : Detail) : (s.occur p d).clock = s.clock := by
  unfold State.occur; (try dsimp only); (repeat' split) <;> simp
@[simp] theorem State.occur_setPort (p : EventPair) (d : Detail) : (s.occur p d).setPort = s.setPort := by
  unfold State.occur; (try dsimp only); (repeat' split) <;> simp
@[simp] theorem State.occur_service (p : EventPair) (d : Detail) : (s.occur p d).service = s.service := by
  unfold State.occur; (try dsimp only); (repeat' split) <;> simp
@[simp] theorem State.occur_config (p : EventPair) (d : Detail) : (s.occur p d).config = s.config := by
  unfold State.occur; (try dsimp only); (repeat' split) <;> simp
@[simp] theorem State.occur_image0 (p : EventPair) (d : Detail) : (s.occur p d).image0 = s.image0 := by
  unfold State.occur; (try dsimp only); (repeat' split) <;> simp
@[simp] theorem State.occur_image1 (p : EventPair) (d : Detail) : (s.occur p d).image1 = s.image1 := by
  unfold State.occur; (try dsimp only); (repeat' split) <;> simp
@[simp] theorem State.occur_lifetime (p : EventPair) (d : Detail) : (s.occur p d).lifetime = s.lifetime := by
  unfold State.occur; (try dsimp only); (repeat' split) <;> simp
@[simp] theorem State.occur_period (p : EventPair) (d : Detail) : (s.occur p d).period = s.period := by
  unfold State.occur; (try dsimp only); (repeat' split) <;> simp
@[simp] theorem State.occur_history (p : EventPair) (d : Detail) : (s.occur p d).history = s.history := by
  unfold State.occur; (try dsimp only); (repeat' split) <;> simp
@[simp] theorem State.occur_call (p : EventPair) (d : Detail) : (s.occur p d).call = s.call := by
  unfold State.occur; (try dsimp only); (repeat' split) <;> simp
@[simp] theorem State.occur_nv (p : EventPair) (d : Detail) : (s.occur p d).nv = s.nv := by
  unfold State.occur; (try dsimp only); (repeat' split) <;> simp
@[simp] theorem State.occur_restores (p : EventPair) (d : Detail) : (s.occur p d).restores = s.restores := by
  unfold State.occur; (try dsimp only); (repeat' split) <;> simp

@[simp] theorem State.changeRecord_now (q : BitVec 16) (f : EventRecord → EventRecord) : (s.changeRecord q f).now = s.now := by
  unfold State.changeRecord; (try dsimp only); (repeat' split) <;> simp
@[simp] theorem State.changeRecord_pending (q : BitVec 16) (f : EventRecord → EventRecord) : (s.changeRecord q f).pending = s.pending := by
  unfold State.changeRecord; (try dsimp only); (repeat' split) <;> simp
@[simp] theorem State.changeRecord_coin (q : BitVec 16) (f : EventRecord → EventRecord) : (s.changeRecord q f).coin = s.coin := by
  unfold State.changeRecord; (try dsimp only); (repeat' split) <;> simp
@[simp] theorem State.changeRecord_credit (q : BitVec 16) (f : EventRecord → EventRecord) : (s.changeRecord q f).credit = s.credit := by
  unfold State.changeRecord; (try dsimp only); (repeat' split) <;> simp
@[simp] theorem State.changeRecord_rating (q : BitVec 16) (f : EventRecord → EventRecord) : (s.changeRecord q f).rating = s.rating := by
  unfold State.changeRecord; (try dsimp only); (repeat' split) <;> simp
@[simp] theorem State.changeRecord_line (q : BitVec 16) (f : EventRecord → EventRecord) : (s.changeRecord q f).line = s.line := by
  unfold State.changeRecord; (try dsimp only); (repeat' split) <;> simp
@[simp] theorem State.changeRecord_arbiter (q : BitVec 16) (f : EventRecord → EventRecord) : (s.changeRecord q f).arbiter = s.arbiter := by
  unfold State.changeRecord; (try dsimp only); (repeat' split) <;> simp
@[simp] theorem State.changeRecord_tamper (q : BitVec 16) (f : EventRecord → EventRecord) : (s.changeRecord q f).tamper = s.tamper := by
  unfold State.changeRecord; (try dsimp only); (repeat' split) <;> simp
@[simp] theorem State.changeRecord_elapsed (q : BitVec 16) (f : EventRecord → EventRecord) : (s.changeRecord q f).elapsed = s.elapsed := by
  unfold State.changeRecord; (try dsimp only); (repeat' split) <;> simp
@[simp] theorem State.changeRecord_centre (q : BitVec 16) (f : EventRecord → EventRecord) : (s.changeRecord q f).centre = s.centre := by
  unfold State.changeRecord; (try dsimp only); (repeat' split) <;> simp
@[simp] theorem State.changeRecord_modem (q : BitVec 16) (f : EventRecord → EventRecord) : (s.changeRecord q f).modem = s.modem := by
  unfold State.changeRecord; (try dsimp only); (repeat' split) <;> simp
@[simp] theorem State.changeRecord_power (q : BitVec 16) (f : EventRecord → EventRecord) : (s.changeRecord q f).power = s.power := by
  unfold State.changeRecord; (try dsimp only); (repeat' split) <;> simp
@[simp] theorem State.changeRecord_clock (q : BitVec 16) (f : EventRecord → EventRecord) : (s.changeRecord q f).clock = s.clock := by
  unfold State.changeRecord; (try dsimp only); (repeat' split) <;> simp
@[simp] theorem State.changeRecord_setPort (q : BitVec 16) (f : EventRecord → EventRecord) : (s.changeRecord q f).setPort = s.setPort := by
  unfold State.changeRecord; (try dsimp only); (repeat' split) <;> simp
@[simp] theorem State.changeRecord_service (q : BitVec 16) (f : EventRecord → EventRecord) : (s.changeRecord q f).service = s.service := by
  unfold State.changeRecord; (try dsimp only); (repeat' split) <;> simp
@[simp] theorem State.changeRecord_config (q : BitVec 16) (f : EventRecord → EventRecord) : (s.changeRecord q f).config = s.config := by
  unfold State.changeRecord; (try dsimp only); (repeat' split) <;> simp
@[simp] theorem State.changeRecord_image0 (q : BitVec 16) (f : EventRecord → EventRecord) : (s.changeRecord q f).image0 = s.image0 := by
  unfold State.changeRecord; (try dsimp only); (repeat' split) <;> simp
@[simp] theorem State.changeRecord_image1 (q : BitVec 16) (f : EventRecord → EventRecord) : (s.changeRecord q f).image1 = s.image1 := by
  unfold State.changeRecord; (try dsimp only); (repeat' split) <;> simp
@[simp] theorem State.changeRecord_lifetime (q : BitVec 16) (f : EventRecord → EventRecord) : (s.changeRecord q f).lifetime = s.lifetime := by
  unfold State.changeRecord; (try dsimp only); (repeat' split) <;> simp
@[simp] theorem State.changeRecord_period (q : BitVec 16) (f : EventRecord → EventRecord) : (s.changeRecord q f).period = s.period := by
  unfold State.changeRecord; (try dsimp only); (repeat' split) <;> simp
@[simp] theorem State.changeRecord_history (q : BitVec 16) (f : EventRecord → EventRecord) : (s.changeRecord q f).history = s.history := by
  unfold State.changeRecord; (try dsimp only); (repeat' split) <;> simp
@[simp] theorem State.changeRecord_call (q : BitVec 16) (f : EventRecord → EventRecord) : (s.changeRecord q f).call = s.call := by
  unfold State.changeRecord; (try dsimp only); (repeat' split) <;> simp
@[simp] theorem State.changeRecord_nv (q : BitVec 16) (f : EventRecord → EventRecord) : (s.changeRecord q f).nv = s.nv := by
  unfold State.changeRecord; (try dsimp only); (repeat' split) <;> simp
@[simp] theorem State.changeRecord_restores (q : BitVec 16) (f : EventRecord → EventRecord) : (s.changeRecord q f).restores = s.restores := by
  unfold State.changeRecord; (try dsimp only); (repeat' split) <;> simp

@[simp] theorem State.setLatch_now (i : Input) : (s.setLatch i).now = s.now := by
  unfold State.setLatch; (try dsimp only); (repeat' split) <;> simp
@[simp] theorem State.setLatch_pending (i : Input) : (s.setLatch i).pending = s.pending := by
  unfold State.setLatch; (try dsimp only); (repeat' split) <;> simp
@[simp] theorem State.setLatch_coin (i : Input) : (s.setLatch i).coin = s.coin := by
  unfold State.setLatch; (try dsimp only); (repeat' split) <;> simp
@[simp] theorem State.setLatch_credit (i : Input) : (s.setLatch i).credit = s.credit := by
  unfold State.setLatch; (try dsimp only); (repeat' split) <;> simp
@[simp] theorem State.setLatch_rating (i : Input) : (s.setLatch i).rating = s.rating := by
  unfold State.setLatch; (try dsimp only); (repeat' split) <;> simp
@[simp] theorem State.setLatch_line (i : Input) : (s.setLatch i).line = s.line := by
  unfold State.setLatch; (try dsimp only); (repeat' split) <;> simp
@[simp] theorem State.setLatch_arbiter (i : Input) : (s.setLatch i).arbiter = s.arbiter := by
  unfold State.setLatch; (try dsimp only); (repeat' split) <;> simp
@[simp] theorem State.setLatch_tamper (i : Input) : (s.setLatch i).tamper = s.tamper := by
  unfold State.setLatch; (try dsimp only); (repeat' split) <;> simp
@[simp] theorem State.setLatch_elapsed (i : Input) : (s.setLatch i).elapsed = s.elapsed := by
  unfold State.setLatch; (try dsimp only); (repeat' split) <;> simp
@[simp] theorem State.setLatch_centre (i : Input) : (s.setLatch i).centre = s.centre := by
  unfold State.setLatch; (try dsimp only); (repeat' split) <;> simp
@[simp] theorem State.setLatch_modem (i : Input) : (s.setLatch i).modem = s.modem := by
  unfold State.setLatch; (try dsimp only); (repeat' split) <;> simp
@[simp] theorem State.setLatch_power (i : Input) : (s.setLatch i).power = s.power := by
  unfold State.setLatch; (try dsimp only); (repeat' split) <;> simp
@[simp] theorem State.setLatch_clock (i : Input) : (s.setLatch i).clock = s.clock := by
  unfold State.setLatch; (try dsimp only); (repeat' split) <;> simp
@[simp] theorem State.setLatch_service (i : Input) : (s.setLatch i).service = s.service := by
  unfold State.setLatch; (try dsimp only); (repeat' split) <;> simp
@[simp] theorem State.setLatch_config (i : Input) : (s.setLatch i).config = s.config := by
  unfold State.setLatch; (try dsimp only); (repeat' split) <;> simp
@[simp] theorem State.setLatch_image0 (i : Input) : (s.setLatch i).image0 = s.image0 := by
  unfold State.setLatch; (try dsimp only); (repeat' split) <;> simp
@[simp] theorem State.setLatch_image1 (i : Input) : (s.setLatch i).image1 = s.image1 := by
  unfold State.setLatch; (try dsimp only); (repeat' split) <;> simp
@[simp] theorem State.setLatch_lifetime (i : Input) : (s.setLatch i).lifetime = s.lifetime := by
  unfold State.setLatch; (try dsimp only); (repeat' split) <;> simp
@[simp] theorem State.setLatch_period (i : Input) : (s.setLatch i).period = s.period := by
  unfold State.setLatch; (try dsimp only); (repeat' split) <;> simp
@[simp] theorem State.setLatch_history (i : Input) : (s.setLatch i).history = s.history := by
  unfold State.setLatch; (try dsimp only); (repeat' split) <;> simp
@[simp] theorem State.setLatch_call (i : Input) : (s.setLatch i).call = s.call := by
  unfold State.setLatch; (try dsimp only); (repeat' split) <;> simp
@[simp] theorem State.setLatch_nv (i : Input) : (s.setLatch i).nv = s.nv := by
  unfold State.setLatch; (try dsimp only); (repeat' split) <;> simp
@[simp] theorem State.setLatch_restores (i : Input) : (s.setLatch i).restores = s.restores := by
  unfold State.setLatch; (try dsimp only); (repeat' split) <;> simp

@[simp] theorem State.clearLatches_now (m : BitVec 5) : (s.clearLatches m).now = s.now := by
  unfold State.clearLatches; (try dsimp only); (repeat' split) <;> simp
@[simp] theorem State.clearLatches_pending (m : BitVec 5) : (s.clearLatches m).pending = s.pending := by
  unfold State.clearLatches; (try dsimp only); (repeat' split) <;> simp
@[simp] theorem State.clearLatches_coin (m : BitVec 5) : (s.clearLatches m).coin = s.coin := by
  unfold State.clearLatches; (try dsimp only); (repeat' split) <;> simp
@[simp] theorem State.clearLatches_credit (m : BitVec 5) : (s.clearLatches m).credit = s.credit := by
  unfold State.clearLatches; (try dsimp only); (repeat' split) <;> simp
@[simp] theorem State.clearLatches_rating (m : BitVec 5) : (s.clearLatches m).rating = s.rating := by
  unfold State.clearLatches; (try dsimp only); (repeat' split) <;> simp
@[simp] theorem State.clearLatches_line (m : BitVec 5) : (s.clearLatches m).line = s.line := by
  unfold State.clearLatches; (try dsimp only); (repeat' split) <;> simp
@[simp] theorem State.clearLatches_arbiter (m : BitVec 5) : (s.clearLatches m).arbiter = s.arbiter := by
  unfold State.clearLatches; (try dsimp only); (repeat' split) <;> simp
@[simp] theorem State.clearLatches_tamper (m : BitVec 5) : (s.clearLatches m).tamper = s.tamper := by
  unfold State.clearLatches; (try dsimp only); (repeat' split) <;> simp
@[simp] theorem State.clearLatches_elapsed (m : BitVec 5) : (s.clearLatches m).elapsed = s.elapsed := by
  unfold State.clearLatches; (try dsimp only); (repeat' split) <;> simp
@[simp] theorem State.clearLatches_centre (m : BitVec 5) : (s.clearLatches m).centre = s.centre := by
  unfold State.clearLatches; (try dsimp only); (repeat' split) <;> simp
@[simp] theorem State.clearLatches_modem (m : BitVec 5) : (s.clearLatches m).modem = s.modem := by
  unfold State.clearLatches; (try dsimp only); (repeat' split) <;> simp
@[simp] theorem State.clearLatches_power (m : BitVec 5) : (s.clearLatches m).power = s.power := by
  unfold State.clearLatches; (try dsimp only); (repeat' split) <;> simp
@[simp] theorem State.clearLatches_clock (m : BitVec 5) : (s.clearLatches m).clock = s.clock := by
  unfold State.clearLatches; (try dsimp only); (repeat' split) <;> simp
@[simp] theorem State.clearLatches_setPort (m : BitVec 5) : (s.clearLatches m).setPort = s.setPort := by
  unfold State.clearLatches; (try dsimp only); (repeat' split) <;> simp
@[simp] theorem State.clearLatches_service (m : BitVec 5) : (s.clearLatches m).service = s.service := by
  unfold State.clearLatches; (try dsimp only); (repeat' split) <;> simp
@[simp] theorem State.clearLatches_config (m : BitVec 5) : (s.clearLatches m).config = s.config := by
  unfold State.clearLatches; (try dsimp only); (repeat' split) <;> simp
@[simp] theorem State.clearLatches_image0 (m : BitVec 5) : (s.clearLatches m).image0 = s.image0 := by
  unfold State.clearLatches; (try dsimp only); (repeat' split) <;> simp
@[simp] theorem State.clearLatches_image1 (m : BitVec 5) : (s.clearLatches m).image1 = s.image1 := by
  unfold State.clearLatches; (try dsimp only); (repeat' split) <;> simp
@[simp] theorem State.clearLatches_lifetime (m : BitVec 5) : (s.clearLatches m).lifetime = s.lifetime := by
  unfold State.clearLatches; (try dsimp only); (repeat' split) <;> simp
@[simp] theorem State.clearLatches_period (m : BitVec 5) : (s.clearLatches m).period = s.period := by
  unfold State.clearLatches; (try dsimp only); (repeat' split) <;> simp
@[simp] theorem State.clearLatches_history (m : BitVec 5) : (s.clearLatches m).history = s.history := by
  unfold State.clearLatches; (try dsimp only); (repeat' split) <;> simp
@[simp] theorem State.clearLatches_call (m : BitVec 5) : (s.clearLatches m).call = s.call := by
  unfold State.clearLatches; (try dsimp only); (repeat' split) <;> simp
@[simp] theorem State.clearLatches_nv (m : BitVec 5) : (s.clearLatches m).nv = s.nv := by
  unfold State.clearLatches; (try dsimp only); (repeat' split) <;> simp
@[simp] theorem State.clearLatches_restores (m : BitVec 5) : (s.clearLatches m).restores = s.restores := by
  unfold State.clearLatches; (try dsimp only); (repeat' split) <;> simp

@[simp] theorem State.setPhase_now (p : LinePhase) : (s.setPhase p).now = s.now := by
  unfold State.setPhase; (try dsimp only); (repeat' split) <;> simp
@[simp] theorem State.setPhase_pending (p : LinePhase) : (s.setPhase p).pending = s.pending := by
  unfold State.setPhase; (try dsimp only); (repeat' split) <;> simp
@[simp] theorem State.setPhase_coin (p : LinePhase) : (s.setPhase p).coin = s.coin := by
  unfold State.setPhase; (try dsimp only); (repeat' split) <;> simp
@[simp] theorem State.setPhase_credit (p : LinePhase) : (s.setPhase p).credit = s.credit := by
  unfold State.setPhase; (try dsimp only); (repeat' split) <;> simp
@[simp] theorem State.setPhase_rating (p : LinePhase) : (s.setPhase p).rating = s.rating := by
  unfold State.setPhase; (try dsimp only); (repeat' split) <;> simp
@[simp] theorem State.setPhase_arbiter (p : LinePhase) : (s.setPhase p).arbiter = s.arbiter := by
  unfold State.setPhase; (try dsimp only); (repeat' split) <;> simp
@[simp] theorem State.setPhase_tamper (p : LinePhase) : (s.setPhase p).tamper = s.tamper := by
  unfold State.setPhase; (try dsimp only); (repeat' split) <;> simp
@[simp] theorem State.setPhase_elapsed (p : LinePhase) : (s.setPhase p).elapsed = s.elapsed := by
  unfold State.setPhase; (try dsimp only); (repeat' split) <;> simp
@[simp] theorem State.setPhase_centre (p : LinePhase) : (s.setPhase p).centre = s.centre := by
  unfold State.setPhase; (try dsimp only); (repeat' split) <;> simp
@[simp] theorem State.setPhase_modem (p : LinePhase) : (s.setPhase p).modem = s.modem := by
  unfold State.setPhase; (try dsimp only); (repeat' split) <;> simp
@[simp] theorem State.setPhase_ledger (p : LinePhase) : (s.setPhase p).ledger = s.ledger := by
  unfold State.setPhase; (try dsimp only); (repeat' split) <;> simp
@[simp] theorem State.setPhase_power (p : LinePhase) : (s.setPhase p).power = s.power := by
  unfold State.setPhase; (try dsimp only); (repeat' split) <;> simp
@[simp] theorem State.setPhase_clock (p : LinePhase) : (s.setPhase p).clock = s.clock := by
  unfold State.setPhase; (try dsimp only); (repeat' split) <;> simp
@[simp] theorem State.setPhase_service (p : LinePhase) : (s.setPhase p).service = s.service := by
  unfold State.setPhase; (try dsimp only); (repeat' split) <;> simp
@[simp] theorem State.setPhase_config (p : LinePhase) : (s.setPhase p).config = s.config := by
  unfold State.setPhase; (try dsimp only); (repeat' split) <;> simp
@[simp] theorem State.setPhase_image0 (p : LinePhase) : (s.setPhase p).image0 = s.image0 := by
  unfold State.setPhase; (try dsimp only); (repeat' split) <;> simp
@[simp] theorem State.setPhase_image1 (p : LinePhase) : (s.setPhase p).image1 = s.image1 := by
  unfold State.setPhase; (try dsimp only); (repeat' split) <;> simp
@[simp] theorem State.setPhase_lifetime (p : LinePhase) : (s.setPhase p).lifetime = s.lifetime := by
  unfold State.setPhase; (try dsimp only); (repeat' split) <;> simp
@[simp] theorem State.setPhase_period (p : LinePhase) : (s.setPhase p).period = s.period := by
  unfold State.setPhase; (try dsimp only); (repeat' split) <;> simp
@[simp] theorem State.setPhase_history (p : LinePhase) : (s.setPhase p).history = s.history := by
  unfold State.setPhase; (try dsimp only); (repeat' split) <;> simp
@[simp] theorem State.setPhase_call (p : LinePhase) : (s.setPhase p).call = s.call := by
  unfold State.setPhase; (try dsimp only); (repeat' split) <;> simp
@[simp] theorem State.setPhase_events (p : LinePhase) : (s.setPhase p).events = s.events := by
  unfold State.setPhase; (try dsimp only); (repeat' split) <;> simp
@[simp] theorem State.setPhase_nv (p : LinePhase) : (s.setPhase p).nv = s.nv := by
  unfold State.setPhase; (try dsimp only); (repeat' split) <;> simp
@[simp] theorem State.setPhase_restores (p : LinePhase) : (s.setPhase p).restores = s.restores := by
  unfold State.setPhase; (try dsimp only); (repeat' split) <;> simp

@[simp] theorem State.startDigit_now : (s.startDigit).now = s.now := by
  unfold State.startDigit; (try dsimp only); (repeat' split) <;> simp
@[simp] theorem State.startDigit_pending : (s.startDigit).pending = s.pending := by
  unfold State.startDigit; (try dsimp only); (repeat' split) <;> simp
@[simp] theorem State.startDigit_coin : (s.startDigit).coin = s.coin := by
  unfold State.startDigit; (try dsimp only); (repeat' split) <;> simp
@[simp] theorem State.startDigit_credit : (s.startDigit).credit = s.credit := by
  unfold State.startDigit; (try dsimp only); (repeat' split) <;> simp
@[simp] theorem State.startDigit_rating : (s.startDigit).rating = s.rating := by
  unfold State.startDigit; (try dsimp only); (repeat' split) <;> simp
@[simp] theorem State.startDigit_arbiter : (s.startDigit).arbiter = s.arbiter := by
  unfold State.startDigit; (try dsimp only); (repeat' split) <;> simp
@[simp] theorem State.startDigit_tamper : (s.startDigit).tamper = s.tamper := by
  unfold State.startDigit; (try dsimp only); (repeat' split) <;> simp
@[simp] theorem State.startDigit_elapsed : (s.startDigit).elapsed = s.elapsed := by
  unfold State.startDigit; (try dsimp only); (repeat' split) <;> simp
@[simp] theorem State.startDigit_centre : (s.startDigit).centre = s.centre := by
  unfold State.startDigit; (try dsimp only); (repeat' split) <;> simp
@[simp] theorem State.startDigit_modem : (s.startDigit).modem = s.modem := by
  unfold State.startDigit; (try dsimp only); (repeat' split) <;> simp
@[simp] theorem State.startDigit_ledger : (s.startDigit).ledger = s.ledger := by
  unfold State.startDigit; (try dsimp only); (repeat' split) <;> simp
@[simp] theorem State.startDigit_power : (s.startDigit).power = s.power := by
  unfold State.startDigit; (try dsimp only); (repeat' split) <;> simp
@[simp] theorem State.startDigit_clock : (s.startDigit).clock = s.clock := by
  unfold State.startDigit; (try dsimp only); (repeat' split) <;> simp
@[simp] theorem State.startDigit_setPort : (s.startDigit).setPort = s.setPort := by
  unfold State.startDigit; (try dsimp only); (repeat' split) <;> simp
@[simp] theorem State.startDigit_service : (s.startDigit).service = s.service := by
  unfold State.startDigit; (try dsimp only); (repeat' split) <;> simp
@[simp] theorem State.startDigit_config : (s.startDigit).config = s.config := by
  unfold State.startDigit; (try dsimp only); (repeat' split) <;> simp
@[simp] theorem State.startDigit_image0 : (s.startDigit).image0 = s.image0 := by
  unfold State.startDigit; (try dsimp only); (repeat' split) <;> simp
@[simp] theorem State.startDigit_image1 : (s.startDigit).image1 = s.image1 := by
  unfold State.startDigit; (try dsimp only); (repeat' split) <;> simp
@[simp] theorem State.startDigit_lifetime : (s.startDigit).lifetime = s.lifetime := by
  unfold State.startDigit; (try dsimp only); (repeat' split) <;> simp
@[simp] theorem State.startDigit_period : (s.startDigit).period = s.period := by
  unfold State.startDigit; (try dsimp only); (repeat' split) <;> simp
@[simp] theorem State.startDigit_history : (s.startDigit).history = s.history := by
  unfold State.startDigit; (try dsimp only); (repeat' split) <;> simp
@[simp] theorem State.startDigit_call : (s.startDigit).call = s.call := by
  unfold State.startDigit; (try dsimp only); (repeat' split) <;> simp
@[simp] theorem State.startDigit_events : (s.startDigit).events = s.events := by
  unfold State.startDigit; (try dsimp only); (repeat' split) <;> simp
@[simp] theorem State.startDigit_nv : (s.startDigit).nv = s.nv := by
  unfold State.startDigit; (try dsimp only); (repeat' split) <;> simp
@[simp] theorem State.startDigit_restores : (s.startDigit).restores = s.restores := by
  unfold State.startDigit; (try dsimp only); (repeat' split) <;> simp

@[simp] theorem State.startDialOut_now : (s.startDialOut).now = s.now := by
  unfold State.startDialOut; (try dsimp only); (repeat' split) <;> simp
@[simp] theorem State.startDialOut_pending : (s.startDialOut).pending = s.pending := by
  unfold State.startDialOut; (try dsimp only); (repeat' split) <;> simp
@[simp] theorem State.startDialOut_coin : (s.startDialOut).coin = s.coin := by
  unfold State.startDialOut; (try dsimp only); (repeat' split) <;> simp
@[simp] theorem State.startDialOut_credit : (s.startDialOut).credit = s.credit := by
  unfold State.startDialOut; (try dsimp only); (repeat' split) <;> simp
@[simp] theorem State.startDialOut_rating : (s.startDialOut).rating = s.rating := by
  unfold State.startDialOut; (try dsimp only); (repeat' split) <;> simp
@[simp] theorem State.startDialOut_arbiter : (s.startDialOut).arbiter = s.arbiter := by
  unfold State.startDialOut; (try dsimp only); (repeat' split) <;> simp
@[simp] theorem State.startDialOut_tamper : (s.startDialOut).tamper = s.tamper := by
  unfold State.startDialOut; (try dsimp only); (repeat' split) <;> simp
@[simp] theorem State.startDialOut_elapsed : (s.startDialOut).elapsed = s.elapsed := by
  unfold State.startDialOut; (try dsimp only); (repeat' split) <;> simp
@[simp] theorem State.startDialOut_centre : (s.startDialOut).centre = s.centre := by
  unfold State.startDialOut; (try dsimp only); (repeat' split) <;> simp
@[simp] theorem State.startDialOut_modem : (s.startDialOut).modem = s.modem := by
  unfold State.startDialOut; (try dsimp only); (repeat' split) <;> simp
@[simp] theorem State.startDialOut_ledger : (s.startDialOut).ledger = s.ledger := by
  unfold State.startDialOut; (try dsimp only); (repeat' split) <;> simp
@[simp] theorem State.startDialOut_power : (s.startDialOut).power = s.power := by
  unfold State.startDialOut; (try dsimp only); (repeat' split) <;> simp
@[simp] theorem State.startDialOut_clock : (s.startDialOut).clock = s.clock := by
  unfold State.startDialOut; (try dsimp only); (repeat' split) <;> simp
@[simp] theorem State.startDialOut_service : (s.startDialOut).service = s.service := by
  unfold State.startDialOut; (try dsimp only); (repeat' split) <;> simp
@[simp] theorem State.startDialOut_config : (s.startDialOut).config = s.config := by
  unfold State.startDialOut; (try dsimp only); (repeat' split) <;> simp
@[simp] theorem State.startDialOut_image0 : (s.startDialOut).image0 = s.image0 := by
  unfold State.startDialOut; (try dsimp only); (repeat' split) <;> simp
@[simp] theorem State.startDialOut_image1 : (s.startDialOut).image1 = s.image1 := by
  unfold State.startDialOut; (try dsimp only); (repeat' split) <;> simp
@[simp] theorem State.startDialOut_lifetime : (s.startDialOut).lifetime = s.lifetime := by
  unfold State.startDialOut; (try dsimp only); (repeat' split) <;> simp
@[simp] theorem State.startDialOut_period : (s.startDialOut).period = s.period := by
  unfold State.startDialOut; (try dsimp only); (repeat' split) <;> simp
@[simp] theorem State.startDialOut_history : (s.startDialOut).history = s.history := by
  unfold State.startDialOut; (try dsimp only); (repeat' split) <;> simp
@[simp] theorem State.startDialOut_call : (s.startDialOut).call = s.call := by
  unfold State.startDialOut; (try dsimp only); (repeat' split) <;> simp
@[simp] theorem State.startDialOut_events : (s.startDialOut).events = s.events := by
  unfold State.startDialOut; (try dsimp only); (repeat' split) <;> simp
@[simp] theorem State.startDialOut_nv : (s.startDialOut).nv = s.nv := by
  unfold State.startDialOut; (try dsimp only); (repeat' split) <;> simp
@[simp] theorem State.startDialOut_restores : (s.startDialOut).restores = s.restores := by
  unfold State.startDialOut; (try dsimp only); (repeat' split) <;> simp

@[simp] theorem State.refuseBuffer_now (r : RefusalReason) : (s.refuseBuffer r).now = s.now := by
  unfold State.refuseBuffer; (try dsimp only); (repeat' split) <;> simp
@[simp] theorem State.refuseBuffer_pending (r : RefusalReason) : (s.refuseBuffer r).pending = s.pending := by
  unfold State.refuseBuffer; (try dsimp only); (repeat' split) <;> simp
@[simp] theorem State.refuseBuffer_coin (r : RefusalReason) : (s.refuseBuffer r).coin = s.coin := by
  unfold State.refuseBuffer; (try dsimp only); (repeat' split) <;> simp
@[simp] theorem State.refuseBuffer_credit (r : RefusalReason) : (s.refuseBuffer r).credit = s.credit := by
  unfold State.refuseBuffer; (try dsimp only); (repeat' split) <;> simp
@[simp] theorem State.refuseBuffer_arbiter (r : RefusalReason) : (s.refuseBuffer r).arbiter = s.arbiter := by
  unfold State.refuseBuffer; (try dsimp only); (repeat' split) <;> simp
@[simp] theorem State.refuseBuffer_tamper (r : RefusalReason) : (s.refuseBuffer r).tamper = s.tamper := by
  unfold State.refuseBuffer; (try dsimp only); (repeat' split) <;> simp
@[simp] theorem State.refuseBuffer_elapsed (r : RefusalReason) : (s.refuseBuffer r).elapsed = s.elapsed := by
  unfold State.refuseBuffer; (try dsimp only); (repeat' split) <;> simp
@[simp] theorem State.refuseBuffer_centre (r : RefusalReason) : (s.refuseBuffer r).centre = s.centre := by
  unfold State.refuseBuffer; (try dsimp only); (repeat' split) <;> simp
@[simp] theorem State.refuseBuffer_modem (r : RefusalReason) : (s.refuseBuffer r).modem = s.modem := by
  unfold State.refuseBuffer; (try dsimp only); (repeat' split) <;> simp
@[simp] theorem State.refuseBuffer_ledger (r : RefusalReason) : (s.refuseBuffer r).ledger = s.ledger := by
  unfold State.refuseBuffer; (try dsimp only); (repeat' split) <;> simp
@[simp] theorem State.refuseBuffer_power (r : RefusalReason) : (s.refuseBuffer r).power = s.power := by
  unfold State.refuseBuffer; (try dsimp only); (repeat' split) <;> simp
@[simp] theorem State.refuseBuffer_clock (r : RefusalReason) : (s.refuseBuffer r).clock = s.clock := by
  unfold State.refuseBuffer; (try dsimp only); (repeat' split) <;> simp
@[simp] theorem State.refuseBuffer_service (r : RefusalReason) : (s.refuseBuffer r).service = s.service := by
  unfold State.refuseBuffer; (try dsimp only); (repeat' split) <;> simp
@[simp] theorem State.refuseBuffer_config (r : RefusalReason) : (s.refuseBuffer r).config = s.config := by
  unfold State.refuseBuffer; (try dsimp only); (repeat' split) <;> simp
@[simp] theorem State.refuseBuffer_image0 (r : RefusalReason) : (s.refuseBuffer r).image0 = s.image0 := by
  unfold State.refuseBuffer; (try dsimp only); (repeat' split) <;> simp
@[simp] theorem State.refuseBuffer_image1 (r : RefusalReason) : (s.refuseBuffer r).image1 = s.image1 := by
  unfold State.refuseBuffer; (try dsimp only); (repeat' split) <;> simp
@[simp] theorem State.refuseBuffer_lifetime (r : RefusalReason) : (s.refuseBuffer r).lifetime = s.lifetime := by
  unfold State.refuseBuffer; (try dsimp only); (repeat' split) <;> simp
@[simp] theorem State.refuseBuffer_period (r : RefusalReason) : (s.refuseBuffer r).period = s.period := by
  unfold State.refuseBuffer; (try dsimp only); (repeat' split) <;> simp
@[simp] theorem State.refuseBuffer_history (r : RefusalReason) : (s.refuseBuffer r).history = s.history := by
  unfold State.refuseBuffer; (try dsimp only); (repeat' split) <;> simp
@[simp] theorem State.refuseBuffer_call (r : RefusalReason) : (s.refuseBuffer r).call = s.call := by
  unfold State.refuseBuffer; (try dsimp only); (repeat' split) <;> simp
@[simp] theorem State.refuseBuffer_events (r : RefusalReason) : (s.refuseBuffer r).events = s.events := by
  unfold State.refuseBuffer; (try dsimp only); (repeat' split) <;> simp
@[simp] theorem State.refuseBuffer_nv (r : RefusalReason) : (s.refuseBuffer r).nv = s.nv := by
  unfold State.refuseBuffer; (try dsimp only); (repeat' split) <;> simp
@[simp] theorem State.refuseBuffer_restores (r : RefusalReason) : (s.refuseBuffer r).restores = s.restores := by
  unfold State.refuseBuffer; (try dsimp only); (repeat' split) <;> simp

@[simp] theorem State.recheckDeposit_now : (s.recheckDeposit).now = s.now := by
  unfold State.recheckDeposit; (try dsimp only); (repeat' split) <;> simp
@[simp] theorem State.recheckDeposit_pending : (s.recheckDeposit).pending = s.pending := by
  unfold State.recheckDeposit; (try dsimp only); (repeat' split) <;> simp
@[simp] theorem State.recheckDeposit_coin : (s.recheckDeposit).coin = s.coin := by
  unfold State.recheckDeposit; (try dsimp only); (repeat' split) <;> simp
@[simp] theorem State.recheckDeposit_credit : (s.recheckDeposit).credit = s.credit := by
  unfold State.recheckDeposit; (try dsimp only); (repeat' split) <;> simp
@[simp] theorem State.recheckDeposit_arbiter : (s.recheckDeposit).arbiter = s.arbiter := by
  unfold State.recheckDeposit; (try dsimp only); (repeat' split) <;> simp
@[simp] theorem State.recheckDeposit_tamper : (s.recheckDeposit).tamper = s.tamper := by
  unfold State.recheckDeposit; (try dsimp only); (repeat' split) <;> simp
@[simp] theorem State.recheckDeposit_elapsed : (s.recheckDeposit).elapsed = s.elapsed := by
  unfold State.recheckDeposit; (try dsimp only); (repeat' split) <;> simp
@[simp] theorem State.recheckDeposit_centre : (s.recheckDeposit).centre = s.centre := by
  unfold State.recheckDeposit; (try dsimp only); (repeat' split) <;> simp
@[simp] theorem State.recheckDeposit_modem : (s.recheckDeposit).modem = s.modem := by
  unfold State.recheckDeposit; (try dsimp only); (repeat' split) <;> simp
@[simp] theorem State.recheckDeposit_ledger : (s.recheckDeposit).ledger = s.ledger := by
  unfold State.recheckDeposit; (try dsimp only); (repeat' split) <;> simp
@[simp] theorem State.recheckDeposit_power : (s.recheckDeposit).power = s.power := by
  unfold State.recheckDeposit; (try dsimp only); (repeat' split) <;> simp
@[simp] theorem State.recheckDeposit_clock : (s.recheckDeposit).clock = s.clock := by
  unfold State.recheckDeposit; (try dsimp only); (repeat' split) <;> simp
@[simp] theorem State.recheckDeposit_service : (s.recheckDeposit).service = s.service := by
  unfold State.recheckDeposit; (try dsimp only); (repeat' split) <;> simp
@[simp] theorem State.recheckDeposit_config : (s.recheckDeposit).config = s.config := by
  unfold State.recheckDeposit; (try dsimp only); (repeat' split) <;> simp
@[simp] theorem State.recheckDeposit_image0 : (s.recheckDeposit).image0 = s.image0 := by
  unfold State.recheckDeposit; (try dsimp only); (repeat' split) <;> simp
@[simp] theorem State.recheckDeposit_image1 : (s.recheckDeposit).image1 = s.image1 := by
  unfold State.recheckDeposit; (try dsimp only); (repeat' split) <;> simp
@[simp] theorem State.recheckDeposit_lifetime : (s.recheckDeposit).lifetime = s.lifetime := by
  unfold State.recheckDeposit; (try dsimp only); (repeat' split) <;> simp
@[simp] theorem State.recheckDeposit_period : (s.recheckDeposit).period = s.period := by
  unfold State.recheckDeposit; (try dsimp only); (repeat' split) <;> simp
@[simp] theorem State.recheckDeposit_history : (s.recheckDeposit).history = s.history := by
  unfold State.recheckDeposit; (try dsimp only); (repeat' split) <;> simp
@[simp] theorem State.recheckDeposit_call : (s.recheckDeposit).call = s.call := by
  unfold State.recheckDeposit; (try dsimp only); (repeat' split) <;> simp
@[simp] theorem State.recheckDeposit_events : (s.recheckDeposit).events = s.events := by
  unfold State.recheckDeposit; (try dsimp only); (repeat' split) <;> simp
@[simp] theorem State.recheckDeposit_nv : (s.recheckDeposit).nv = s.nv := by
  unfold State.recheckDeposit; (try dsimp only); (repeat' split) <;> simp
@[simp] theorem State.recheckDeposit_restores : (s.recheckDeposit).restores = s.restores := by
  unfold State.recheckDeposit; (try dsimp only); (repeat' split) <;> simp

@[simp] theorem State.putCause_now (c : Cause) (v : Bool) : (s.putCause c v).now = s.now := by
  unfold State.putCause; (try dsimp only); (repeat' split) <;> simp
@[simp] theorem State.putCause_pending (c : Cause) (v : Bool) : (s.putCause c v).pending = s.pending := by
  unfold State.putCause; (try dsimp only); (repeat' split) <;> simp
@[simp] theorem State.putCause_coin (c : Cause) (v : Bool) : (s.putCause c v).coin = s.coin := by
  unfold State.putCause; (try dsimp only); (repeat' split) <;> simp
@[simp] theorem State.putCause_credit (c : Cause) (v : Bool) : (s.putCause c v).credit = s.credit := by
  unfold State.putCause; (try dsimp only); (repeat' split) <;> simp
@[simp] theorem State.putCause_rating (c : Cause) (v : Bool) : (s.putCause c v).rating = s.rating := by
  unfold State.putCause; (try dsimp only); (repeat' split) <;> simp
@[simp] theorem State.putCause_line (c : Cause) (v : Bool) : (s.putCause c v).line = s.line := by
  unfold State.putCause; (try dsimp only); (repeat' split) <;> simp
@[simp] theorem State.putCause_arbiter (c : Cause) (v : Bool) : (s.putCause c v).arbiter = s.arbiter := by
  unfold State.putCause; (try dsimp only); (repeat' split) <;> simp
@[simp] theorem State.putCause_elapsed (c : Cause) (v : Bool) : (s.putCause c v).elapsed = s.elapsed := by
  unfold State.putCause; (try dsimp only); (repeat' split) <;> simp
@[simp] theorem State.putCause_centre (c : Cause) (v : Bool) : (s.putCause c v).centre = s.centre := by
  unfold State.putCause; (try dsimp only); (repeat' split) <;> simp
@[simp] theorem State.putCause_modem (c : Cause) (v : Bool) : (s.putCause c v).modem = s.modem := by
  unfold State.putCause; (try dsimp only); (repeat' split) <;> simp
@[simp] theorem State.putCause_power (c : Cause) (v : Bool) : (s.putCause c v).power = s.power := by
  unfold State.putCause; (try dsimp only); (repeat' split) <;> simp
@[simp] theorem State.putCause_clock (c : Cause) (v : Bool) : (s.putCause c v).clock = s.clock := by
  unfold State.putCause; (try dsimp only); (repeat' split) <;> simp
@[simp] theorem State.putCause_setPort (c : Cause) (v : Bool) : (s.putCause c v).setPort = s.setPort := by
  unfold State.putCause; (try dsimp only); (repeat' split) <;> simp
@[simp] theorem State.putCause_service (c : Cause) (v : Bool) : (s.putCause c v).service = s.service := by
  unfold State.putCause; (try dsimp only); (repeat' split) <;> simp
@[simp] theorem State.putCause_image0 (c : Cause) (v : Bool) : (s.putCause c v).image0 = s.image0 := by
  unfold State.putCause; (try dsimp only); (repeat' split) <;> simp
@[simp] theorem State.putCause_image1 (c : Cause) (v : Bool) : (s.putCause c v).image1 = s.image1 := by
  unfold State.putCause; (try dsimp only); (repeat' split) <;> simp
@[simp] theorem State.putCause_lifetime (c : Cause) (v : Bool) : (s.putCause c v).lifetime = s.lifetime := by
  unfold State.putCause; (try dsimp only); (repeat' split) <;> simp
@[simp] theorem State.putCause_period (c : Cause) (v : Bool) : (s.putCause c v).period = s.period := by
  unfold State.putCause; (try dsimp only); (repeat' split) <;> simp
@[simp] theorem State.putCause_history (c : Cause) (v : Bool) : (s.putCause c v).history = s.history := by
  unfold State.putCause; (try dsimp only); (repeat' split) <;> simp
@[simp] theorem State.putCause_call (c : Cause) (v : Bool) : (s.putCause c v).call = s.call := by
  unfold State.putCause; (try dsimp only); (repeat' split) <;> simp
@[simp] theorem State.putCause_events (c : Cause) (v : Bool) : (s.putCause c v).events = s.events := by
  unfold State.putCause; (try dsimp only); (repeat' split) <;> simp
@[simp] theorem State.putCause_nv (c : Cause) (v : Bool) : (s.putCause c v).nv = s.nv := by
  unfold State.putCause; (try dsimp only); (repeat' split) <;> simp
@[simp] theorem State.putCause_restores (c : Cause) (v : Bool) : (s.putCause c v).restores = s.restores := by
  unfold State.putCause; (try dsimp only); (repeat' split) <;> simp

@[simp] theorem State.changeCause_now (c : Cause) (v : Bool) : (s.changeCause c v).now = s.now := by
  unfold State.changeCause; (try dsimp only); (repeat' split) <;> simp
@[simp] theorem State.changeCause_pending (c : Cause) (v : Bool) : (s.changeCause c v).pending = s.pending := by
  unfold State.changeCause; (try dsimp only); (repeat' split) <;> simp
@[simp] theorem State.changeCause_coin (c : Cause) (v : Bool) : (s.changeCause c v).coin = s.coin := by
  unfold State.changeCause; (try dsimp only); (repeat' split) <;> simp
@[simp] theorem State.changeCause_credit (c : Cause) (v : Bool) : (s.changeCause c v).credit = s.credit := by
  unfold State.changeCause; (try dsimp only); (repeat' split) <;> simp
@[simp] theorem State.changeCause_arbiter (c : Cause) (v : Bool) : (s.changeCause c v).arbiter = s.arbiter := by
  unfold State.changeCause; (try dsimp only); (repeat' split) <;> simp
@[simp] theorem State.changeCause_elapsed (c : Cause) (v : Bool) : (s.changeCause c v).elapsed = s.elapsed := by
  unfold State.changeCause; (try dsimp only); (repeat' split) <;> simp
@[simp] theorem State.changeCause_centre (c : Cause) (v : Bool) : (s.changeCause c v).centre = s.centre := by
  unfold State.changeCause; (try dsimp only); (repeat' split) <;> simp
@[simp] theorem State.changeCause_modem (c : Cause) (v : Bool) : (s.changeCause c v).modem = s.modem := by
  unfold State.changeCause; (try dsimp only); (repeat' split) <;> simp
@[simp] theorem State.changeCause_power (c : Cause) (v : Bool) : (s.changeCause c v).power = s.power := by
  unfold State.changeCause; (try dsimp only); (repeat' split) <;> simp
@[simp] theorem State.changeCause_clock (c : Cause) (v : Bool) : (s.changeCause c v).clock = s.clock := by
  unfold State.changeCause; (try dsimp only); (repeat' split) <;> simp
@[simp] theorem State.changeCause_service (c : Cause) (v : Bool) : (s.changeCause c v).service = s.service := by
  unfold State.changeCause; (try dsimp only); (repeat' split) <;> simp
@[simp] theorem State.changeCause_image0 (c : Cause) (v : Bool) : (s.changeCause c v).image0 = s.image0 := by
  unfold State.changeCause; (try dsimp only); (repeat' split) <;> simp
@[simp] theorem State.changeCause_image1 (c : Cause) (v : Bool) : (s.changeCause c v).image1 = s.image1 := by
  unfold State.changeCause; (try dsimp only); (repeat' split) <;> simp
@[simp] theorem State.changeCause_lifetime (c : Cause) (v : Bool) : (s.changeCause c v).lifetime = s.lifetime := by
  unfold State.changeCause; (try dsimp only); (repeat' split) <;> simp
@[simp] theorem State.changeCause_period (c : Cause) (v : Bool) : (s.changeCause c v).period = s.period := by
  unfold State.changeCause; (try dsimp only); (repeat' split) <;> simp
@[simp] theorem State.changeCause_history (c : Cause) (v : Bool) : (s.changeCause c v).history = s.history := by
  unfold State.changeCause; (try dsimp only); (repeat' split) <;> simp
@[simp] theorem State.changeCause_call (c : Cause) (v : Bool) : (s.changeCause c v).call = s.call := by
  unfold State.changeCause; (try dsimp only); (repeat' split) <;> simp
@[simp] theorem State.changeCause_events (c : Cause) (v : Bool) : (s.changeCause c v).events = s.events := by
  unfold State.changeCause; (try dsimp only); (repeat' split) <;> simp
@[simp] theorem State.changeCause_nv (c : Cause) (v : Bool) : (s.changeCause c v).nv = s.nv := by
  unfold State.changeCause; (try dsimp only); (repeat' split) <;> simp
@[simp] theorem State.changeCause_restores (c : Cause) (v : Bool) : (s.changeCause c v).restores = s.restores := by
  unfold State.changeCause; (try dsimp only); (repeat' split) <;> simp

@[simp] theorem State.lastJamTest_now : (s.lastJamTest).now = s.now := by
  unfold State.lastJamTest; (try dsimp only); (repeat' split) <;> simp
@[simp] theorem State.lastJamTest_pending : (s.lastJamTest).pending = s.pending := by
  unfold State.lastJamTest; (try dsimp only); (repeat' split) <;> simp
@[simp] theorem State.lastJamTest_coin : (s.lastJamTest).coin = s.coin := by
  unfold State.lastJamTest; (try dsimp only); (repeat' split) <;> simp
@[simp] theorem State.lastJamTest_credit : (s.lastJamTest).credit = s.credit := by
  unfold State.lastJamTest; (try dsimp only); (repeat' split) <;> simp
@[simp] theorem State.lastJamTest_arbiter : (s.lastJamTest).arbiter = s.arbiter := by
  unfold State.lastJamTest; (try dsimp only); (repeat' split) <;> simp
@[simp] theorem State.lastJamTest_elapsed : (s.lastJamTest).elapsed = s.elapsed := by
  unfold State.lastJamTest; (try dsimp only); (repeat' split) <;> simp
@[simp] theorem State.lastJamTest_centre : (s.lastJamTest).centre = s.centre := by
  unfold State.lastJamTest; (try dsimp only); (repeat' split) <;> simp
@[simp] theorem State.lastJamTest_modem : (s.lastJamTest).modem = s.modem := by
  unfold State.lastJamTest; (try dsimp only); (repeat' split) <;> simp
@[simp] theorem State.lastJamTest_power : (s.lastJamTest).power = s.power := by
  unfold State.lastJamTest; (try dsimp only); (repeat' split) <;> simp
@[simp] theorem State.lastJamTest_clock : (s.lastJamTest).clock = s.clock := by
  unfold State.lastJamTest; (try dsimp only); (repeat' split) <;> simp
@[simp] theorem State.lastJamTest_service : (s.lastJamTest).service = s.service := by
  unfold State.lastJamTest; (try dsimp only); (repeat' split) <;> simp
@[simp] theorem State.lastJamTest_image0 : (s.lastJamTest).image0 = s.image0 := by
  unfold State.lastJamTest; (try dsimp only); (repeat' split) <;> simp
@[simp] theorem State.lastJamTest_image1 : (s.lastJamTest).image1 = s.image1 := by
  unfold State.lastJamTest; (try dsimp only); (repeat' split) <;> simp
@[simp] theorem State.lastJamTest_lifetime : (s.lastJamTest).lifetime = s.lifetime := by
  unfold State.lastJamTest; (try dsimp only); (repeat' split) <;> simp
@[simp] theorem State.lastJamTest_period : (s.lastJamTest).period = s.period := by
  unfold State.lastJamTest; (try dsimp only); (repeat' split) <;> simp
@[simp] theorem State.lastJamTest_history : (s.lastJamTest).history = s.history := by
  unfold State.lastJamTest; (try dsimp only); (repeat' split) <;> simp
@[simp] theorem State.lastJamTest_call : (s.lastJamTest).call = s.call := by
  unfold State.lastJamTest; (try dsimp only); (repeat' split) <;> simp
@[simp] theorem State.lastJamTest_events : (s.lastJamTest).events = s.events := by
  unfold State.lastJamTest; (try dsimp only); (repeat' split) <;> simp
@[simp] theorem State.lastJamTest_nv : (s.lastJamTest).nv = s.nv := by
  unfold State.lastJamTest; (try dsimp only); (repeat' split) <;> simp
@[simp] theorem State.lastJamTest_restores : (s.lastJamTest).restores = s.restores := by
  unfold State.lastJamTest; (try dsimp only); (repeat' split) <;> simp

@[simp] theorem State.releaseLine_now : (s.releaseLine).now = s.now := by
  unfold State.releaseLine; (try dsimp only); (repeat' split) <;> simp
@[simp] theorem State.releaseLine_pending : (s.releaseLine).pending = s.pending := by
  unfold State.releaseLine; (try dsimp only); (repeat' split) <;> simp
@[simp] theorem State.releaseLine_coin : (s.releaseLine).coin = s.coin := by
  unfold State.releaseLine; (try dsimp only); (repeat' split) <;> simp
@[simp] theorem State.releaseLine_credit : (s.releaseLine).credit = s.credit := by
  unfold State.releaseLine; (try dsimp only); (repeat' split) <;> simp
@[simp] theorem State.releaseLine_tamper : (s.releaseLine).tamper = s.tamper := by
  unfold State.releaseLine; (try dsimp only); (repeat' split) <;> simp
@[simp] theorem State.releaseLine_elapsed : (s.releaseLine).elapsed = s.elapsed := by
  unfold State.releaseLine; (try dsimp only); (repeat' split) <;> simp
@[simp] theorem State.releaseLine_centre : (s.releaseLine).centre = s.centre := by
  unfold State.releaseLine; (try dsimp only); (repeat' split) <;> simp
@[simp] theorem State.releaseLine_ledger : (s.releaseLine).ledger = s.ledger := by
  unfold State.releaseLine; (try dsimp only); (repeat' split) <;> simp
@[simp] theorem State.releaseLine_power : (s.releaseLine).power = s.power := by
  unfold State.releaseLine; (try dsimp only); (repeat' split) <;> simp
@[simp] theorem State.releaseLine_clock : (s.releaseLine).clock = s.clock := by
  unfold State.releaseLine; (try dsimp only); (repeat' split) <;> simp
@[simp] theorem State.releaseLine_service : (s.releaseLine).service = s.service := by
  unfold State.releaseLine; (try dsimp only); (repeat' split) <;> simp
@[simp] theorem State.releaseLine_config : (s.releaseLine).config = s.config := by
  unfold State.releaseLine; (try dsimp only); (repeat' split) <;> simp
@[simp] theorem State.releaseLine_image0 : (s.releaseLine).image0 = s.image0 := by
  unfold State.releaseLine; (try dsimp only); (repeat' split) <;> simp
@[simp] theorem State.releaseLine_image1 : (s.releaseLine).image1 = s.image1 := by
  unfold State.releaseLine; (try dsimp only); (repeat' split) <;> simp
@[simp] theorem State.releaseLine_lifetime : (s.releaseLine).lifetime = s.lifetime := by
  unfold State.releaseLine; (try dsimp only); (repeat' split) <;> simp
@[simp] theorem State.releaseLine_period : (s.releaseLine).period = s.period := by
  unfold State.releaseLine; (try dsimp only); (repeat' split) <;> simp
@[simp] theorem State.releaseLine_history : (s.releaseLine).history = s.history := by
  unfold State.releaseLine; (try dsimp only); (repeat' split) <;> simp
@[simp] theorem State.releaseLine_call : (s.releaseLine).call = s.call := by
  unfold State.releaseLine; (try dsimp only); (repeat' split) <;> simp
@[simp] theorem State.releaseLine_events : (s.releaseLine).events = s.events := by
  unfold State.releaseLine; (try dsimp only); (repeat' split) <;> simp
@[simp] theorem State.releaseLine_nv : (s.releaseLine).nv = s.nv := by
  unfold State.releaseLine; (try dsimp only); (repeat' split) <;> simp
@[simp] theorem State.releaseLine_restores : (s.releaseLine).restores = s.restores := by
  unfold State.releaseLine; (try dsimp only); (repeat' split) <;> simp

end Sys2Proof.Machine
end

