-- ==== Sys2Proof/Laws/CreditOps.lean ====
section
/-!
SUPPORT. What each operation of Machine/CreditOps.lean leaves alone: one lemma for each field of `State` that it never
touches.  What it does to the fields it touches stands in its definition.
-/

set_option linter.unusedTactic false
set_option linter.unnecessarySeqFocus false
set_option linter.unreachableTactic false

namespace Sys2Proof.Machine

variable (s : State)

@[simp] theorem State.announceFrom_now (a : Nat) : (s.announceFrom a).now = s.now := by
  unfold State.announceFrom; (try dsimp only); (repeat' split) <;> simp
@[simp] theorem State.announceFrom_pending (a : Nat) : (s.announceFrom a).pending = s.pending := by
  unfold State.announceFrom; (try dsimp only); (repeat' split) <;> simp
@[simp] theorem State.announceFrom_coin (a : Nat) : (s.announceFrom a).coin = s.coin := by
  unfold State.announceFrom; (try dsimp only); (repeat' split) <;> simp
@[simp] theorem State.announceFrom_credit (a : Nat) : (s.announceFrom a).credit = s.credit := by
  unfold State.announceFrom; (try dsimp only); (repeat' split) <;> simp
@[simp] theorem State.announceFrom_arbiter (a : Nat) : (s.announceFrom a).arbiter = s.arbiter := by
  unfold State.announceFrom; (try dsimp only); (repeat' split) <;> simp
@[simp] theorem State.announceFrom_tamper (a : Nat) : (s.announceFrom a).tamper = s.tamper := by
  unfold State.announceFrom; (try dsimp only); (repeat' split) <;> simp
@[simp] theorem State.announceFrom_elapsed (a : Nat) : (s.announceFrom a).elapsed = s.elapsed := by
  unfold State.announceFrom; (try dsimp only); (repeat' split) <;> simp
@[simp] theorem State.announceFrom_centre (a : Nat) : (s.announceFrom a).centre = s.centre := by
  unfold State.announceFrom; (try dsimp only); (repeat' split) <;> simp
@[simp] theorem State.announceFrom_modem (a : Nat) : (s.announceFrom a).modem = s.modem := by
  unfold State.announceFrom; (try dsimp only); (repeat' split) <;> simp
@[simp] theorem State.announceFrom_ledger (a : Nat) : (s.announceFrom a).ledger = s.ledger := by
  unfold State.announceFrom; (try dsimp only); (repeat' split) <;> simp
@[simp] theorem State.announceFrom_power (a : Nat) : (s.announceFrom a).power = s.power := by
  unfold State.announceFrom; (try dsimp only); (repeat' split) <;> simp
@[simp] theorem State.announceFrom_clock (a : Nat) : (s.announceFrom a).clock = s.clock := by
  unfold State.announceFrom; (try dsimp only); (repeat' split) <;> simp
@[simp] theorem State.announceFrom_service (a : Nat) : (s.announceFrom a).service = s.service := by
  unfold State.announceFrom; (try dsimp only); (repeat' split) <;> simp
@[simp] theorem State.announceFrom_config (a : Nat) : (s.announceFrom a).config = s.config := by
  unfold State.announceFrom; (try dsimp only); (repeat' split) <;> simp
@[simp] theorem State.announceFrom_image0 (a : Nat) : (s.announceFrom a).image0 = s.image0 := by
  unfold State.announceFrom; (try dsimp only); (repeat' split) <;> simp
@[simp] theorem State.announceFrom_image1 (a : Nat) : (s.announceFrom a).image1 = s.image1 := by
  unfold State.announceFrom; (try dsimp only); (repeat' split) <;> simp
@[simp] theorem State.announceFrom_lifetime (a : Nat) : (s.announceFrom a).lifetime = s.lifetime := by
  unfold State.announceFrom; (try dsimp only); (repeat' split) <;> simp
@[simp] theorem State.announceFrom_period (a : Nat) : (s.announceFrom a).period = s.period := by
  unfold State.announceFrom; (try dsimp only); (repeat' split) <;> simp
@[simp] theorem State.announceFrom_history (a : Nat) : (s.announceFrom a).history = s.history := by
  unfold State.announceFrom; (try dsimp only); (repeat' split) <;> simp
@[simp] theorem State.announceFrom_call (a : Nat) : (s.announceFrom a).call = s.call := by
  unfold State.announceFrom; (try dsimp only); (repeat' split) <;> simp
@[simp] theorem State.announceFrom_events (a : Nat) : (s.announceFrom a).events = s.events := by
  unfold State.announceFrom; (try dsimp only); (repeat' split) <;> simp
@[simp] theorem State.announceFrom_nv (a : Nat) : (s.announceFrom a).nv = s.nv := by
  unfold State.announceFrom; (try dsimp only); (repeat' split) <;> simp
@[simp] theorem State.announceFrom_restores (a : Nat) : (s.announceFrom a).restores = s.restores := by
  unfold State.announceFrom; (try dsimp only); (repeat' split) <;> simp

@[simp] theorem State.modTotals_now (f : Totals → Totals) : (s.modTotals f).now = s.now := by
  unfold State.modTotals; (try dsimp only); (repeat' split) <;> simp
@[simp] theorem State.modTotals_pending (f : Totals → Totals) : (s.modTotals f).pending = s.pending := by
  unfold State.modTotals; (try dsimp only); (repeat' split) <;> simp
@[simp] theorem State.modTotals_coin (f : Totals → Totals) : (s.modTotals f).coin = s.coin := by
  unfold State.modTotals; (try dsimp only); (repeat' split) <;> simp
@[simp] theorem State.modTotals_credit (f : Totals → Totals) : (s.modTotals f).credit = s.credit := by
  unfold State.modTotals; (try dsimp only); (repeat' split) <;> simp
@[simp] theorem State.modTotals_rating (f : Totals → Totals) : (s.modTotals f).rating = s.rating := by
  unfold State.modTotals; (try dsimp only); (repeat' split) <;> simp
@[simp] theorem State.modTotals_line (f : Totals → Totals) : (s.modTotals f).line = s.line := by
  unfold State.modTotals; (try dsimp only); (repeat' split) <;> simp
@[simp] theorem State.modTotals_arbiter (f : Totals → Totals) : (s.modTotals f).arbiter = s.arbiter := by
  unfold State.modTotals; (try dsimp only); (repeat' split) <;> simp
@[simp] theorem State.modTotals_tamper (f : Totals → Totals) : (s.modTotals f).tamper = s.tamper := by
  unfold State.modTotals; (try dsimp only); (repeat' split) <;> simp
@[simp] theorem State.modTotals_elapsed (f : Totals → Totals) : (s.modTotals f).elapsed = s.elapsed := by
  unfold State.modTotals; (try dsimp only); (repeat' split) <;> simp
@[simp] theorem State.modTotals_centre (f : Totals → Totals) : (s.modTotals f).centre = s.centre := by
  unfold State.modTotals; (try dsimp only); (repeat' split) <;> simp
@[simp] theorem State.modTotals_modem (f : Totals → Totals) : (s.modTotals f).modem = s.modem := by
  unfold State.modTotals; (try dsimp only); (repeat' split) <;> simp
@[simp] theorem State.modTotals_ledger (f : Totals → Totals) : (s.modTotals f).ledger = s.ledger := by
  unfold State.modTotals; (try dsimp only); (repeat' split) <;> simp
@[simp] theorem State.modTotals_power (f : Totals → Totals) : (s.modTotals f).power = s.power := by
  unfold State.modTotals; (try dsimp only); (repeat' split) <;> simp
@[simp] theorem State.modTotals_clock (f : Totals → Totals) : (s.modTotals f).clock = s.clock := by
  unfold State.modTotals; (try dsimp only); (repeat' split) <;> simp
@[simp] theorem State.modTotals_setPort (f : Totals → Totals) : (s.modTotals f).setPort = s.setPort := by
  unfold State.modTotals; (try dsimp only); (repeat' split) <;> simp
@[simp] theorem State.modTotals_service (f : Totals → Totals) : (s.modTotals f).service = s.service := by
  unfold State.modTotals; (try dsimp only); (repeat' split) <;> simp
@[simp] theorem State.modTotals_config (f : Totals → Totals) : (s.modTotals f).config = s.config := by
  unfold State.modTotals; (try dsimp only); (repeat' split) <;> simp
@[simp] theorem State.modTotals_image0 (f : Totals → Totals) : (s.modTotals f).image0 = s.image0 := by
  unfold State.modTotals; (try dsimp only); (repeat' split) <;> simp
@[simp] theorem State.modTotals_image1 (f : Totals → Totals) : (s.modTotals f).image1 = s.image1 := by
  unfold State.modTotals; (try dsimp only); (repeat' split) <;> simp
@[simp] theorem State.modTotals_history (f : Totals → Totals) : (s.modTotals f).history = s.history := by
  unfold State.modTotals; (try dsimp only); (repeat' split) <;> simp
@[simp] theorem State.modTotals_call (f : Totals → Totals) : (s.modTotals f).call = s.call := by
  unfold State.modTotals; (try dsimp only); (repeat' split) <;> simp
@[simp] theorem State.modTotals_events (f : Totals → Totals) : (s.modTotals f).events = s.events := by
  unfold State.modTotals; (try dsimp only); (repeat' split) <;> simp
@[simp] theorem State.modTotals_nv (f : Totals → Totals) : (s.modTotals f).nv = s.nv := by
  unfold State.modTotals; (try dsimp only); (repeat' split) <;> simp
@[simp] theorem State.modTotals_restores (f : Totals → Totals) : (s.modTotals f).restores = s.restores := by
  unfold State.modTotals; (try dsimp only); (repeat' split) <;> simp

@[simp] theorem State.evaluateBox_now : (s.evaluateBox).now = s.now := by
  unfold State.evaluateBox; (try dsimp only); (repeat' split) <;> simp
@[simp] theorem State.evaluateBox_pending : (s.evaluateBox).pending = s.pending := by
  unfold State.evaluateBox; (try dsimp only); (repeat' split) <;> simp
@[simp] theorem State.evaluateBox_coin : (s.evaluateBox).coin = s.coin := by
  unfold State.evaluateBox; (try dsimp only); (repeat' split) <;> simp
@[simp] theorem State.evaluateBox_credit : (s.evaluateBox).credit = s.credit := by
  unfold State.evaluateBox; (try dsimp only); (repeat' split) <;> simp
@[simp] theorem State.evaluateBox_arbiter : (s.evaluateBox).arbiter = s.arbiter := by
  unfold State.evaluateBox; (try dsimp only); (repeat' split) <;> simp
@[simp] theorem State.evaluateBox_elapsed : (s.evaluateBox).elapsed = s.elapsed := by
  unfold State.evaluateBox; (try dsimp only); (repeat' split) <;> simp
@[simp] theorem State.evaluateBox_centre : (s.evaluateBox).centre = s.centre := by
  unfold State.evaluateBox; (try dsimp only); (repeat' split) <;> simp
@[simp] theorem State.evaluateBox_modem : (s.evaluateBox).modem = s.modem := by
  unfold State.evaluateBox; (try dsimp only); (repeat' split) <;> simp
@[simp] theorem State.evaluateBox_power : (s.evaluateBox).power = s.power := by
  unfold State.evaluateBox; (try dsimp only); (repeat' split) <;> simp
@[simp] theorem State.evaluateBox_clock : (s.evaluateBox).clock = s.clock := by
  unfold State.evaluateBox; (try dsimp only); (repeat' split) <;> simp
@[simp] theorem State.evaluateBox_service : (s.evaluateBox).service = s.service := by
  unfold State.evaluateBox; (try dsimp only); (repeat' split) <;> simp
@[simp] theorem State.evaluateBox_image0 : (s.evaluateBox).image0 = s.image0 := by
  unfold State.evaluateBox; (try dsimp only); (repeat' split) <;> simp
@[simp] theorem State.evaluateBox_image1 : (s.evaluateBox).image1 = s.image1 := by
  unfold State.evaluateBox; (try dsimp only); (repeat' split) <;> simp
@[simp] theorem State.evaluateBox_lifetime : (s.evaluateBox).lifetime = s.lifetime := by
  unfold State.evaluateBox; (try dsimp only); (repeat' split) <;> simp
@[simp] theorem State.evaluateBox_period : (s.evaluateBox).period = s.period := by
  unfold State.evaluateBox; (try dsimp only); (repeat' split) <;> simp
@[simp] theorem State.evaluateBox_history : (s.evaluateBox).history = s.history := by
  unfold State.evaluateBox; (try dsimp only); (repeat' split) <;> simp
@[simp] theorem State.evaluateBox_call : (s.evaluateBox).call = s.call := by
  unfold State.evaluateBox; (try dsimp only); (repeat' split) <;> simp
@[simp] theorem State.evaluateBox_nv : (s.evaluateBox).nv = s.nv := by
  unfold State.evaluateBox; (try dsimp only); (repeat' split) <;> simp
@[simp] theorem State.evaluateBox_restores : (s.evaluateBox).restores = s.restores := by
  unfold State.evaluateBox; (try dsimp only); (repeat' split) <;> simp

@[simp] theorem State.collectHead_now : (s.collectHead).now = s.now := by
  unfold State.collectHead; (try dsimp only); (repeat' split) <;> simp
@[simp] theorem State.collectHead_pending : (s.collectHead).pending = s.pending := by
  unfold State.collectHead; (try dsimp only); (repeat' split) <;> simp
@[simp] theorem State.collectHead_coin : (s.collectHead).coin = s.coin := by
  unfold State.collectHead; (try dsimp only); (repeat' split) <;> simp
@[simp] theorem State.collectHead_credit : (s.collectHead).credit = s.credit := by
  unfold State.collectHead; (try dsimp only); (repeat' split) <;> simp
@[simp] theorem State.collectHead_arbiter : (s.collectHead).arbiter = s.arbiter := by
  unfold State.collectHead; (try dsimp only); (repeat' split) <;> simp
@[simp] theorem State.collectHead_elapsed : (s.collectHead).elapsed = s.elapsed := by
  unfold State.collectHead; (try dsimp only); (repeat' split) <;> simp
@[simp] theorem State.collectHead_centre : (s.collectHead).centre = s.centre := by
  unfold State.collectHead; (try dsimp only); (repeat' split) <;> simp
@[simp] theorem State.collectHead_modem : (s.collectHead).modem = s.modem := by
  unfold State.collectHead; (try dsimp only); (repeat' split) <;> simp
@[simp] theorem State.collectHead_power : (s.collectHead).power = s.power := by
  unfold State.collectHead; (try dsimp only); (repeat' split) <;> simp
@[simp] theorem State.collectHead_clock : (s.collectHead).clock = s.clock := by
  unfold State.collectHead; (try dsimp only); (repeat' split) <;> simp
@[simp] theorem State.collectHead_service : (s.collectHead).service = s.service := by
  unfold State.collectHead; (try dsimp only); (repeat' split) <;> simp
@[simp] theorem State.collectHead_image0 : (s.collectHead).image0 = s.image0 := by
  unfold State.collectHead; (try dsimp only); (repeat' split) <;> simp
@[simp] theorem State.collectHead_image1 : (s.collectHead).image1 = s.image1 := by
  unfold State.collectHead; (try dsimp only); (repeat' split) <;> simp
@[simp] theorem State.collectHead_history : (s.collectHead).history = s.history := by
  unfold State.collectHead; (try dsimp only); (repeat' split) <;> simp
@[simp] theorem State.collectHead_nv : (s.collectHead).nv = s.nv := by
  unfold State.collectHead; (try dsimp only); (repeat' split) <;> simp
@[simp] theorem State.collectHead_restores : (s.collectHead).restores = s.restores := by
  unfold State.collectHead; (try dsimp only); (repeat' split) <;> simp

@[simp] theorem State.collectFor_now (x : Nat) (l : List EscrowRecord) : (s.collectFor x l).now = s.now := by
  induction l generalizing s with
  | nil => rfl
  | cons _ _ ih => unfold State.collectFor; (try dsimp only); split <;> simp [*]
@[simp] theorem State.collectFor_pending (x : Nat) (l : List EscrowRecord) : (s.collectFor x l).pending = s.pending := by
  induction l generalizing s with
  | nil => rfl
  | cons _ _ ih => unfold State.collectFor; (try dsimp only); split <;> simp [*]
@[simp] theorem State.collectFor_coin (x : Nat) (l : List EscrowRecord) : (s.collectFor x l).coin = s.coin := by
  induction l generalizing s with
  | nil => rfl
  | cons _ _ ih => unfold State.collectFor; (try dsimp only); split <;> simp [*]
@[simp] theorem State.collectFor_credit (x : Nat) (l : List EscrowRecord) : (s.collectFor x l).credit = s.credit := by
  induction l generalizing s with
  | nil => rfl
  | cons _ _ ih => unfold State.collectFor; (try dsimp only); split <;> simp [*]
@[simp] theorem State.collectFor_arbiter (x : Nat) (l : List EscrowRecord) : (s.collectFor x l).arbiter = s.arbiter := by
  induction l generalizing s with
  | nil => rfl
  | cons _ _ ih => unfold State.collectFor; (try dsimp only); split <;> simp [*]
@[simp] theorem State.collectFor_elapsed (x : Nat) (l : List EscrowRecord) : (s.collectFor x l).elapsed = s.elapsed := by
  induction l generalizing s with
  | nil => rfl
  | cons _ _ ih => unfold State.collectFor; (try dsimp only); split <;> simp [*]
@[simp] theorem State.collectFor_centre (x : Nat) (l : List EscrowRecord) : (s.collectFor x l).centre = s.centre := by
  induction l generalizing s with
  | nil => rfl
  | cons _ _ ih => unfold State.collectFor; (try dsimp only); split <;> simp [*]
@[simp] theorem State.collectFor_modem (x : Nat) (l : List EscrowRecord) : (s.collectFor x l).modem = s.modem := by
  induction l generalizing s with
  | nil => rfl
  | cons _ _ ih => unfold State.collectFor; (try dsimp only); split <;> simp [*]
@[simp] theorem State.collectFor_power (x : Nat) (l : List EscrowRecord) : (s.collectFor x l).power = s.power := by
  induction l generalizing s with
  | nil => rfl
  | cons _ _ ih => unfold State.collectFor; (try dsimp only); split <;> simp [*]
@[simp] theorem State.collectFor_clock (x : Nat) (l : List EscrowRecord) : (s.collectFor x l).clock = s.clock := by
  induction l generalizing s with
  | nil => rfl
  | cons _ _ ih => unfold State.collectFor; (try dsimp only); split <;> simp [*]
@[simp] theorem State.collectFor_service (x : Nat) (l : List EscrowRecord) : (s.collectFor x l).service = s.service := by
  induction l generalizing s with
  | nil => rfl
  | cons _ _ ih => unfold State.collectFor; (try dsimp only); split <;> simp [*]
@[simp] theorem State.collectFor_image0 (x : Nat) (l : List EscrowRecord) : (s.collectFor x l).image0 = s.image0 := by
  induction l generalizing s with
  | nil => rfl
  | cons _ _ ih => unfold State.collectFor; (try dsimp only); split <;> simp [*]
@[simp] theorem State.collectFor_image1 (x : Nat) (l : List EscrowRecord) : (s.collectFor x l).image1 = s.image1 := by
  induction l generalizing s with
  | nil => rfl
  | cons _ _ ih => unfold State.collectFor; (try dsimp only); split <;> simp [*]
@[simp] theorem State.collectFor_history (x : Nat) (l : List EscrowRecord) : (s.collectFor x l).history = s.history := by
  induction l generalizing s with
  | nil => rfl
  | cons _ _ ih => unfold State.collectFor; (try dsimp only); split <;> simp [*]
@[simp] theorem State.collectFor_nv (x : Nat) (l : List EscrowRecord) : (s.collectFor x l).nv = s.nv := by
  induction l generalizing s with
  | nil => rfl
  | cons _ _ ih => unfold State.collectFor; (try dsimp only); split <;> simp [*]
@[simp] theorem State.collectFor_restores (x : Nat) (l : List EscrowRecord) : (s.collectFor x l).restores = s.restores := by
  induction l generalizing s with
  | nil => rfl
  | cons _ _ ih => unfold State.collectFor; (try dsimp only); split <;> simp [*]

@[simp] theorem State.chargeCredit_now (x : Nat) : (s.chargeCredit x).now = s.now := by
  unfold State.chargeCredit; (try dsimp only); (repeat' split) <;> simp
@[simp] theorem State.chargeCredit_pending (x : Nat) : (s.chargeCredit x).pending = s.pending := by
  unfold State.chargeCredit; (try dsimp only); (repeat' split) <;> simp
@[simp] theorem State.chargeCredit_coin (x : Nat) : (s.chargeCredit x).coin = s.coin := by
  unfold State.chargeCredit; (try dsimp only); (repeat' split) <;> simp
@[simp] theorem State.chargeCredit_credit (x : Nat) : (s.chargeCredit x).credit = s.credit := by
  unfold State.chargeCredit; (try dsimp only); (repeat' split) <;> simp
@[simp] theorem State.chargeCredit_rating (x : Nat) : (s.chargeCredit x).rating = s.rating := by
  unfold State.chargeCredit; (try dsimp only); (repeat' split) <;> simp
@[simp] theorem State.chargeCredit_line (x : Nat) : (s.chargeCredit x).line = s.line := by
  unfold State.chargeCredit; (try dsimp only); (repeat' split) <;> simp
@[simp] theorem State.chargeCredit_arbiter (x : Nat) : (s.chargeCredit x).arbiter = s.arbiter := by
  unfold State.chargeCredit; (try dsimp only); (repeat' split) <;> simp
@[simp] theorem State.chargeCredit_tamper (x : Nat) : (s.chargeCredit x).tamper = s.tamper := by
  unfold State.chargeCredit; (try dsimp only); (repeat' split) <;> simp
@[simp] theorem State.chargeCredit_elapsed (x : Nat) : (s.chargeCredit x).elapsed = s.elapsed := by
  unfold State.chargeCredit; (try dsimp only); (repeat' split) <;> simp
@[simp] theorem State.chargeCredit_centre (x : Nat) : (s.chargeCredit x).centre = s.centre := by
  unfold State.chargeCredit; (try dsimp only); (repeat' split) <;> simp
@[simp] theorem State.chargeCredit_modem (x : Nat) : (s.chargeCredit x).modem = s.modem := by
  unfold State.chargeCredit; (try dsimp only); (repeat' split) <;> simp
@[simp] theorem State.chargeCredit_power (x : Nat) : (s.chargeCredit x).power = s.power := by
  unfold State.chargeCredit; (try dsimp only); (repeat' split) <;> simp
@[simp] theorem State.chargeCredit_clock (x : Nat) : (s.chargeCredit x).clock = s.clock := by
  unfold State.chargeCredit; (try dsimp only); (repeat' split) <;> simp
@[simp] theorem State.chargeCredit_setPort (x : Nat) : (s.chargeCredit x).setPort = s.setPort := by
  unfold State.chargeCredit; (try dsimp only); (repeat' split) <;> simp
@[simp] theorem State.chargeCredit_service (x : Nat) : (s.chargeCredit x).service = s.service := by
  unfold State.chargeCredit; (try dsimp only); (repeat' split) <;> simp
@[simp] theorem State.chargeCredit_config (x : Nat) : (s.chargeCredit x).config = s.config := by
  unfold State.chargeCredit; (try dsimp only); (repeat' split) <;> simp
@[simp] theorem State.chargeCredit_image0 (x : Nat) : (s.chargeCredit x).image0 = s.image0 := by
  unfold State.chargeCredit; (try dsimp only); (repeat' split) <;> simp
@[simp] theorem State.chargeCredit_image1 (x : Nat) : (s.chargeCredit x).image1 = s.image1 := by
  unfold State.chargeCredit; (try dsimp only); (repeat' split) <;> simp
@[simp] theorem State.chargeCredit_history (x : Nat) : (s.chargeCredit x).history = s.history := by
  unfold State.chargeCredit; (try dsimp only); (repeat' split) <;> simp
@[simp] theorem State.chargeCredit_events (x : Nat) : (s.chargeCredit x).events = s.events := by
  unfold State.chargeCredit; (try dsimp only); (repeat' split) <;> simp
@[simp] theorem State.chargeCredit_nv (x : Nat) : (s.chargeCredit x).nv = s.nv := by
  unfold State.chargeCredit; (try dsimp only); (repeat' split) <;> simp
@[simp] theorem State.chargeCredit_restores (x : Nat) : (s.chargeCredit x).restores = s.restores := by
  unfold State.chargeCredit; (try dsimp only); (repeat' split) <;> simp

@[simp] theorem State.settleMoney_now (r : ChuteRecord) : (s.settleMoney r).now = s.now := by
  unfold State.settleMoney; (try dsimp only); (repeat' split) <;> simp
@[simp] theorem State.settleMoney_pending (r : ChuteRecord) : (s.settleMoney r).pending = s.pending := by
  unfold State.settleMoney; (try dsimp only); (repeat' split) <;> simp
@[simp] theorem State.settleMoney_coin (r : ChuteRecord) : (s.settleMoney r).coin = s.coin := by
  unfold State.settleMoney; (try dsimp only); (repeat' split) <;> simp
@[simp] theorem State.settleMoney_credit (r : ChuteRecord) : (s.settleMoney r).credit = s.credit := by
  unfold State.settleMoney; (try dsimp only); (repeat' split) <;> simp
@[simp] theorem State.settleMoney_arbiter (r : ChuteRecord) : (s.settleMoney r).arbiter = s.arbiter := by
  unfold State.settleMoney; (try dsimp only); (repeat' split) <;> simp
@[simp] theorem State.settleMoney_elapsed (r : ChuteRecord) : (s.settleMoney r).elapsed = s.elapsed := by
  unfold State.settleMoney; (try dsimp only); (repeat' split) <;> simp
@[simp] theorem State.settleMoney_centre (r : ChuteRecord) : (s.settleMoney r).centre = s.centre := by
  unfold State.settleMoney; (try dsimp only); (repeat' split) <;> simp
@[simp] theorem State.settleMoney_modem (r : ChuteRecord) : (s.settleMoney r).modem = s.modem := by
  unfold State.settleMoney; (try dsimp only); (repeat' split) <;> simp
@[simp] theorem State.settleMoney_power (r : ChuteRecord) : (s.settleMoney r).power = s.power := by
  unfold State.settleMoney; (try dsimp only); (repeat' split) <;> simp
@[simp] theorem State.settleMoney_clock (r : ChuteRecord) : (s.settleMoney r).clock = s.clock := by
  unfold State.settleMoney; (try dsimp only); (repeat' split) <;> simp
@[simp] theorem State.settleMoney_service (r : ChuteRecord) : (s.settleMoney r).service = s.service := by
  unfold State.settleMoney; (try dsimp only); (repeat' split) <;> simp
@[simp] theorem State.settleMoney_image0 (r : ChuteRecord) : (s.settleMoney r).image0 = s.image0 := by
  unfold State.settleMoney; (try dsimp only); (repeat' split) <;> simp
@[simp] theorem State.settleMoney_image1 (r : ChuteRecord) : (s.settleMoney r).image1 = s.image1 := by
  unfold State.settleMoney; (try dsimp only); (repeat' split) <;> simp
@[simp] theorem State.settleMoney_history (r : ChuteRecord) : (s.settleMoney r).history = s.history := by
  unfold State.settleMoney; (try dsimp only); (repeat' split) <;> simp
@[simp] theorem State.settleMoney_nv (r : ChuteRecord) : (s.settleMoney r).nv = s.nv := by
  unfold State.settleMoney; (try dsimp only); (repeat' split) <;> simp
@[simp] theorem State.settleMoney_restores (r : ChuteRecord) : (s.settleMoney r).restores = s.restores := by
  unfold State.settleMoney; (try dsimp only); (repeat' split) <;> simp
@[simp] theorem State.settleMoney_rating (r : ChuteRecord) : (s.settleMoney r).rating = s.rating := by
  unfold State.settleMoney; (try dsimp only); (repeat' split) <;> simp
@[simp] theorem State.settleMoney_line (r : ChuteRecord) : (s.settleMoney r).line = s.line := by
  unfold State.settleMoney; (try dsimp only); (repeat' split) <;> simp
@[simp] theorem State.settleMoney_tamper (r : ChuteRecord) : (s.settleMoney r).tamper = s.tamper := by
  unfold State.settleMoney; (try dsimp only); (repeat' split) <;> simp
@[simp] theorem State.settleMoney_ledger (r : ChuteRecord) : (s.settleMoney r).ledger = s.ledger := by
  unfold State.settleMoney; (try dsimp only); (repeat' split) <;> simp
@[simp] theorem State.settleMoney_setPort (r : ChuteRecord) : (s.settleMoney r).setPort = s.setPort := by
  unfold State.settleMoney; (try dsimp only); (repeat' split) <;> simp
@[simp] theorem State.settleMoney_config (r : ChuteRecord) : (s.settleMoney r).config = s.config := by
  unfold State.settleMoney; (try dsimp only); (repeat' split) <;> simp
@[simp] theorem State.settleMoney_events (r : ChuteRecord) : (s.settleMoney r).events = s.events := by
  unfold State.settleMoney; (try dsimp only); (repeat' split) <;> simp

@[simp] theorem State.boxCoin_now (r : ChuteRecord) : (s.boxCoin r).now = s.now := by
  unfold State.boxCoin; (try dsimp only); (repeat' split) <;> simp
@[simp] theorem State.boxCoin_pending (r : ChuteRecord) : (s.boxCoin r).pending = s.pending := by
  unfold State.boxCoin; (try dsimp only); (repeat' split) <;> simp
@[simp] theorem State.boxCoin_coin (r : ChuteRecord) : (s.boxCoin r).coin = s.coin := by
  unfold State.boxCoin; (try dsimp only); (repeat' split) <;> simp
@[simp] theorem State.boxCoin_credit (r : ChuteRecord) : (s.boxCoin r).credit = s.credit := by
  unfold State.boxCoin; (try dsimp only); (repeat' split) <;> simp
@[simp] theorem State.boxCoin_arbiter (r : ChuteRecord) : (s.boxCoin r).arbiter = s.arbiter := by
  unfold State.boxCoin; (try dsimp only); (repeat' split) <;> simp
@[simp] theorem State.boxCoin_elapsed (r : ChuteRecord) : (s.boxCoin r).elapsed = s.elapsed := by
  unfold State.boxCoin; (try dsimp only); (repeat' split) <;> simp
@[simp] theorem State.boxCoin_centre (r : ChuteRecord) : (s.boxCoin r).centre = s.centre := by
  unfold State.boxCoin; (try dsimp only); (repeat' split) <;> simp
@[simp] theorem State.boxCoin_modem (r : ChuteRecord) : (s.boxCoin r).modem = s.modem := by
  unfold State.boxCoin; (try dsimp only); (repeat' split) <;> simp
@[simp] theorem State.boxCoin_power (r : ChuteRecord) : (s.boxCoin r).power = s.power := by
  unfold State.boxCoin; (try dsimp only); (repeat' split) <;> simp
@[simp] theorem State.boxCoin_clock (r : ChuteRecord) : (s.boxCoin r).clock = s.clock := by
  unfold State.boxCoin; (try dsimp only); (repeat' split) <;> simp
@[simp] theorem State.boxCoin_service (r : ChuteRecord) : (s.boxCoin r).service = s.service := by
  unfold State.boxCoin; (try dsimp only); (repeat' split) <;> simp
@[simp] theorem State.boxCoin_image0 (r : ChuteRecord) : (s.boxCoin r).image0 = s.image0 := by
  unfold State.boxCoin; (try dsimp only); (repeat' split) <;> simp
@[simp] theorem State.boxCoin_image1 (r : ChuteRecord) : (s.boxCoin r).image1 = s.image1 := by
  unfold State.boxCoin; (try dsimp only); (repeat' split) <;> simp
@[simp] theorem State.boxCoin_lifetime (r : ChuteRecord) : (s.boxCoin r).lifetime = s.lifetime := by
  unfold State.boxCoin; (try dsimp only); (repeat' split) <;> simp
@[simp] theorem State.boxCoin_period (r : ChuteRecord) : (s.boxCoin r).period = s.period := by
  unfold State.boxCoin; (try dsimp only); (repeat' split) <;> simp
@[simp] theorem State.boxCoin_history (r : ChuteRecord) : (s.boxCoin r).history = s.history := by
  unfold State.boxCoin; (try dsimp only); (repeat' split) <;> simp
@[simp] theorem State.boxCoin_call (r : ChuteRecord) : (s.boxCoin r).call = s.call := by
  unfold State.boxCoin; (try dsimp only); (repeat' split) <;> simp
@[simp] theorem State.boxCoin_nv (r : ChuteRecord) : (s.boxCoin r).nv = s.nv := by
  unfold State.boxCoin; (try dsimp only); (repeat' split) <;> simp
@[simp] theorem State.boxCoin_restores (r : ChuteRecord) : (s.boxCoin r).restores = s.restores := by
  unfold State.boxCoin; (try dsimp only); (repeat' split) <;> simp

@[simp] theorem State.settle_now (r : ChuteRecord) : (s.settle r).now = s.now := by
  unfold State.settle; (try dsimp only); (repeat' split) <;> simp
@[simp] theorem State.settle_pending (r : ChuteRecord) : (s.settle r).pending = s.pending := by
  unfold State.settle; (try dsimp only); (repeat' split) <;> simp
@[simp] theorem State.settle_coin (r : ChuteRecord) : (s.settle r).coin = s.coin := by
  unfold State.settle; (try dsimp only); (repeat' split) <;> simp
@[simp] theorem State.settle_arbiter (r : ChuteRecord) : (s.settle r).arbiter = s.arbiter := by
  unfold State.settle; (try dsimp only); (repeat' split) <;> simp
@[simp] theorem State.settle_elapsed (r : ChuteRecord) : (s.settle r).elapsed = s.elapsed := by
  unfold State.settle; (try dsimp only); (repeat' split) <;> simp
@[simp] theorem State.settle_centre (r : ChuteRecord) : (s.settle r).centre = s.centre := by
  unfold State.settle; (try dsimp only); (repeat' split) <;> simp
@[simp] theorem State.settle_modem (r : ChuteRecord) : (s.settle r).modem = s.modem := by
  unfold State.settle; (try dsimp only); (repeat' split) <;> simp
@[simp] theorem State.settle_power (r : ChuteRecord) : (s.settle r).power = s.power := by
  unfold State.settle; (try dsimp only); (repeat' split) <;> simp
@[simp] theorem State.settle_clock (r : ChuteRecord) : (s.settle r).clock = s.clock := by
  unfold State.settle; (try dsimp only); (repeat' split) <;> simp
@[simp] theorem State.settle_service (r : ChuteRecord) : (s.settle r).service = s.service := by
  unfold State.settle; (try dsimp only); (repeat' split) <;> simp
@[simp] theorem State.settle_image0 (r : ChuteRecord) : (s.settle r).image0 = s.image0 := by
  unfold State.settle; (try dsimp only); (repeat' split) <;> simp
@[simp] theorem State.settle_image1 (r : ChuteRecord) : (s.settle r).image1 = s.image1 := by
  unfold State.settle; (try dsimp only); (repeat' split) <;> simp
@[simp] theorem State.settle_history (r : ChuteRecord) : (s.settle r).history = s.history := by
  unfold State.settle; (try dsimp only); (repeat' split) <;> simp
@[simp] theorem State.settle_nv (r : ChuteRecord) : (s.settle r).nv = s.nv := by
  unfold State.settle; (try dsimp only); (repeat' split) <;> simp
@[simp] theorem State.settle_restores (r : ChuteRecord) : (s.settle r).restores = s.restores := by
  unfold State.settle; (try dsimp only); (repeat' split) <;> simp

@[simp] theorem State.refundAndForfeit_now : (s.refundAndForfeit).now = s.now := by
  unfold State.refundAndForfeit; (try dsimp only); (repeat' split) <;> simp
@[simp] theorem State.refundAndForfeit_pending : (s.refundAndForfeit).pending = s.pending := by
  unfold State.refundAndForfeit; (try dsimp only); (repeat' split) <;> simp
@[simp] theorem State.refundAndForfeit_coin : (s.refundAndForfeit).coin = s.coin := by
  unfold State.refundAndForfeit; (try dsimp only); (repeat' split) <;> simp
@[simp] theorem State.refundAndForfeit_credit : (s.refundAndForfeit).credit = s.credit := by
  unfold State.refundAndForfeit; (try dsimp only); (repeat' split) <;> simp
@[simp] theorem State.refundAndForfeit_rating : (s.refundAndForfeit).rating = s.rating := by
  unfold State.refundAndForfeit; (try dsimp only); (repeat' split) <;> simp
@[simp] theorem State.refundAndForfeit_line : (s.refundAndForfeit).line = s.line := by
  unfold State.refundAndForfeit; (try dsimp only); (repeat' split) <;> simp
@[simp] theorem State.refundAndForfeit_arbiter : (s.refundAndForfeit).arbiter = s.arbiter := by
  unfold State.refundAndForfeit; (try dsimp only); (repeat' split) <;> simp
@[simp] theorem State.refundAndForfeit_tamper : (s.refundAndForfeit).tamper = s.tamper := by
  unfold State.refundAndForfeit; (try dsimp only); (repeat' split) <;> simp
@[simp] theorem State.refundAndForfeit_elapsed : (s.refundAndForfeit).elapsed = s.elapsed := by
  unfold State.refundAndForfeit; (try dsimp only); (repeat' split) <;> simp
@[simp] theorem State.refundAndForfeit_centre : (s.refundAndForfeit).centre = s.centre := by
  unfold State.refundAndForfeit; (try dsimp only); (repeat' split) <;> simp
@[simp] theorem State.refundAndForfeit_modem : (s.refundAndForfeit).modem = s.modem := by
  unfold State.refundAndForfeit; (try dsimp only); (repeat' split) <;> simp
@[simp] theorem State.refundAndForfeit_ledger : (s.refundAndForfeit).ledger = s.ledger := by
  unfold State.refundAndForfeit; (try dsimp only); (repeat' split) <;> simp
@[simp] theorem State.refundAndForfeit_power : (s.refundAndForfeit).power = s.power := by
  unfold State.refundAndForfeit; (try dsimp only); (repeat' split) <;> simp
@[simp] theorem State.refundAndForfeit_clock : (s.refundAndForfeit).clock = s.clock := by
  unfold State.refundAndForfeit; (try dsimp only); (repeat' split) <;> simp
@[simp] theorem State.refundAndForfeit_setPort : (s.refundAndForfeit).setPort = s.setPort := by
  unfold State.refundAndForfeit; (try dsimp only); (repeat' split) <;> simp
@[simp] theorem State.refundAndForfeit_service : (s.refundAndForfeit).service = s.service := by
  unfold State.refundAndForfeit; (try dsimp only); (repeat' split) <;> simp
@[simp] theorem State.refundAndForfeit_config : (s.refundAndForfeit).config = s.config := by
  unfold State.refundAndForfeit; (try dsimp only); (repeat' split) <;> simp
@[simp] theorem State.refundAndForfeit_image0 : (s.refundAndForfeit).image0 = s.image0 := by
  unfold State.refundAndForfeit; (try dsimp only); (repeat' split) <;> simp
@[simp] theorem State.refundAndForfeit_image1 : (s.refundAndForfeit).image1 = s.image1 := by
  unfold State.refundAndForfeit; (try dsimp only); (repeat' split) <;> simp
@[simp] theorem State.refundAndForfeit_history : (s.refundAndForfeit).history = s.history := by
  unfold State.refundAndForfeit; (try dsimp only); (repeat' split) <;> simp
@[simp] theorem State.refundAndForfeit_events : (s.refundAndForfeit).events = s.events := by
  unfold State.refundAndForfeit; (try dsimp only); (repeat' split) <;> simp
@[simp] theorem State.refundAndForfeit_nv : (s.refundAndForfeit).nv = s.nv := by
  unfold State.refundAndForfeit; (try dsimp only); (repeat' split) <;> simp
@[simp] theorem State.refundAndForfeit_restores : (s.refundAndForfeit).restores = s.restores := by
  unfold State.refundAndForfeit; (try dsimp only); (repeat' split) <;> simp

@[simp] theorem State.creditSessionEnd_now : (s.creditSessionEnd).now = s.now := by
  unfold State.creditSessionEnd; (try dsimp only); (repeat' split) <;> simp
@[simp] theorem State.creditSessionEnd_pending : (s.creditSessionEnd).pending = s.pending := by
  unfold State.creditSessionEnd; (try dsimp only); (repeat' split) <;> simp
@[simp] theorem State.creditSessionEnd_coin : (s.creditSessionEnd).coin = s.coin := by
  unfold State.creditSessionEnd; (try dsimp only); (repeat' split) <;> simp
@[simp] theorem State.creditSessionEnd_arbiter : (s.creditSessionEnd).arbiter = s.arbiter := by
  unfold State.creditSessionEnd; (try dsimp only); (repeat' split) <;> simp
@[simp] theorem State.creditSessionEnd_tamper : (s.creditSessionEnd).tamper = s.tamper := by
  unfold State.creditSessionEnd; (try dsimp only); (repeat' split) <;> simp
@[simp] theorem State.creditSessionEnd_elapsed : (s.creditSessionEnd).elapsed = s.elapsed := by
  unfold State.creditSessionEnd; (try dsimp only); (repeat' split) <;> simp
@[simp] theorem State.creditSessionEnd_centre : (s.creditSessionEnd).centre = s.centre := by
  unfold State.creditSessionEnd; (try dsimp only); (repeat' split) <;> simp
@[simp] theorem State.creditSessionEnd_modem : (s.creditSessionEnd).modem = s.modem := by
  unfold State.creditSessionEnd; (try dsimp only); (repeat' split) <;> simp
@[simp] theorem State.creditSessionEnd_power : (s.creditSessionEnd).power = s.power := by
  unfold State.creditSessionEnd; (try dsimp only); (repeat' split) <;> simp
@[simp] theorem State.creditSessionEnd_clock : (s.creditSessionEnd).clock = s.clock := by
  unfold State.creditSessionEnd; (try dsimp only); (repeat' split) <;> simp
@[simp] theorem State.creditSessionEnd_service : (s.creditSessionEnd).service = s.service := by
  unfold State.creditSessionEnd; (try dsimp only); (repeat' split) <;> simp
@[simp] theorem State.creditSessionEnd_config : (s.creditSessionEnd).config = s.config := by
  unfold State.creditSessionEnd; (try dsimp only); (repeat' split) <;> simp
@[simp] theorem State.creditSessionEnd_image0 : (s.creditSessionEnd).image0 = s.image0 := by
  unfold State.creditSessionEnd; (try dsimp only); (repeat' split) <;> simp
@[simp] theorem State.creditSessionEnd_image1 : (s.creditSessionEnd).image1 = s.image1 := by
  unfold State.creditSessionEnd; (try dsimp only); (repeat' split) <;> simp
@[simp] theorem State.creditSessionEnd_history : (s.creditSessionEnd).history = s.history := by
  unfold State.creditSessionEnd; (try dsimp only); (repeat' split) <;> simp
@[simp] theorem State.creditSessionEnd_events : (s.creditSessionEnd).events = s.events := by
  unfold State.creditSessionEnd; (try dsimp only); (repeat' split) <;> simp
@[simp] theorem State.creditSessionEnd_nv : (s.creditSessionEnd).nv = s.nv := by
  unfold State.creditSessionEnd; (try dsimp only); (repeat' split) <;> simp
@[simp] theorem State.creditSessionEnd_restores : (s.creditSessionEnd).restores = s.restores := by
  unfold State.creditSessionEnd; (try dsimp only); (repeat' split) <;> simp

@[simp] theorem State.startRelease_now : (s.startRelease).now = s.now := by
  unfold State.startRelease; (try dsimp only); (repeat' split) <;> simp
@[simp] theorem State.startRelease_pending : (s.startRelease).pending = s.pending := by
  unfold State.startRelease; (try dsimp only); (repeat' split) <;> simp
@[simp] theorem State.startRelease_coin : (s.startRelease).coin = s.coin := by
  unfold State.startRelease; (try dsimp only); (repeat' split) <;> simp
@[simp] theorem State.startRelease_rating : (s.startRelease).rating = s.rating := by
  unfold State.startRelease; (try dsimp only); (repeat' split) <;> simp
@[simp] theorem State.startRelease_line : (s.startRelease).line = s.line := by
  unfold State.startRelease; (try dsimp only); (repeat' split) <;> simp
@[simp] theorem State.startRelease_arbiter : (s.startRelease).arbiter = s.arbiter := by
  unfold State.startRelease; (try dsimp only); (repeat' split) <;> simp
@[simp] theorem State.startRelease_tamper : (s.startRelease).tamper = s.tamper := by
  unfold State.startRelease; (try dsimp only); (repeat' split) <;> simp
@[simp] theorem State.startRelease_elapsed : (s.startRelease).elapsed = s.elapsed := by
  unfold State.startRelease; (try dsimp only); (repeat' split) <;> simp
@[simp] theorem State.startRelease_centre : (s.startRelease).centre = s.centre := by
  unfold State.startRelease; (try dsimp only); (repeat' split) <;> simp
@[simp] theorem State.startRelease_modem : (s.startRelease).modem = s.modem := by
  unfold State.startRelease; (try dsimp only); (repeat' split) <;> simp
@[simp] theorem State.startRelease_ledger : (s.startRelease).ledger = s.ledger := by
  unfold State.startRelease; (try dsimp only); (repeat' split) <;> simp
@[simp] theorem State.startRelease_power : (s.startRelease).power = s.power := by
  unfold State.startRelease; (try dsimp only); (repeat' split) <;> simp
@[simp] theorem State.startRelease_clock : (s.startRelease).clock = s.clock := by
  unfold State.startRelease; (try dsimp only); (repeat' split) <;> simp
@[simp] theorem State.startRelease_setPort : (s.startRelease).setPort = s.setPort := by
  unfold State.startRelease; (try dsimp only); (repeat' split) <;> simp
@[simp] theorem State.startRelease_service : (s.startRelease).service = s.service := by
  unfold State.startRelease; (try dsimp only); (repeat' split) <;> simp
@[simp] theorem State.startRelease_config : (s.startRelease).config = s.config := by
  unfold State.startRelease; (try dsimp only); (repeat' split) <;> simp
@[simp] theorem State.startRelease_image0 : (s.startRelease).image0 = s.image0 := by
  unfold State.startRelease; (try dsimp only); (repeat' split) <;> simp
@[simp] theorem State.startRelease_image1 : (s.startRelease).image1 = s.image1 := by
  unfold State.startRelease; (try dsimp only); (repeat' split) <;> simp
@[simp] theorem State.startRelease_lifetime : (s.startRelease).lifetime = s.lifetime := by
  unfold State.startRelease; (try dsimp only); (repeat' split) <;> simp
@[simp] theorem State.startRelease_period : (s.startRelease).period = s.period := by
  unfold State.startRelease; (try dsimp only); (repeat' split) <;> simp
@[simp] theorem State.startRelease_history : (s.startRelease).history = s.history := by
  unfold State.startRelease; (try dsimp only); (repeat' split) <;> simp
@[simp] theorem State.startRelease_call : (s.startRelease).call = s.call := by
  unfold State.startRelease; (try dsimp only); (repeat' split) <;> simp
@[simp] theorem State.startRelease_events : (s.startRelease).events = s.events := by
  unfold State.startRelease; (try dsimp only); (repeat' split) <;> simp
@[simp] theorem State.startRelease_nv : (s.startRelease).nv = s.nv := by
  unfold State.startRelease; (try dsimp only); (repeat' split) <;> simp
@[simp] theorem State.startRelease_restores : (s.startRelease).restores = s.restores := by
  unfold State.startRelease; (try dsimp only); (repeat' split) <;> simp

@[simp] theorem State.dropHead_now : (s.dropHead).now = s.now := by
  unfold State.dropHead; (try dsimp only); (repeat' split) <;> simp
@[simp] theorem State.dropHead_pending : (s.dropHead).pending = s.pending := by
  unfold State.dropHead; (try dsimp only); (repeat' split) <;> simp
@[simp] theorem State.dropHead_coin : (s.dropHead).coin = s.coin := by
  unfold State.dropHead; (try dsimp only); (repeat' split) <;> simp
@[simp] theorem State.dropHead_credit : (s.dropHead).credit = s.credit := by
  unfold State.dropHead; (try dsimp only); (repeat' split) <;> simp
@[simp] theorem State.dropHead_rating : (s.dropHead).rating = s.rating := by
  unfold State.dropHead; (try dsimp only); (repeat' split) <;> simp
@[simp] theorem State.dropHead_line : (s.dropHead).line = s.line := by
  unfold State.dropHead; (try dsimp only); (repeat' split) <;> simp
@[simp] theorem State.dropHead_arbiter : (s.dropHead).arbiter = s.arbiter := by
  unfold State.dropHead; (try dsimp only); (repeat' split) <;> simp
@[simp] theorem State.dropHead_tamper : (s.dropHead).tamper = s.tamper := by
  unfold State.dropHead; (try dsimp only); (repeat' split) <;> simp
@[simp] theorem State.dropHead_elapsed : (s.dropHead).elapsed = s.elapsed := by
  unfold State.dropHead; (try dsimp only); (repeat' split) <;> simp
@[simp] theorem State.dropHead_centre : (s.dropHead).centre = s.centre := by
  unfold State.dropHead; (try dsimp only); (repeat' split) <;> simp
@[simp] theorem State.dropHead_modem : (s.dropHead).modem = s.modem := by
  unfold State.dropHead; (try dsimp only); (repeat' split) <;> simp
@[simp] theorem State.dropHead_power : (s.dropHead).power = s.power := by
  unfold State.dropHead; (try dsimp only); (repeat' split) <;> simp
@[simp] theorem State.dropHead_clock : (s.dropHead).clock = s.clock := by
  unfold State.dropHead; (try dsimp only); (repeat' split) <;> simp
@[simp] theorem State.dropHead_setPort : (s.dropHead).setPort = s.setPort := by
  unfold State.dropHead; (try dsimp only); (repeat' split) <;> simp
@[simp] theorem State.dropHead_service : (s.dropHead).service = s.service := by
  unfold State.dropHead; (try dsimp only); (repeat' split) <;> simp
@[simp] theorem State.dropHead_config : (s.dropHead).config = s.config := by
  unfold State.dropHead; (try dsimp only); (repeat' split) <;> simp
@[simp] theorem State.dropHead_image0 : (s.dropHead).image0 = s.image0 := by
  unfold State.dropHead; (try dsimp only); (repeat' split) <;> simp
@[simp] theorem State.dropHead_image1 : (s.dropHead).image1 = s.image1 := by
  unfold State.dropHead; (try dsimp only); (repeat' split) <;> simp
@[simp] theorem State.dropHead_lifetime : (s.dropHead).lifetime = s.lifetime := by
  unfold State.dropHead; (try dsimp only); (repeat' split) <;> simp
@[simp] theorem State.dropHead_period : (s.dropHead).period = s.period := by
  unfold State.dropHead; (try dsimp only); (repeat' split) <;> simp
@[simp] theorem State.dropHead_history : (s.dropHead).history = s.history := by
  unfold State.dropHead; (try dsimp only); (repeat' split) <;> simp
@[simp] theorem State.dropHead_events : (s.dropHead).events = s.events := by
  unfold State.dropHead; (try dsimp only); (repeat' split) <;> simp
@[simp] theorem State.dropHead_nv : (s.dropHead).nv = s.nv := by
  unfold State.dropHead; (try dsimp only); (repeat' split) <;> simp
@[simp] theorem State.dropHead_restores : (s.dropHead).restores = s.restores := by
  unfold State.dropHead; (try dsimp only); (repeat' split) <;> simp

@[simp] theorem State.clearReleaseJam_now : (s.clearReleaseJam).now = s.now := by
  unfold State.clearReleaseJam; (try dsimp only); (repeat' split) <;> simp
@[simp] theorem State.clearReleaseJam_pending : (s.clearReleaseJam).pending = s.pending := by
  unfold State.clearReleaseJam; (try dsimp only); (repeat' split) <;> simp
@[simp] theorem State.clearReleaseJam_coin : (s.clearReleaseJam).coin = s.coin := by
  unfold State.clearReleaseJam; (try dsimp only); (repeat' split) <;> simp
@[simp] theorem State.clearReleaseJam_arbiter : (s.clearReleaseJam).arbiter = s.arbiter := by
  unfold State.clearReleaseJam; (try dsimp only); (repeat' split) <;> simp
@[simp] theorem State.clearReleaseJam_elapsed : (s.clearReleaseJam).elapsed = s.elapsed := by
  unfold State.clearReleaseJam; (try dsimp only); (repeat' split) <;> simp
@[simp] theorem State.clearReleaseJam_centre : (s.clearReleaseJam).centre = s.centre := by
  unfold State.clearReleaseJam; (try dsimp only); (repeat' split) <;> simp
@[simp] theorem State.clearReleaseJam_modem : (s.clearReleaseJam).modem = s.modem := by
  unfold State.clearReleaseJam; (try dsimp only); (repeat' split) <;> simp
@[simp] theorem State.clearReleaseJam_power : (s.clearReleaseJam).power = s.power := by
  unfold State.clearReleaseJam; (try dsimp only); (repeat' split) <;> simp
@[simp] theorem State.clearReleaseJam_clock : (s.clearReleaseJam).clock = s.clock := by
  unfold State.clearReleaseJam; (try dsimp only); (repeat' split) <;> simp
@[simp] theorem State.clearReleaseJam_service : (s.clearReleaseJam).service = s.service := by
  unfold State.clearReleaseJam; (try dsimp only); (repeat' split) <;> simp
@[simp] theorem State.clearReleaseJam_image0 : (s.clearReleaseJam).image0 = s.image0 := by
  unfold State.clearReleaseJam; (try dsimp only); (repeat' split) <;> simp
@[simp] theorem State.clearReleaseJam_image1 : (s.clearReleaseJam).image1 = s.image1 := by
  unfold State.clearReleaseJam; (try dsimp only); (repeat' split) <;> simp
@[simp] theorem State.clearReleaseJam_lifetime : (s.clearReleaseJam).lifetime = s.lifetime := by
  unfold State.clearReleaseJam; (try dsimp only); (repeat' split) <;> simp
@[simp] theorem State.clearReleaseJam_period : (s.clearReleaseJam).period = s.period := by
  unfold State.clearReleaseJam; (try dsimp only); (repeat' split) <;> simp
@[simp] theorem State.clearReleaseJam_history : (s.clearReleaseJam).history = s.history := by
  unfold State.clearReleaseJam; (try dsimp only); (repeat' split) <;> simp
@[simp] theorem State.clearReleaseJam_call : (s.clearReleaseJam).call = s.call := by
  unfold State.clearReleaseJam; (try dsimp only); (repeat' split) <;> simp
@[simp] theorem State.clearReleaseJam_events : (s.clearReleaseJam).events = s.events := by
  unfold State.clearReleaseJam; (try dsimp only); (repeat' split) <;> simp
@[simp] theorem State.clearReleaseJam_nv : (s.clearReleaseJam).nv = s.nv := by
  unfold State.clearReleaseJam; (try dsimp only); (repeat' split) <;> simp
@[simp] theorem State.clearReleaseJam_restores : (s.clearReleaseJam).restores = s.restores := by
  unfold State.clearReleaseJam; (try dsimp only); (repeat' split) <;> simp

@[simp] theorem State.confirmRelease_now : (s.confirmRelease).now = s.now := by
  unfold State.confirmRelease; (try dsimp only); (repeat' split) <;> simp
@[simp] theorem State.confirmRelease_pending : (s.confirmRelease).pending = s.pending := by
  unfold State.confirmRelease; (try dsimp only); (repeat' split) <;> simp
@[simp] theorem State.confirmRelease_coin : (s.confirmRelease).coin = s.coin := by
  unfold State.confirmRelease; (try dsimp only); (repeat' split) <;> simp
@[simp] theorem State.confirmRelease_arbiter : (s.confirmRelease).arbiter = s.arbiter := by
  unfold State.confirmRelease; (try dsimp only); (repeat' split) <;> simp
@[simp] theorem State.confirmRelease_elapsed : (s.confirmRelease).elapsed = s.elapsed := by
  unfold State.confirmRelease; (try dsimp only); (repeat' split) <;> simp
@[simp] theorem State.confirmRelease_centre : (s.confirmRelease).centre = s.centre := by
  unfold State.confirmRelease; (try dsimp only); (repeat' split) <;> simp
@[simp] theorem State.confirmRelease_modem : (s.confirmRelease).modem = s.modem := by
  unfold State.confirmRelease; (try dsimp only); (repeat' split) <;> simp
@[simp] theorem State.confirmRelease_power : (s.confirmRelease).power = s.power := by
  unfold State.confirmRelease; (try dsimp only); (repeat' split) <;> simp
@[simp] theorem State.confirmRelease_clock : (s.confirmRelease).clock = s.clock := by
  unfold State.confirmRelease; (try dsimp only); (repeat' split) <;> simp
@[simp] theorem State.confirmRelease_service : (s.confirmRelease).service = s.service := by
  unfold State.confirmRelease; (try dsimp only); (repeat' split) <;> simp
@[simp] theorem State.confirmRelease_image0 : (s.confirmRelease).image0 = s.image0 := by
  unfold State.confirmRelease; (try dsimp only); (repeat' split) <;> simp
@[simp] theorem State.confirmRelease_image1 : (s.confirmRelease).image1 = s.image1 := by
  unfold State.confirmRelease; (try dsimp only); (repeat' split) <;> simp
@[simp] theorem State.confirmRelease_lifetime : (s.confirmRelease).lifetime = s.lifetime := by
  unfold State.confirmRelease; (try dsimp only); (repeat' split) <;> simp
@[simp] theorem State.confirmRelease_period : (s.confirmRelease).period = s.period := by
  unfold State.confirmRelease; (try dsimp only); (repeat' split) <;> simp
@[simp] theorem State.confirmRelease_history : (s.confirmRelease).history = s.history := by
  unfold State.confirmRelease; (try dsimp only); (repeat' split) <;> simp
@[simp] theorem State.confirmRelease_events : (s.confirmRelease).events = s.events := by
  unfold State.confirmRelease; (try dsimp only); (repeat' split) <;> simp
@[simp] theorem State.confirmRelease_nv : (s.confirmRelease).nv = s.nv := by
  unfold State.confirmRelease; (try dsimp only); (repeat' split) <;> simp
@[simp] theorem State.confirmRelease_restores : (s.confirmRelease).restores = s.restores := by
  unfold State.confirmRelease; (try dsimp only); (repeat' split) <;> simp

@[simp] theorem State.take_now (x : Nat) : (s.take x).2.now = s.now := by
  unfold State.take; (try dsimp only); (repeat' split) <;> simp
@[simp] theorem State.take_pending (x : Nat) : (s.take x).2.pending = s.pending := by
  unfold State.take; (try dsimp only); (repeat' split) <;> simp
@[simp] theorem State.take_coin (x : Nat) : (s.take x).2.coin = s.coin := by
  unfold State.take; (try dsimp only); (repeat' split) <;> simp
@[simp] theorem State.take_credit (x : Nat) : (s.take x).2.credit = s.credit := by
  unfold State.take; (try dsimp only); (repeat' split) <;> simp
@[simp] theorem State.take_arbiter (x : Nat) : (s.take x).2.arbiter = s.arbiter := by
  unfold State.take; (try dsimp only); (repeat' split) <;> simp
@[simp] theorem State.take_elapsed (x : Nat) : (s.take x).2.elapsed = s.elapsed := by
  unfold State.take; (try dsimp only); (repeat' split) <;> simp
@[simp] theorem State.take_centre (x : Nat) : (s.take x).2.centre = s.centre := by
  unfold State.take; (try dsimp only); (repeat' split) <;> simp
@[simp] theorem State.take_modem (x : Nat) : (s.take x).2.modem = s.modem := by
  unfold State.take; (try dsimp only); (repeat' split) <;> simp
@[simp] theorem State.take_power (x : Nat) : (s.take x).2.power = s.power := by
  unfold State.take; (try dsimp only); (repeat' split) <;> simp
@[simp] theorem State.take_clock (x : Nat) : (s.take x).2.clock = s.clock := by
  unfold State.take; (try dsimp only); (repeat' split) <;> simp
@[simp] theorem State.take_service (x : Nat) : (s.take x).2.service = s.service := by
  unfold State.take; (try dsimp only); (repeat' split) <;> simp
@[simp] theorem State.take_image0 (x : Nat) : (s.take x).2.image0 = s.image0 := by
  unfold State.take; (try dsimp only); (repeat' split) <;> simp
@[simp] theorem State.take_image1 (x : Nat) : (s.take x).2.image1 = s.image1 := by
  unfold State.take; (try dsimp only); (repeat' split) <;> simp
@[simp] theorem State.take_history (x : Nat) : (s.take x).2.history = s.history := by
  unfold State.take; (try dsimp only); (repeat' split) <;> simp
@[simp] theorem State.take_nv (x : Nat) : (s.take x).2.nv = s.nv := by
  unfold State.take; (try dsimp only); (repeat' split) <;> simp
@[simp] theorem State.take_restores (x : Nat) : (s.take x).2.restores = s.restores := by
  unfold State.take; (try dsimp only); (repeat' split) <;> simp

end Sys2Proof.Machine
end

