-- ==== Sys2Proof/Laws/RatingOps.lean ====
section
/-!
SUPPORT. What each operation of Machine/RatingOps.lean leaves alone: one lemma for each field of `State` that it never
touches.  What it does to the fields it touches stands in its definition and, for the warning checks, in
the lemmas at the end.
-/

set_option linter.unusedTactic false
set_option linter.unnecessarySeqFocus false
set_option linter.unreachableTactic false

namespace Sys2Proof.Machine

variable (s : State)

@[simp] theorem State.price_now (i : Nat) : (s.price i).now = s.now := by
  unfold State.price; (try dsimp only); (repeat' split) <;> simp
@[simp] theorem State.price_pending (i : Nat) : (s.price i).pending = s.pending := by
  unfold State.price; (try dsimp only); (repeat' split) <;> simp
@[simp] theorem State.price_coin (i : Nat) : (s.price i).coin = s.coin := by
  unfold State.price; (try dsimp only); (repeat' split) <;> simp
@[simp] theorem State.price_credit (i : Nat) : (s.price i).credit = s.credit := by
  unfold State.price; (try dsimp only); (repeat' split) <;> simp
@[simp] theorem State.price_line (i : Nat) : (s.price i).line = s.line := by
  unfold State.price; (try dsimp only); (repeat' split) <;> simp
@[simp] theorem State.price_arbiter (i : Nat) : (s.price i).arbiter = s.arbiter := by
  unfold State.price; (try dsimp only); (repeat' split) <;> simp
@[simp] theorem State.price_tamper (i : Nat) : (s.price i).tamper = s.tamper := by
  unfold State.price; (try dsimp only); (repeat' split) <;> simp
@[simp] theorem State.price_elapsed (i : Nat) : (s.price i).elapsed = s.elapsed := by
  unfold State.price; (try dsimp only); (repeat' split) <;> simp
@[simp] theorem State.price_centre (i : Nat) : (s.price i).centre = s.centre := by
  unfold State.price; (try dsimp only); (repeat' split) <;> simp
@[simp] theorem State.price_modem (i : Nat) : (s.price i).modem = s.modem := by
  unfold State.price; (try dsimp only); (repeat' split) <;> simp
@[simp] theorem State.price_ledger (i : Nat) : (s.price i).ledger = s.ledger := by
  unfold State.price; (try dsimp only); (repeat' split) <;> simp
@[simp] theorem State.price_power (i : Nat) : (s.price i).power = s.power := by
  unfold State.price; (try dsimp only); (repeat' split) <;> simp
@[simp] theorem State.price_clock (i : Nat) : (s.price i).clock = s.clock := by
  unfold State.price; (try dsimp only); (repeat' split) <;> simp
@[simp] theorem State.price_setPort (i : Nat) : (s.price i).setPort = s.setPort := by
  unfold State.price; (try dsimp only); (repeat' split) <;> simp
@[simp] theorem State.price_service (i : Nat) : (s.price i).service = s.service := by
  unfold State.price; (try dsimp only); (repeat' split) <;> simp
@[simp] theorem State.price_config (i : Nat) : (s.price i).config = s.config := by
  unfold State.price; (try dsimp only); (repeat' split) <;> simp
@[simp] theorem State.price_image0 (i : Nat) : (s.price i).image0 = s.image0 := by
  unfold State.price; (try dsimp only); (repeat' split) <;> simp
@[simp] theorem State.price_image1 (i : Nat) : (s.price i).image1 = s.image1 := by
  unfold State.price; (try dsimp only); (repeat' split) <;> simp
@[simp] theorem State.price_lifetime (i : Nat) : (s.price i).lifetime = s.lifetime := by
  unfold State.price; (try dsimp only); (repeat' split) <;> simp
@[simp] theorem State.price_period (i : Nat) : (s.price i).period = s.period := by
  unfold State.price; (try dsimp only); (repeat' split) <;> simp
@[simp] theorem State.price_history (i : Nat) : (s.price i).history = s.history := by
  unfold State.price; (try dsimp only); (repeat' split) <;> simp
@[simp] theorem State.price_call (i : Nat) : (s.price i).call = s.call := by
  unfold State.price; (try dsimp only); (repeat' split) <;> simp
@[simp] theorem State.price_events (i : Nat) : (s.price i).events = s.events := by
  unfold State.price; (try dsimp only); (repeat' split) <;> simp
@[simp] theorem State.price_nv (i : Nat) : (s.price i).nv = s.nv := by
  unfold State.price; (try dsimp only); (repeat' split) <;> simp
@[simp] theorem State.price_restores (i : Nat) : (s.price i).restores = s.restores := by
  unfold State.price; (try dsimp only); (repeat' split) <;> simp

@[simp] theorem State.warningCheck_now (t : TariffClass) (o : Nat) : (s.warningCheck t o).now = s.now := by
  unfold State.warningCheck; (try dsimp only); (repeat' split) <;> simp
@[simp] theorem State.warningCheck_pending (t : TariffClass) (o : Nat) : (s.warningCheck t o).pending = s.pending := by
  unfold State.warningCheck; (try dsimp only); (repeat' split) <;> simp
@[simp] theorem State.warningCheck_coin (t : TariffClass) (o : Nat) : (s.warningCheck t o).coin = s.coin := by
  unfold State.warningCheck; (try dsimp only); (repeat' split) <;> simp
@[simp] theorem State.warningCheck_credit (t : TariffClass) (o : Nat) : (s.warningCheck t o).credit = s.credit := by
  unfold State.warningCheck; (try dsimp only); (repeat' split) <;> simp
@[simp] theorem State.warningCheck_line (t : TariffClass) (o : Nat) : (s.warningCheck t o).line = s.line := by
  unfold State.warningCheck; (try dsimp only); (repeat' split) <;> simp
@[simp] theorem State.warningCheck_arbiter (t : TariffClass) (o : Nat) : (s.warningCheck t o).arbiter = s.arbiter := by
  unfold State.warningCheck; (try dsimp only); (repeat' split) <;> simp
@[simp] theorem State.warningCheck_tamper (t : TariffClass) (o : Nat) : (s.warningCheck t o).tamper = s.tamper := by
  unfold State.warningCheck; (try dsimp only); (repeat' split) <;> simp
@[simp] theorem State.warningCheck_elapsed (t : TariffClass) (o : Nat) : (s.warningCheck t o).elapsed = s.elapsed := by
  unfold State.warningCheck; (try dsimp only); (repeat' split) <;> simp
@[simp] theorem State.warningCheck_centre (t : TariffClass) (o : Nat) : (s.warningCheck t o).centre = s.centre := by
  unfold State.warningCheck; (try dsimp only); (repeat' split) <;> simp
@[simp] theorem State.warningCheck_modem (t : TariffClass) (o : Nat) : (s.warningCheck t o).modem = s.modem := by
  unfold State.warningCheck; (try dsimp only); (repeat' split) <;> simp
@[simp] theorem State.warningCheck_ledger (t : TariffClass) (o : Nat) : (s.warningCheck t o).ledger = s.ledger := by
  unfold State.warningCheck; (try dsimp only); (repeat' split) <;> simp
@[simp] theorem State.warningCheck_power (t : TariffClass) (o : Nat) : (s.warningCheck t o).power = s.power := by
  unfold State.warningCheck; (try dsimp only); (repeat' split) <;> simp
@[simp] theorem State.warningCheck_clock (t : TariffClass) (o : Nat) : (s.warningCheck t o).clock = s.clock := by
  unfold State.warningCheck; (try dsimp only); (repeat' split) <;> simp
@[simp] theorem State.warningCheck_service (t : TariffClass) (o : Nat) : (s.warningCheck t o).service = s.service := by
  unfold State.warningCheck; (try dsimp only); (repeat' split) <;> simp
@[simp] theorem State.warningCheck_config (t : TariffClass) (o : Nat) : (s.warningCheck t o).config = s.config := by
  unfold State.warningCheck; (try dsimp only); (repeat' split) <;> simp
@[simp] theorem State.warningCheck_image0 (t : TariffClass) (o : Nat) : (s.warningCheck t o).image0 = s.image0 := by
  unfold State.warningCheck; (try dsimp only); (repeat' split) <;> simp
@[simp] theorem State.warningCheck_image1 (t : TariffClass) (o : Nat) : (s.warningCheck t o).image1 = s.image1 := by
  unfold State.warningCheck; (try dsimp only); (repeat' split) <;> simp
@[simp] theorem State.warningCheck_lifetime (t : TariffClass) (o : Nat) : (s.warningCheck t o).lifetime = s.lifetime := by
  unfold State.warningCheck; (try dsimp only); (repeat' split) <;> simp
@[simp] theorem State.warningCheck_period (t : TariffClass) (o : Nat) : (s.warningCheck t o).period = s.period := by
  unfold State.warningCheck; (try dsimp only); (repeat' split) <;> simp
@[simp] theorem State.warningCheck_history (t : TariffClass) (o : Nat) : (s.warningCheck t o).history = s.history := by
  unfold State.warningCheck; (try dsimp only); (repeat' split) <;> simp
@[simp] theorem State.warningCheck_call (t : TariffClass) (o : Nat) : (s.warningCheck t o).call = s.call := by
  unfold State.warningCheck; (try dsimp only); (repeat' split) <;> simp
@[simp] theorem State.warningCheck_events (t : TariffClass) (o : Nat) : (s.warningCheck t o).events = s.events := by
  unfold State.warningCheck; (try dsimp only); (repeat' split) <;> simp
@[simp] theorem State.warningCheck_nv (t : TariffClass) (o : Nat) : (s.warningCheck t o).nv = s.nv := by
  unfold State.warningCheck; (try dsimp only); (repeat' split) <;> simp
@[simp] theorem State.warningCheck_restores (t : TariffClass) (o : Nat) : (s.warningCheck t o).restores = s.restores := by
  unfold State.warningCheck; (try dsimp only); (repeat' split) <;> simp

@[simp] theorem State.pulseCheck_now (t : TariffClass) : (s.pulseCheck t).now = s.now := by
  unfold State.pulseCheck; (try dsimp only); (repeat' split) <;> simp
@[simp] theorem State.pulseCheck_pending (t : TariffClass) : (s.pulseCheck t).pending = s.pending := by
  unfold State.pulseCheck; (try dsimp only); (repeat' split) <;> simp
@[simp] theorem State.pulseCheck_coin (t : TariffClass) : (s.pulseCheck t).coin = s.coin := by
  unfold State.pulseCheck; (try dsimp only); (repeat' split) <;> simp
@[simp] theorem State.pulseCheck_credit (t : TariffClass) : (s.pulseCheck t).credit = s.credit := by
  unfold State.pulseCheck; (try dsimp only); (repeat' split) <;> simp
@[simp] theorem State.pulseCheck_line (t : TariffClass) : (s.pulseCheck t).line = s.line := by
  unfold State.pulseCheck; (try dsimp only); (repeat' split) <;> simp
@[simp] theorem State.pulseCheck_arbiter (t : TariffClass) : (s.pulseCheck t).arbiter = s.arbiter := by
  unfold State.pulseCheck; (try dsimp only); (repeat' split) <;> simp
@[simp] theorem State.pulseCheck_tamper (t : TariffClass) : (s.pulseCheck t).tamper = s.tamper := by
  unfold State.pulseCheck; (try dsimp only); (repeat' split) <;> simp
@[simp] theorem State.pulseCheck_elapsed (t : TariffClass) : (s.pulseCheck t).elapsed = s.elapsed := by
  unfold State.pulseCheck; (try dsimp only); (repeat' split) <;> simp
@[simp] theorem State.pulseCheck_centre (t : TariffClass) : (s.pulseCheck t).centre = s.centre := by
  unfold State.pulseCheck; (try dsimp only); (repeat' split) <;> simp
@[simp] theorem State.pulseCheck_modem (t : TariffClass) : (s.pulseCheck t).modem = s.modem := by
  unfold State.pulseCheck; (try dsimp only); (repeat' split) <;> simp
@[simp] theorem State.pulseCheck_ledger (t : TariffClass) : (s.pulseCheck t).ledger = s.ledger := by
  unfold State.pulseCheck; (try dsimp only); (repeat' split) <;> simp
@[simp] theorem State.pulseCheck_power (t : TariffClass) : (s.pulseCheck t).power = s.power := by
  unfold State.pulseCheck; (try dsimp only); (repeat' split) <;> simp
@[simp] theorem State.pulseCheck_clock (t : TariffClass) : (s.pulseCheck t).clock = s.clock := by
  unfold State.pulseCheck; (try dsimp only); (repeat' split) <;> simp
@[simp] theorem State.pulseCheck_service (t : TariffClass) : (s.pulseCheck t).service = s.service := by
  unfold State.pulseCheck; (try dsimp only); (repeat' split) <;> simp
@[simp] theorem State.pulseCheck_config (t : TariffClass) : (s.pulseCheck t).config = s.config := by
  unfold State.pulseCheck; (try dsimp only); (repeat' split) <;> simp
@[simp] theorem State.pulseCheck_image0 (t : TariffClass) : (s.pulseCheck t).image0 = s.image0 := by
  unfold State.pulseCheck; (try dsimp only); (repeat' split) <;> simp
@[simp] theorem State.pulseCheck_image1 (t : TariffClass) : (s.pulseCheck t).image1 = s.image1 := by
  unfold State.pulseCheck; (try dsimp only); (repeat' split) <;> simp
@[simp] theorem State.pulseCheck_lifetime (t : TariffClass) : (s.pulseCheck t).lifetime = s.lifetime := by
  unfold State.pulseCheck; (try dsimp only); (repeat' split) <;> simp
@[simp] theorem State.pulseCheck_period (t : TariffClass) : (s.pulseCheck t).period = s.period := by
  unfold State.pulseCheck; (try dsimp only); (repeat' split) <;> simp
@[simp] theorem State.pulseCheck_history (t : TariffClass) : (s.pulseCheck t).history = s.history := by
  unfold State.pulseCheck; (try dsimp only); (repeat' split) <;> simp
@[simp] theorem State.pulseCheck_call (t : TariffClass) : (s.pulseCheck t).call = s.call := by
  unfold State.pulseCheck; (try dsimp only); (repeat' split) <;> simp
@[simp] theorem State.pulseCheck_events (t : TariffClass) : (s.pulseCheck t).events = s.events := by
  unfold State.pulseCheck; (try dsimp only); (repeat' split) <;> simp
@[simp] theorem State.pulseCheck_nv (t : TariffClass) : (s.pulseCheck t).nv = s.nv := by
  unfold State.pulseCheck; (try dsimp only); (repeat' split) <;> simp
@[simp] theorem State.pulseCheck_restores (t : TariffClass) : (s.pulseCheck t).restores = s.restores := by
  unfold State.pulseCheck; (try dsimp only); (repeat' split) <;> simp

@[simp] theorem State.armWarning_now (t : TariffClass) (n : Nat) : (s.armWarning t n).now = s.now := by
  unfold State.armWarning; (try dsimp only); (repeat' split) <;> simp
@[simp] theorem State.armWarning_pending (t : TariffClass) (n : Nat) : (s.armWarning t n).pending = s.pending := by
  unfold State.armWarning; (try dsimp only); (repeat' split) <;> simp
@[simp] theorem State.armWarning_coin (t : TariffClass) (n : Nat) : (s.armWarning t n).coin = s.coin := by
  unfold State.armWarning; (try dsimp only); (repeat' split) <;> simp
@[simp] theorem State.armWarning_credit (t : TariffClass) (n : Nat) : (s.armWarning t n).credit = s.credit := by
  unfold State.armWarning; (try dsimp only); (repeat' split) <;> simp
@[simp] theorem State.armWarning_line (t : TariffClass) (n : Nat) : (s.armWarning t n).line = s.line := by
  unfold State.armWarning; (try dsimp only); (repeat' split) <;> simp
@[simp] theorem State.armWarning_arbiter (t : TariffClass) (n : Nat) : (s.armWarning t n).arbiter = s.arbiter := by
  unfold State.armWarning; (try dsimp only); (repeat' split) <;> simp
@[simp] theorem State.armWarning_tamper (t : TariffClass) (n : Nat) : (s.armWarning t n).tamper = s.tamper := by
  unfold State.armWarning; (try dsimp only); (repeat' split) <;> simp
@[simp] theorem State.armWarning_elapsed (t : TariffClass) (n : Nat) : (s.armWarning t n).elapsed = s.elapsed := by
  unfold State.armWarning; (try dsimp only); (repeat' split) <;> simp
@[simp] theorem State.armWarning_centre (t : TariffClass) (n : Nat) : (s.armWarning t n).centre = s.centre := by
  unfold State.armWarning; (try dsimp only); (repeat' split) <;> simp
@[simp] theorem State.armWarning_modem (t : TariffClass) (n : Nat) : (s.armWarning t n).modem = s.modem := by
  unfold State.armWarning; (try dsimp only); (repeat' split) <;> simp
@[simp] theorem State.armWarning_ledger (t : TariffClass) (n : Nat) : (s.armWarning t n).ledger = s.ledger := by
  unfold State.armWarning; (try dsimp only); (repeat' split) <;> simp
@[simp] theorem State.armWarning_power (t : TariffClass) (n : Nat) : (s.armWarning t n).power = s.power := by
  unfold State.armWarning; (try dsimp only); (repeat' split) <;> simp
@[simp] theorem State.armWarning_clock (t : TariffClass) (n : Nat) : (s.armWarning t n).clock = s.clock := by
  unfold State.armWarning; (try dsimp only); (repeat' split) <;> simp
@[simp] theorem State.armWarning_service (t : TariffClass) (n : Nat) : (s.armWarning t n).service = s.service := by
  unfold State.armWarning; (try dsimp only); (repeat' split) <;> simp
@[simp] theorem State.armWarning_config (t : TariffClass) (n : Nat) : (s.armWarning t n).config = s.config := by
  unfold State.armWarning; (try dsimp only); (repeat' split) <;> simp
@[simp] theorem State.armWarning_image0 (t : TariffClass) (n : Nat) : (s.armWarning t n).image0 = s.image0 := by
  unfold State.armWarning; (try dsimp only); (repeat' split) <;> simp
@[simp] theorem State.armWarning_image1 (t : TariffClass) (n : Nat) : (s.armWarning t n).image1 = s.image1 := by
  unfold State.armWarning; (try dsimp only); (repeat' split) <;> simp
@[simp] theorem State.armWarning_lifetime (t : TariffClass) (n : Nat) : (s.armWarning t n).lifetime = s.lifetime := by
  unfold State.armWarning; (try dsimp only); (repeat' split) <;> simp
@[simp] theorem State.armWarning_period (t : TariffClass) (n : Nat) : (s.armWarning t n).period = s.period := by
  unfold State.armWarning; (try dsimp only); (repeat' split) <;> simp
@[simp] theorem State.armWarning_history (t : TariffClass) (n : Nat) : (s.armWarning t n).history = s.history := by
  unfold State.armWarning; (try dsimp only); (repeat' split) <;> simp
@[simp] theorem State.armWarning_call (t : TariffClass) (n : Nat) : (s.armWarning t n).call = s.call := by
  unfold State.armWarning; (try dsimp only); (repeat' split) <;> simp
@[simp] theorem State.armWarning_events (t : TariffClass) (n : Nat) : (s.armWarning t n).events = s.events := by
  unfold State.armWarning; (try dsimp only); (repeat' split) <;> simp
@[simp] theorem State.armWarning_nv (t : TariffClass) (n : Nat) : (s.armWarning t n).nv = s.nv := by
  unfold State.armWarning; (try dsimp only); (repeat' split) <;> simp
@[simp] theorem State.armWarning_restores (t : TariffClass) (n : Nat) : (s.armWarning t n).restores = s.restores := by
  unfold State.armWarning; (try dsimp only); (repeat' split) <;> simp

@[simp] theorem State.startPeriod_now (t : TariffClass) (n : Nat) : (s.startPeriod t n).now = s.now := by
  unfold State.startPeriod; (try dsimp only); (repeat' split) <;> simp
@[simp] theorem State.startPeriod_pending (t : TariffClass) (n : Nat) : (s.startPeriod t n).pending = s.pending := by
  unfold State.startPeriod; (try dsimp only); (repeat' split) <;> simp
@[simp] theorem State.startPeriod_coin (t : TariffClass) (n : Nat) : (s.startPeriod t n).coin = s.coin := by
  unfold State.startPeriod; (try dsimp only); (repeat' split) <;> simp
@[simp] theorem State.startPeriod_credit (t : TariffClass) (n : Nat) : (s.startPeriod t n).credit = s.credit := by
  unfold State.startPeriod; (try dsimp only); (repeat' split) <;> simp
@[simp] theorem State.startPeriod_line (t : TariffClass) (n : Nat) : (s.startPeriod t n).line = s.line := by
  unfold State.startPeriod; (try dsimp only); (repeat' split) <;> simp
@[simp] theorem State.startPeriod_arbiter (t : TariffClass) (n : Nat) : (s.startPeriod t n).arbiter = s.arbiter := by
  unfold State.startPeriod; (try dsimp only); (repeat' split) <;> simp
@[simp] theorem State.startPeriod_tamper (t : TariffClass) (n : Nat) : (s.startPeriod t n).tamper = s.tamper := by
  unfold State.startPeriod; (try dsimp only); (repeat' split) <;> simp
@[simp] theorem State.startPeriod_elapsed (t : TariffClass) (n : Nat) : (s.startPeriod t n).elapsed = s.elapsed := by
  unfold State.startPeriod; (try dsimp only); (repeat' split) <;> simp
@[simp] theorem State.startPeriod_centre (t : TariffClass) (n : Nat) : (s.startPeriod t n).centre = s.centre := by
  unfold State.startPeriod; (try dsimp only); (repeat' split) <;> simp
@[simp] theorem State.startPeriod_modem (t : TariffClass) (n : Nat) : (s.startPeriod t n).modem = s.modem := by
  unfold State.startPeriod; (try dsimp only); (repeat' split) <;> simp
@[simp] theorem State.startPeriod_ledger (t : TariffClass) (n : Nat) : (s.startPeriod t n).ledger = s.ledger := by
  unfold State.startPeriod; (try dsimp only); (repeat' split) <;> simp
@[simp] theorem State.startPeriod_power (t : TariffClass) (n : Nat) : (s.startPeriod t n).power = s.power := by
  unfold State.startPeriod; (try dsimp only); (repeat' split) <;> simp
@[simp] theorem State.startPeriod_clock (t : TariffClass) (n : Nat) : (s.startPeriod t n).clock = s.clock := by
  unfold State.startPeriod; (try dsimp only); (repeat' split) <;> simp
@[simp] theorem State.startPeriod_service (t : TariffClass) (n : Nat) : (s.startPeriod t n).service = s.service := by
  unfold State.startPeriod; (try dsimp only); (repeat' split) <;> simp
@[simp] theorem State.startPeriod_config (t : TariffClass) (n : Nat) : (s.startPeriod t n).config = s.config := by
  unfold State.startPeriod; (try dsimp only); (repeat' split) <;> simp
@[simp] theorem State.startPeriod_image0 (t : TariffClass) (n : Nat) : (s.startPeriod t n).image0 = s.image0 := by
  unfold State.startPeriod; (try dsimp only); (repeat' split) <;> simp
@[simp] theorem State.startPeriod_image1 (t : TariffClass) (n : Nat) : (s.startPeriod t n).image1 = s.image1 := by
  unfold State.startPeriod; (try dsimp only); (repeat' split) <;> simp
@[simp] theorem State.startPeriod_lifetime (t : TariffClass) (n : Nat) : (s.startPeriod t n).lifetime = s.lifetime := by
  unfold State.startPeriod; (try dsimp only); (repeat' split) <;> simp
@[simp] theorem State.startPeriod_period (t : TariffClass) (n : Nat) : (s.startPeriod t n).period = s.period := by
  unfold State.startPeriod; (try dsimp only); (repeat' split) <;> simp
@[simp] theorem State.startPeriod_history (t : TariffClass) (n : Nat) : (s.startPeriod t n).history = s.history := by
  unfold State.startPeriod; (try dsimp only); (repeat' split) <;> simp
@[simp] theorem State.startPeriod_call (t : TariffClass) (n : Nat) : (s.startPeriod t n).call = s.call := by
  unfold State.startPeriod; (try dsimp only); (repeat' split) <;> simp
@[simp] theorem State.startPeriod_events (t : TariffClass) (n : Nat) : (s.startPeriod t n).events = s.events := by
  unfold State.startPeriod; (try dsimp only); (repeat' split) <;> simp
@[simp] theorem State.startPeriod_nv (t : TariffClass) (n : Nat) : (s.startPeriod t n).nv = s.nv := by
  unfold State.startPeriod; (try dsimp only); (repeat' split) <;> simp
@[simp] theorem State.startPeriod_restores (t : TariffClass) (n : Nat) : (s.startPeriod t n).restores = s.restores := by
  unfold State.startPeriod; (try dsimp only); (repeat' split) <;> simp

@[simp] theorem State.addCharged_now (x : Nat) : (s.addCharged x).now = s.now := by
  unfold State.addCharged; (try dsimp only); (repeat' split) <;> simp
@[simp] theorem State.addCharged_pending (x : Nat) : (s.addCharged x).pending = s.pending := by
  unfold State.addCharged; (try dsimp only); (repeat' split) <;> simp
@[simp] theorem State.addCharged_coin (x : Nat) : (s.addCharged x).coin = s.coin := by
  unfold State.addCharged; (try dsimp only); (repeat' split) <;> simp
@[simp] theorem State.addCharged_credit (x : Nat) : (s.addCharged x).credit = s.credit := by
  unfold State.addCharged; (try dsimp only); (repeat' split) <;> simp
@[simp] theorem State.addCharged_line (x : Nat) : (s.addCharged x).line = s.line := by
  unfold State.addCharged; (try dsimp only); (repeat' split) <;> simp
@[simp] theorem State.addCharged_arbiter (x : Nat) : (s.addCharged x).arbiter = s.arbiter := by
  unfold State.addCharged; (try dsimp only); (repeat' split) <;> simp
@[simp] theorem State.addCharged_tamper (x : Nat) : (s.addCharged x).tamper = s.tamper := by
  unfold State.addCharged; (try dsimp only); (repeat' split) <;> simp
@[simp] theorem State.addCharged_elapsed (x : Nat) : (s.addCharged x).elapsed = s.elapsed := by
  unfold State.addCharged; (try dsimp only); (repeat' split) <;> simp
@[simp] theorem State.addCharged_centre (x : Nat) : (s.addCharged x).centre = s.centre := by
  unfold State.addCharged; (try dsimp only); (repeat' split) <;> simp
@[simp] theorem State.addCharged_modem (x : Nat) : (s.addCharged x).modem = s.modem := by
  unfold State.addCharged; (try dsimp only); (repeat' split) <;> simp
@[simp] theorem State.addCharged_ledger (x : Nat) : (s.addCharged x).ledger = s.ledger := by
  unfold State.addCharged; (try dsimp only); (repeat' split) <;> simp
@[simp] theorem State.addCharged_power (x : Nat) : (s.addCharged x).power = s.power := by
  unfold State.addCharged; (try dsimp only); (repeat' split) <;> simp
@[simp] theorem State.addCharged_clock (x : Nat) : (s.addCharged x).clock = s.clock := by
  unfold State.addCharged; (try dsimp only); (repeat' split) <;> simp
@[simp] theorem State.addCharged_setPort (x : Nat) : (s.addCharged x).setPort = s.setPort := by
  unfold State.addCharged; (try dsimp only); (repeat' split) <;> simp
@[simp] theorem State.addCharged_service (x : Nat) : (s.addCharged x).service = s.service := by
  unfold State.addCharged; (try dsimp only); (repeat' split) <;> simp
@[simp] theorem State.addCharged_config (x : Nat) : (s.addCharged x).config = s.config := by
  unfold State.addCharged; (try dsimp only); (repeat' split) <;> simp
@[simp] theorem State.addCharged_image0 (x : Nat) : (s.addCharged x).image0 = s.image0 := by
  unfold State.addCharged; (try dsimp only); (repeat' split) <;> simp
@[simp] theorem State.addCharged_image1 (x : Nat) : (s.addCharged x).image1 = s.image1 := by
  unfold State.addCharged; (try dsimp only); (repeat' split) <;> simp
@[simp] theorem State.addCharged_lifetime (x : Nat) : (s.addCharged x).lifetime = s.lifetime := by
  unfold State.addCharged; (try dsimp only); (repeat' split) <;> simp
@[simp] theorem State.addCharged_period (x : Nat) : (s.addCharged x).period = s.period := by
  unfold State.addCharged; (try dsimp only); (repeat' split) <;> simp
@[simp] theorem State.addCharged_history (x : Nat) : (s.addCharged x).history = s.history := by
  unfold State.addCharged; (try dsimp only); (repeat' split) <;> simp
@[simp] theorem State.addCharged_call (x : Nat) : (s.addCharged x).call = s.call := by
  unfold State.addCharged; (try dsimp only); (repeat' split) <;> simp
@[simp] theorem State.addCharged_events (x : Nat) : (s.addCharged x).events = s.events := by
  unfold State.addCharged; (try dsimp only); (repeat' split) <;> simp
@[simp] theorem State.addCharged_nv (x : Nat) : (s.addCharged x).nv = s.nv := by
  unfold State.addCharged; (try dsimp only); (repeat' split) <;> simp
@[simp] theorem State.addCharged_restores (x : Nat) : (s.addCharged x).restores = s.restores := by
  unfold State.addCharged; (try dsimp only); (repeat' split) <;> simp

@[simp] theorem State.countCall_now (b : Bool) : (s.countCall b).now = s.now := by
  unfold State.countCall; (try dsimp only); (repeat' split) <;> simp
@[simp] theorem State.countCall_pending (b : Bool) : (s.countCall b).pending = s.pending := by
  unfold State.countCall; (try dsimp only); (repeat' split) <;> simp
@[simp] theorem State.countCall_coin (b : Bool) : (s.countCall b).coin = s.coin := by
  unfold State.countCall; (try dsimp only); (repeat' split) <;> simp
@[simp] theorem State.countCall_credit (b : Bool) : (s.countCall b).credit = s.credit := by
  unfold State.countCall; (try dsimp only); (repeat' split) <;> simp
@[simp] theorem State.countCall_rating (b : Bool) : (s.countCall b).rating = s.rating := by
  unfold State.countCall; (try dsimp only); (repeat' split) <;> simp
@[simp] theorem State.countCall_line (b : Bool) : (s.countCall b).line = s.line := by
  unfold State.countCall; (try dsimp only); (repeat' split) <;> simp
@[simp] theorem State.countCall_arbiter (b : Bool) : (s.countCall b).arbiter = s.arbiter := by
  unfold State.countCall; (try dsimp only); (repeat' split) <;> simp
@[simp] theorem State.countCall_tamper (b : Bool) : (s.countCall b).tamper = s.tamper := by
  unfold State.countCall; (try dsimp only); (repeat' split) <;> simp
@[simp] theorem State.countCall_elapsed (b : Bool) : (s.countCall b).elapsed = s.elapsed := by
  unfold State.countCall; (try dsimp only); (repeat' split) <;> simp
@[simp] theorem State.countCall_centre (b : Bool) : (s.countCall b).centre = s.centre := by
  unfold State.countCall; (try dsimp only); (repeat' split) <;> simp
@[simp] theorem State.countCall_modem (b : Bool) : (s.countCall b).modem = s.modem := by
  unfold State.countCall; (try dsimp only); (repeat' split) <;> simp
@[simp] theorem State.countCall_power (b : Bool) : (s.countCall b).power = s.power := by
  unfold State.countCall; (try dsimp only); (repeat' split) <;> simp
@[simp] theorem State.countCall_clock (b : Bool) : (s.countCall b).clock = s.clock := by
  unfold State.countCall; (try dsimp only); (repeat' split) <;> simp
@[simp] theorem State.countCall_setPort (b : Bool) : (s.countCall b).setPort = s.setPort := by
  unfold State.countCall; (try dsimp only); (repeat' split) <;> simp
@[simp] theorem State.countCall_service (b : Bool) : (s.countCall b).service = s.service := by
  unfold State.countCall; (try dsimp only); (repeat' split) <;> simp
@[simp] theorem State.countCall_config (b : Bool) : (s.countCall b).config = s.config := by
  unfold State.countCall; (try dsimp only); (repeat' split) <;> simp
@[simp] theorem State.countCall_image0 (b : Bool) : (s.countCall b).image0 = s.image0 := by
  unfold State.countCall; (try dsimp only); (repeat' split) <;> simp
@[simp] theorem State.countCall_image1 (b : Bool) : (s.countCall b).image1 = s.image1 := by
  unfold State.countCall; (try dsimp only); (repeat' split) <;> simp
@[simp] theorem State.countCall_history (b : Bool) : (s.countCall b).history = s.history := by
  unfold State.countCall; (try dsimp only); (repeat' split) <;> simp
@[simp] theorem State.countCall_call (b : Bool) : (s.countCall b).call = s.call := by
  unfold State.countCall; (try dsimp only); (repeat' split) <;> simp
@[simp] theorem State.countCall_events (b : Bool) : (s.countCall b).events = s.events := by
  unfold State.countCall; (try dsimp only); (repeat' split) <;> simp
@[simp] theorem State.countCall_nv (b : Bool) : (s.countCall b).nv = s.nv := by
  unfold State.countCall; (try dsimp only); (repeat' split) <;> simp
@[simp] theorem State.countCall_restores (b : Bool) : (s.countCall b).restores = s.restores := by
  unfold State.countCall; (try dsimp only); (repeat' split) <;> simp

@[simp] theorem State.afterCharge_now (t : TariffClass) (n : Nat) : (s.afterCharge t n).now = s.now := by
  unfold State.afterCharge; (try dsimp only); (repeat' split) <;> simp
@[simp] theorem State.afterCharge_pending (t : TariffClass) (n : Nat) : (s.afterCharge t n).pending = s.pending := by
  unfold State.afterCharge; (try dsimp only); (repeat' split) <;> simp
@[simp] theorem State.afterCharge_coin (t : TariffClass) (n : Nat) : (s.afterCharge t n).coin = s.coin := by
  unfold State.afterCharge; (try dsimp only); (repeat' split) <;> simp
@[simp] theorem State.afterCharge_credit (t : TariffClass) (n : Nat) : (s.afterCharge t n).credit = s.credit := by
  unfold State.afterCharge; (try dsimp only); (repeat' split) <;> simp
@[simp] theorem State.afterCharge_line (t : TariffClass) (n : Nat) : (s.afterCharge t n).line = s.line := by
  unfold State.afterCharge; (try dsimp only); (repeat' split) <;> simp
@[simp] theorem State.afterCharge_arbiter (t : TariffClass) (n : Nat) : (s.afterCharge t n).arbiter = s.arbiter := by
  unfold State.afterCharge; (try dsimp only); (repeat' split) <;> simp
@[simp] theorem State.afterCharge_tamper (t : TariffClass) (n : Nat) : (s.afterCharge t n).tamper = s.tamper := by
  unfold State.afterCharge; (try dsimp only); (repeat' split) <;> simp
@[simp] theorem State.afterCharge_elapsed (t : TariffClass) (n : Nat) : (s.afterCharge t n).elapsed = s.elapsed := by
  unfold State.afterCharge; (try dsimp only); (repeat' split) <;> simp
@[simp] theorem State.afterCharge_centre (t : TariffClass) (n : Nat) : (s.afterCharge t n).centre = s.centre := by
  unfold State.afterCharge; (try dsimp only); (repeat' split) <;> simp
@[simp] theorem State.afterCharge_modem (t : TariffClass) (n : Nat) : (s.afterCharge t n).modem = s.modem := by
  unfold State.afterCharge; (try dsimp only); (repeat' split) <;> simp
@[simp] theorem State.afterCharge_ledger (t : TariffClass) (n : Nat) : (s.afterCharge t n).ledger = s.ledger := by
  unfold State.afterCharge; (try dsimp only); (repeat' split) <;> simp
@[simp] theorem State.afterCharge_power (t : TariffClass) (n : Nat) : (s.afterCharge t n).power = s.power := by
  unfold State.afterCharge; (try dsimp only); (repeat' split) <;> simp
@[simp] theorem State.afterCharge_clock (t : TariffClass) (n : Nat) : (s.afterCharge t n).clock = s.clock := by
  unfold State.afterCharge; (try dsimp only); (repeat' split) <;> simp
@[simp] theorem State.afterCharge_service (t : TariffClass) (n : Nat) : (s.afterCharge t n).service = s.service := by
  unfold State.afterCharge; (try dsimp only); (repeat' split) <;> simp
@[simp] theorem State.afterCharge_config (t : TariffClass) (n : Nat) : (s.afterCharge t n).config = s.config := by
  unfold State.afterCharge; (try dsimp only); (repeat' split) <;> simp
@[simp] theorem State.afterCharge_image0 (t : TariffClass) (n : Nat) : (s.afterCharge t n).image0 = s.image0 := by
  unfold State.afterCharge; (try dsimp only); (repeat' split) <;> simp
@[simp] theorem State.afterCharge_image1 (t : TariffClass) (n : Nat) : (s.afterCharge t n).image1 = s.image1 := by
  unfold State.afterCharge; (try dsimp only); (repeat' split) <;> simp
@[simp] theorem State.afterCharge_lifetime (t : TariffClass) (n : Nat) : (s.afterCharge t n).lifetime = s.lifetime := by
  unfold State.afterCharge; (try dsimp only); (repeat' split) <;> simp
@[simp] theorem State.afterCharge_period (t : TariffClass) (n : Nat) : (s.afterCharge t n).period = s.period := by
  unfold State.afterCharge; (try dsimp only); (repeat' split) <;> simp
@[simp] theorem State.afterCharge_history (t : TariffClass) (n : Nat) : (s.afterCharge t n).history = s.history := by
  unfold State.afterCharge; (try dsimp only); (repeat' split) <;> simp
@[simp] theorem State.afterCharge_call (t : TariffClass) (n : Nat) : (s.afterCharge t n).call = s.call := by
  unfold State.afterCharge; (try dsimp only); (repeat' split) <;> simp
@[simp] theorem State.afterCharge_events (t : TariffClass) (n : Nat) : (s.afterCharge t n).events = s.events := by
  unfold State.afterCharge; (try dsimp only); (repeat' split) <;> simp
@[simp] theorem State.afterCharge_nv (t : TariffClass) (n : Nat) : (s.afterCharge t n).nv = s.nv := by
  unfold State.afterCharge; (try dsimp only); (repeat' split) <;> simp
@[simp] theorem State.afterCharge_restores (t : TariffClass) (n : Nat) : (s.afterCharge t n).restores = s.restores := by
  unfold State.afterCharge; (try dsimp only); (repeat' split) <;> simp

/-! ## What the checks write -/

theorem State.warningCheck_rating (t : TariffClass) (n : Nat) :
    (s.warningCheck t n).rating =
      { s.rating with
        nextCharge := some (s.stepChargeOf t n)
        warning := s.rating.warning || decide (s.available < s.stepChargeOf t n) } := by
  unfold State.warningCheck; dsimp only; split <;> simp_all [State.modRating]

theorem State.warningCheck_setPort (t : TariffClass) (n : Nat) :
    (s.warningCheck t n).setPort =
      if s.available < s.stepChargeOf t n then (s.raise .lowCredit).setPort else s.setPort := by
  unfold State.warningCheck; dsimp only; split <;> simp [State.modRating, State.raise, State.modSetPort]

theorem State.pulseCheck_rating (t : TariffClass) :
    (s.pulseCheck t).rating =
      { s.rating with
        nextCharge := some (s.stepChargeOf t 0), warning := decide (s.available < s.stepChargeOf t 0) } := by
  unfold State.pulseCheck; dsimp only; split <;> simp [State.modRating]

theorem State.pulseCheck_setPort (t : TariffClass) :
    (s.pulseCheck t).setPort =
      if s.available < s.stepChargeOf t 0 ∧ s.rating.warning = false then (s.raise .lowCredit).setPort
      else s.setPort := by
  unfold State.pulseCheck; dsimp only; split <;> simp [State.modRating, State.raise, State.modSetPort]

theorem State.armWarning_rating (t : TariffClass) (n : Nat) :
    (s.armWarning t n).rating =
      if imageWarningLead s.activeBytes < n then
        { s.rating with warningTimer := some (s.now + (n - imageWarningLead s.activeBytes) * 1000) }
      else (s.warningCheck t n).rating := by
  unfold State.armWarning; dsimp only; split <;> simp [State.modRating]

end Sys2Proof.Machine
end

