-- ==== Sys2Proof/Laws/SessionOps.lean ====
section
/-!
SUPPORT. What each operation of Machine/SessionOps.lean leaves alone: one lemma for each field of `State` that it never
touches.  What it does to the fields it touches stands in its definition.
-/

set_option linter.unusedTactic false
set_option linter.unnecessarySeqFocus false
set_option linter.unreachableTactic false

namespace Sys2Proof.Machine

variable (s : State)

@[simp] theorem State.modImage_now (i : SlotId) (f : ImageSection → ImageSection) : (s.modImage i f).now = s.now := by
  unfold State.modImage; (try dsimp only); (repeat' split) <;> simp
@[simp] theorem State.modImage_pending (i : SlotId) (f : ImageSection → ImageSection) : (s.modImage i f).pending = s.pending := by
  unfold State.modImage; (try dsimp only); (repeat' split) <;> simp
@[simp] theorem State.modImage_coin (i : SlotId) (f : ImageSection → ImageSection) : (s.modImage i f).coin = s.coin := by
  unfold State.modImage; (try dsimp only); (repeat' split) <;> simp
@[simp] theorem State.modImage_credit (i : SlotId) (f : ImageSection → ImageSection) : (s.modImage i f).credit = s.credit := by
  unfold State.modImage; (try dsimp only); (repeat' split) <;> simp
@[simp] theorem State.modImage_rating (i : SlotId) (f : ImageSection → ImageSection) : (s.modImage i f).rating = s.rating := by
  unfold State.modImage; (try dsimp only); (repeat' split) <;> simp
@[simp] theorem State.modImage_line (i : SlotId) (f : ImageSection → ImageSection) : (s.modImage i f).line = s.line := by
  unfold State.modImage; (try dsimp only); (repeat' split) <;> simp
@[simp] theorem State.modImage_arbiter (i : SlotId) (f : ImageSection → ImageSection) : (s.modImage i f).arbiter = s.arbiter := by
  unfold State.modImage; (try dsimp only); (repeat' split) <;> simp
@[simp] theorem State.modImage_tamper (i : SlotId) (f : ImageSection → ImageSection) : (s.modImage i f).tamper = s.tamper := by
  unfold State.modImage; (try dsimp only); (repeat' split) <;> simp
@[simp] theorem State.modImage_elapsed (i : SlotId) (f : ImageSection → ImageSection) : (s.modImage i f).elapsed = s.elapsed := by
  unfold State.modImage; (try dsimp only); (repeat' split) <;> simp
@[simp] theorem State.modImage_centre (i : SlotId) (f : ImageSection → ImageSection) : (s.modImage i f).centre = s.centre := by
  unfold State.modImage; (try dsimp only); (repeat' split) <;> simp
@[simp] theorem State.modImage_modem (i : SlotId) (f : ImageSection → ImageSection) : (s.modImage i f).modem = s.modem := by
  unfold State.modImage; (try dsimp only); (repeat' split) <;> simp
@[simp] theorem State.modImage_ledger (i : SlotId) (f : ImageSection → ImageSection) : (s.modImage i f).ledger = s.ledger := by
  unfold State.modImage; (try dsimp only); (repeat' split) <;> simp
@[simp] theorem State.modImage_power (i : SlotId) (f : ImageSection → ImageSection) : (s.modImage i f).power = s.power := by
  unfold State.modImage; (try dsimp only); (repeat' split) <;> simp
@[simp] theorem State.modImage_clock (i : SlotId) (f : ImageSection → ImageSection) : (s.modImage i f).clock = s.clock := by
  unfold State.modImage; (try dsimp only); (repeat' split) <;> simp
@[simp] theorem State.modImage_setPort (i : SlotId) (f : ImageSection → ImageSection) : (s.modImage i f).setPort = s.setPort := by
  unfold State.modImage; (try dsimp only); (repeat' split) <;> simp
@[simp] theorem State.modImage_service (i : SlotId) (f : ImageSection → ImageSection) : (s.modImage i f).service = s.service := by
  unfold State.modImage; (try dsimp only); (repeat' split) <;> simp
@[simp] theorem State.modImage_config (i : SlotId) (f : ImageSection → ImageSection) : (s.modImage i f).config = s.config := by
  unfold State.modImage; (try dsimp only); (repeat' split) <;> simp
@[simp] theorem State.modImage_lifetime (i : SlotId) (f : ImageSection → ImageSection) : (s.modImage i f).lifetime = s.lifetime := by
  unfold State.modImage; (try dsimp only); (repeat' split) <;> simp
@[simp] theorem State.modImage_period (i : SlotId) (f : ImageSection → ImageSection) : (s.modImage i f).period = s.period := by
  unfold State.modImage; (try dsimp only); (repeat' split) <;> simp
@[simp] theorem State.modImage_history (i : SlotId) (f : ImageSection → ImageSection) : (s.modImage i f).history = s.history := by
  unfold State.modImage; (try dsimp only); (repeat' split) <;> simp
@[simp] theorem State.modImage_call (i : SlotId) (f : ImageSection → ImageSection) : (s.modImage i f).call = s.call := by
  unfold State.modImage; (try dsimp only); (repeat' split) <;> simp
@[simp] theorem State.modImage_events (i : SlotId) (f : ImageSection → ImageSection) : (s.modImage i f).events = s.events := by
  unfold State.modImage; (try dsimp only); (repeat' split) <;> simp
@[simp] theorem State.modImage_nv (i : SlotId) (f : ImageSection → ImageSection) : (s.modImage i f).nv = s.nv := by
  unfold State.modImage; (try dsimp only); (repeat' split) <;> simp
@[simp] theorem State.modImage_restores (i : SlotId) (f : ImageSection → ImageSection) : (s.modImage i f).restores = s.restores := by
  unfold State.modImage; (try dsimp only); (repeat' split) <;> simp

@[simp] theorem State.swapSlots_now : (s.swapSlots).now = s.now := by
  unfold State.swapSlots; (try dsimp only); (repeat' split) <;> simp
@[simp] theorem State.swapSlots_pending : (s.swapSlots).pending = s.pending := by
  unfold State.swapSlots; (try dsimp only); (repeat' split) <;> simp
@[simp] theorem State.swapSlots_coin : (s.swapSlots).coin = s.coin := by
  unfold State.swapSlots; (try dsimp only); (repeat' split) <;> simp
@[simp] theorem State.swapSlots_credit : (s.swapSlots).credit = s.credit := by
  unfold State.swapSlots; (try dsimp only); (repeat' split) <;> simp
@[simp] theorem State.swapSlots_arbiter : (s.swapSlots).arbiter = s.arbiter := by
  unfold State.swapSlots; (try dsimp only); (repeat' split) <;> simp
@[simp] theorem State.swapSlots_elapsed : (s.swapSlots).elapsed = s.elapsed := by
  unfold State.swapSlots; (try dsimp only); (repeat' split) <;> simp
@[simp] theorem State.swapSlots_centre : (s.swapSlots).centre = s.centre := by
  unfold State.swapSlots; (try dsimp only); (repeat' split) <;> simp
@[simp] theorem State.swapSlots_modem : (s.swapSlots).modem = s.modem := by
  unfold State.swapSlots; (try dsimp only); (repeat' split) <;> simp
@[simp] theorem State.swapSlots_power : (s.swapSlots).power = s.power := by
  unfold State.swapSlots; (try dsimp only); (repeat' split) <;> simp
@[simp] theorem State.swapSlots_clock : (s.swapSlots).clock = s.clock := by
  unfold State.swapSlots; (try dsimp only); (repeat' split) <;> simp
@[simp] theorem State.swapSlots_service : (s.swapSlots).service = s.service := by
  unfold State.swapSlots; (try dsimp only); (repeat' split) <;> simp
@[simp] theorem State.swapSlots_lifetime : (s.swapSlots).lifetime = s.lifetime := by
  unfold State.swapSlots; (try dsimp only); (repeat' split) <;> simp
@[simp] theorem State.swapSlots_period : (s.swapSlots).period = s.period := by
  unfold State.swapSlots; (try dsimp only); (repeat' split) <;> simp
@[simp] theorem State.swapSlots_history : (s.swapSlots).history = s.history := by
  unfold State.swapSlots; (try dsimp only); (repeat' split) <;> simp
@[simp] theorem State.swapSlots_call : (s.swapSlots).call = s.call := by
  unfold State.swapSlots; (try dsimp only); (repeat' split) <;> simp
@[simp] theorem State.swapSlots_events : (s.swapSlots).events = s.events := by
  unfold State.swapSlots; (try dsimp only); (repeat' split) <;> simp
@[simp] theorem State.swapSlots_nv : (s.swapSlots).nv = s.nv := by
  unfold State.swapSlots; (try dsimp only); (repeat' split) <;> simp
@[simp] theorem State.swapSlots_restores : (s.swapSlots).restores = s.restores := by
  unfold State.swapSlots; (try dsimp only); (repeat' split) <;> simp

@[simp] theorem State.runPendingActivation_now : (s.runPendingActivation).now = s.now := by
  unfold State.runPendingActivation; (try dsimp only); (repeat' split) <;> simp
@[simp] theorem State.runPendingActivation_pending : (s.runPendingActivation).pending = s.pending := by
  unfold State.runPendingActivation; (try dsimp only); (repeat' split) <;> simp
@[simp] theorem State.runPendingActivation_coin : (s.runPendingActivation).coin = s.coin := by
  unfold State.runPendingActivation; (try dsimp only); (repeat' split) <;> simp
@[simp] theorem State.runPendingActivation_credit : (s.runPendingActivation).credit = s.credit := by
  unfold State.runPendingActivation; (try dsimp only); (repeat' split) <;> simp
@[simp] theorem State.runPendingActivation_arbiter : (s.runPendingActivation).arbiter = s.arbiter := by
  unfold State.runPendingActivation; (try dsimp only); (repeat' split) <;> simp
@[simp] theorem State.runPendingActivation_elapsed : (s.runPendingActivation).elapsed = s.elapsed := by
  unfold State.runPendingActivation; (try dsimp only); (repeat' split) <;> simp
@[simp] theorem State.runPendingActivation_centre : (s.runPendingActivation).centre = s.centre := by
  unfold State.runPendingActivation; (try dsimp only); (repeat' split) <;> simp
@[simp] theorem State.runPendingActivation_modem : (s.runPendingActivation).modem = s.modem := by
  unfold State.runPendingActivation; (try dsimp only); (repeat' split) <;> simp
@[simp] theorem State.runPendingActivation_power : (s.runPendingActivation).power = s.power := by
  unfold State.runPendingActivation; (try dsimp only); (repeat' split) <;> simp
@[simp] theorem State.runPendingActivation_clock : (s.runPendingActivation).clock = s.clock := by
  unfold State.runPendingActivation; (try dsimp only); (repeat' split) <;> simp
@[simp] theorem State.runPendingActivation_service : (s.runPendingActivation).service = s.service := by
  unfold State.runPendingActivation; (try dsimp only); (repeat' split) <;> simp
@[simp] theorem State.runPendingActivation_lifetime : (s.runPendingActivation).lifetime = s.lifetime := by
  unfold State.runPendingActivation; (try dsimp only); (repeat' split) <;> simp
@[simp] theorem State.runPendingActivation_period : (s.runPendingActivation).period = s.period := by
  unfold State.runPendingActivation; (try dsimp only); (repeat' split) <;> simp
@[simp] theorem State.runPendingActivation_history : (s.runPendingActivation).history = s.history := by
  unfold State.runPendingActivation; (try dsimp only); (repeat' split) <;> simp
@[simp] theorem State.runPendingActivation_call : (s.runPendingActivation).call = s.call := by
  unfold State.runPendingActivation; (try dsimp only); (repeat' split) <;> simp
@[simp] theorem State.runPendingActivation_events : (s.runPendingActivation).events = s.events := by
  unfold State.runPendingActivation; (try dsimp only); (repeat' split) <;> simp
@[simp] theorem State.runPendingActivation_nv : (s.runPendingActivation).nv = s.nv := by
  unfold State.runPendingActivation; (try dsimp only); (repeat' split) <;> simp
@[simp] theorem State.runPendingActivation_restores : (s.runPendingActivation).restores = s.restores := by
  unfold State.runPendingActivation; (try dsimp only); (repeat' split) <;> simp

@[simp] theorem State.reviewRoutine_now : (s.reviewRoutine).now = s.now := by
  unfold State.reviewRoutine; (try dsimp only); (repeat' split) <;> simp
@[simp] theorem State.reviewRoutine_pending : (s.reviewRoutine).pending = s.pending := by
  unfold State.reviewRoutine; (try dsimp only); (repeat' split) <;> simp
@[simp] theorem State.reviewRoutine_coin : (s.reviewRoutine).coin = s.coin := by
  unfold State.reviewRoutine; (try dsimp only); (repeat' split) <;> simp
@[simp] theorem State.reviewRoutine_credit : (s.reviewRoutine).credit = s.credit := by
  unfold State.reviewRoutine; (try dsimp only); (repeat' split) <;> simp
@[simp] theorem State.reviewRoutine_rating : (s.reviewRoutine).rating = s.rating := by
  unfold State.reviewRoutine; (try dsimp only); (repeat' split) <;> simp
@[simp] theorem State.reviewRoutine_line : (s.reviewRoutine).line = s.line := by
  unfold State.reviewRoutine; (try dsimp only); (repeat' split) <;> simp
@[simp] theorem State.reviewRoutine_arbiter : (s.reviewRoutine).arbiter = s.arbiter := by
  unfold State.reviewRoutine; (try dsimp only); (repeat' split) <;> simp
@[simp] theorem State.reviewRoutine_tamper : (s.reviewRoutine).tamper = s.tamper := by
  unfold State.reviewRoutine; (try dsimp only); (repeat' split) <;> simp
@[simp] theorem State.reviewRoutine_elapsed : (s.reviewRoutine).elapsed = s.elapsed := by
  unfold State.reviewRoutine; (try dsimp only); (repeat' split) <;> simp
@[simp] theorem State.reviewRoutine_modem : (s.reviewRoutine).modem = s.modem := by
  unfold State.reviewRoutine; (try dsimp only); (repeat' split) <;> simp
@[simp] theorem State.reviewRoutine_ledger : (s.reviewRoutine).ledger = s.ledger := by
  unfold State.reviewRoutine; (try dsimp only); (repeat' split) <;> simp
@[simp] theorem State.reviewRoutine_power : (s.reviewRoutine).power = s.power := by
  unfold State.reviewRoutine; (try dsimp only); (repeat' split) <;> simp
@[simp] theorem State.reviewRoutine_clock : (s.reviewRoutine).clock = s.clock := by
  unfold State.reviewRoutine; (try dsimp only); (repeat' split) <;> simp
@[simp] theorem State.reviewRoutine_setPort : (s.reviewRoutine).setPort = s.setPort := by
  unfold State.reviewRoutine; (try dsimp only); (repeat' split) <;> simp
@[simp] theorem State.reviewRoutine_service : (s.reviewRoutine).service = s.service := by
  unfold State.reviewRoutine; (try dsimp only); (repeat' split) <;> simp
@[simp] theorem State.reviewRoutine_config : (s.reviewRoutine).config = s.config := by
  unfold State.reviewRoutine; (try dsimp only); (repeat' split) <;> simp
@[simp] theorem State.reviewRoutine_image0 : (s.reviewRoutine).image0 = s.image0 := by
  unfold State.reviewRoutine; (try dsimp only); (repeat' split) <;> simp
@[simp] theorem State.reviewRoutine_image1 : (s.reviewRoutine).image1 = s.image1 := by
  unfold State.reviewRoutine; (try dsimp only); (repeat' split) <;> simp
@[simp] theorem State.reviewRoutine_lifetime : (s.reviewRoutine).lifetime = s.lifetime := by
  unfold State.reviewRoutine; (try dsimp only); (repeat' split) <;> simp
@[simp] theorem State.reviewRoutine_period : (s.reviewRoutine).period = s.period := by
  unfold State.reviewRoutine; (try dsimp only); (repeat' split) <;> simp
@[simp] theorem State.reviewRoutine_history : (s.reviewRoutine).history = s.history := by
  unfold State.reviewRoutine; (try dsimp only); (repeat' split) <;> simp
@[simp] theorem State.reviewRoutine_call : (s.reviewRoutine).call = s.call := by
  unfold State.reviewRoutine; (try dsimp only); (repeat' split) <;> simp
@[simp] theorem State.reviewRoutine_events : (s.reviewRoutine).events = s.events := by
  unfold State.reviewRoutine; (try dsimp only); (repeat' split) <;> simp
@[simp] theorem State.reviewRoutine_nv : (s.reviewRoutine).nv = s.nv := by
  unfold State.reviewRoutine; (try dsimp only); (repeat' split) <;> simp
@[simp] theorem State.reviewRoutine_restores : (s.reviewRoutine).restores = s.restores := by
  unfold State.reviewRoutine; (try dsimp only); (repeat' split) <;> simp

@[simp] theorem State.reviewReport_now : (s.reviewReport).now = s.now := by
  unfold State.reviewReport; (try dsimp only); (repeat' split) <;> simp
@[simp] theorem State.reviewReport_pending : (s.reviewReport).pending = s.pending := by
  unfold State.reviewReport; (try dsimp only); (repeat' split) <;> simp
@[simp] theorem State.reviewReport_coin : (s.reviewReport).coin = s.coin := by
  unfold State.reviewReport; (try dsimp only); (repeat' split) <;> simp
@[simp] theorem State.reviewReport_credit : (s.reviewReport).credit = s.credit := by
  unfold State.reviewReport; (try dsimp only); (repeat' split) <;> simp
@[simp] theorem State.reviewReport_rating : (s.reviewReport).rating = s.rating := by
  unfold State.reviewReport; (try dsimp only); (repeat' split) <;> simp
@[simp] theorem State.reviewReport_line : (s.reviewReport).line = s.line := by
  unfold State.reviewReport; (try dsimp only); (repeat' split) <;> simp
@[simp] theorem State.reviewReport_tamper : (s.reviewReport).tamper = s.tamper := by
  unfold State.reviewReport; (try dsimp only); (repeat' split) <;> simp
@[simp] theorem State.reviewReport_elapsed : (s.reviewReport).elapsed = s.elapsed := by
  unfold State.reviewReport; (try dsimp only); (repeat' split) <;> simp
@[simp] theorem State.reviewReport_modem : (s.reviewReport).modem = s.modem := by
  unfold State.reviewReport; (try dsimp only); (repeat' split) <;> simp
@[simp] theorem State.reviewReport_ledger : (s.reviewReport).ledger = s.ledger := by
  unfold State.reviewReport; (try dsimp only); (repeat' split) <;> simp
@[simp] theorem State.reviewReport_power : (s.reviewReport).power = s.power := by
  unfold State.reviewReport; (try dsimp only); (repeat' split) <;> simp
@[simp] theorem State.reviewReport_clock : (s.reviewReport).clock = s.clock := by
  unfold State.reviewReport; (try dsimp only); (repeat' split) <;> simp
@[simp] theorem State.reviewReport_setPort : (s.reviewReport).setPort = s.setPort := by
  unfold State.reviewReport; (try dsimp only); (repeat' split) <;> simp
@[simp] theorem State.reviewReport_service : (s.reviewReport).service = s.service := by
  unfold State.reviewReport; (try dsimp only); (repeat' split) <;> simp
@[simp] theorem State.reviewReport_config : (s.reviewReport).config = s.config := by
  unfold State.reviewReport; (try dsimp only); (repeat' split) <;> simp
@[simp] theorem State.reviewReport_image0 : (s.reviewReport).image0 = s.image0 := by
  unfold State.reviewReport; (try dsimp only); (repeat' split) <;> simp
@[simp] theorem State.reviewReport_image1 : (s.reviewReport).image1 = s.image1 := by
  unfold State.reviewReport; (try dsimp only); (repeat' split) <;> simp
@[simp] theorem State.reviewReport_lifetime : (s.reviewReport).lifetime = s.lifetime := by
  unfold State.reviewReport; (try dsimp only); (repeat' split) <;> simp
@[simp] theorem State.reviewReport_period : (s.reviewReport).period = s.period := by
  unfold State.reviewReport; (try dsimp only); (repeat' split) <;> simp
@[simp] theorem State.reviewReport_history : (s.reviewReport).history = s.history := by
  unfold State.reviewReport; (try dsimp only); (repeat' split) <;> simp
@[simp] theorem State.reviewReport_call : (s.reviewReport).call = s.call := by
  unfold State.reviewReport; (try dsimp only); (repeat' split) <;> simp
@[simp] theorem State.reviewReport_events : (s.reviewReport).events = s.events := by
  unfold State.reviewReport; (try dsimp only); (repeat' split) <;> simp
@[simp] theorem State.reviewReport_nv : (s.reviewReport).nv = s.nv := by
  unfold State.reviewReport; (try dsimp only); (repeat' split) <;> simp
@[simp] theorem State.reviewReport_restores : (s.reviewReport).restores = s.restores := by
  unfold State.reviewReport; (try dsimp only); (repeat' split) <;> simp

@[simp] theorem State.arbiterSessionEnd_now : (s.arbiterSessionEnd).now = s.now := by
  unfold State.arbiterSessionEnd; (try dsimp only); (repeat' split) <;> simp
@[simp] theorem State.arbiterSessionEnd_pending : (s.arbiterSessionEnd).pending = s.pending := by
  unfold State.arbiterSessionEnd; (try dsimp only); (repeat' split) <;> simp
@[simp] theorem State.arbiterSessionEnd_coin : (s.arbiterSessionEnd).coin = s.coin := by
  unfold State.arbiterSessionEnd; (try dsimp only); (repeat' split) <;> simp
@[simp] theorem State.arbiterSessionEnd_credit : (s.arbiterSessionEnd).credit = s.credit := by
  unfold State.arbiterSessionEnd; (try dsimp only); (repeat' split) <;> simp
@[simp] theorem State.arbiterSessionEnd_rating : (s.arbiterSessionEnd).rating = s.rating := by
  unfold State.arbiterSessionEnd; (try dsimp only); (repeat' split) <;> simp
@[simp] theorem State.arbiterSessionEnd_line : (s.arbiterSessionEnd).line = s.line := by
  unfold State.arbiterSessionEnd; (try dsimp only); (repeat' split) <;> simp
@[simp] theorem State.arbiterSessionEnd_tamper : (s.arbiterSessionEnd).tamper = s.tamper := by
  unfold State.arbiterSessionEnd; (try dsimp only); (repeat' split) <;> simp
@[simp] theorem State.arbiterSessionEnd_elapsed : (s.arbiterSessionEnd).elapsed = s.elapsed := by
  unfold State.arbiterSessionEnd; (try dsimp only); (repeat' split) <;> simp
@[simp] theorem State.arbiterSessionEnd_modem : (s.arbiterSessionEnd).modem = s.modem := by
  unfold State.arbiterSessionEnd; (try dsimp only); (repeat' split) <;> simp
@[simp] theorem State.arbiterSessionEnd_ledger : (s.arbiterSessionEnd).ledger = s.ledger := by
  unfold State.arbiterSessionEnd; (try dsimp only); (repeat' split) <;> simp
@[simp] theorem State.arbiterSessionEnd_power : (s.arbiterSessionEnd).power = s.power := by
  unfold State.arbiterSessionEnd; (try dsimp only); (repeat' split) <;> simp
@[simp] theorem State.arbiterSessionEnd_clock : (s.arbiterSessionEnd).clock = s.clock := by
  unfold State.arbiterSessionEnd; (try dsimp only); (repeat' split) <;> simp
@[simp] theorem State.arbiterSessionEnd_setPort : (s.arbiterSessionEnd).setPort = s.setPort := by
  unfold State.arbiterSessionEnd; (try dsimp only); (repeat' split) <;> simp
@[simp] theorem State.arbiterSessionEnd_service : (s.arbiterSessionEnd).service = s.service := by
  unfold State.arbiterSessionEnd; (try dsimp only); (repeat' split) <;> simp
@[simp] theorem State.arbiterSessionEnd_config : (s.arbiterSessionEnd).config = s.config := by
  unfold State.arbiterSessionEnd; (try dsimp only); (repeat' split) <;> simp
@[simp] theorem State.arbiterSessionEnd_image0 : (s.arbiterSessionEnd).image0 = s.image0 := by
  unfold State.arbiterSessionEnd; (try dsimp only); (repeat' split) <;> simp
@[simp] theorem State.arbiterSessionEnd_image1 : (s.arbiterSessionEnd).image1 = s.image1 := by
  unfold State.arbiterSessionEnd; (try dsimp only); (repeat' split) <;> simp
@[simp] theorem State.arbiterSessionEnd_lifetime : (s.arbiterSessionEnd).lifetime = s.lifetime := by
  unfold State.arbiterSessionEnd; (try dsimp only); (repeat' split) <;> simp
@[simp] theorem State.arbiterSessionEnd_period : (s.arbiterSessionEnd).period = s.period := by
  unfold State.arbiterSessionEnd; (try dsimp only); (repeat' split) <;> simp
@[simp] theorem State.arbiterSessionEnd_history : (s.arbiterSessionEnd).history = s.history := by
  unfold State.arbiterSessionEnd; (try dsimp only); (repeat' split) <;> simp
@[simp] theorem State.arbiterSessionEnd_call : (s.arbiterSessionEnd).call = s.call := by
  unfold State.arbiterSessionEnd; (try dsimp only); (repeat' split) <;> simp
@[simp] theorem State.arbiterSessionEnd_events : (s.arbiterSessionEnd).events = s.events := by
  unfold State.arbiterSessionEnd; (try dsimp only); (repeat' split) <;> simp
@[simp] theorem State.arbiterSessionEnd_nv : (s.arbiterSessionEnd).nv = s.nv := by
  unfold State.arbiterSessionEnd; (try dsimp only); (repeat' split) <;> simp
@[simp] theorem State.arbiterSessionEnd_restores : (s.arbiterSessionEnd).restores = s.restores := by
  unfold State.arbiterSessionEnd; (try dsimp only); (repeat' split) <;> simp

@[simp] theorem State.lineSessionEnd_now (r : EndReason) : (s.lineSessionEnd r).now = s.now := by
  unfold State.lineSessionEnd; (try dsimp only); (repeat' split) <;> simp
@[simp] theorem State.lineSessionEnd_pending (r : EndReason) : (s.lineSessionEnd r).pending = s.pending := by
  unfold State.lineSessionEnd; (try dsimp only); (repeat' split) <;> simp
@[simp] theorem State.lineSessionEnd_coin (r : EndReason) : (s.lineSessionEnd r).coin = s.coin := by
  unfold State.lineSessionEnd; (try dsimp only); (repeat' split) <;> simp
@[simp] theorem State.lineSessionEnd_credit (r : EndReason) : (s.lineSessionEnd r).credit = s.credit := by
  unfold State.lineSessionEnd; (try dsimp only); (repeat' split) <;> simp
@[simp] theorem State.lineSessionEnd_tamper (r : EndReason) : (s.lineSessionEnd r).tamper = s.tamper := by
  unfold State.lineSessionEnd; (try dsimp only); (repeat' split) <;> simp
@[simp] theorem State.lineSessionEnd_elapsed (r : EndReason) : (s.lineSessionEnd r).elapsed = s.elapsed := by
  unfold State.lineSessionEnd; (try dsimp only); (repeat' split) <;> simp
@[simp] theorem State.lineSessionEnd_centre (r : EndReason) : (s.lineSessionEnd r).centre = s.centre := by
  unfold State.lineSessionEnd; (try dsimp only); (repeat' split) <;> simp
@[simp] theorem State.lineSessionEnd_ledger (r : EndReason) : (s.lineSessionEnd r).ledger = s.ledger := by
  unfold State.lineSessionEnd; (try dsimp only); (repeat' split) <;> simp
@[simp] theorem State.lineSessionEnd_power (r : EndReason) : (s.lineSessionEnd r).power = s.power := by
  unfold State.lineSessionEnd; (try dsimp only); (repeat' split) <;> simp
@[simp] theorem State.lineSessionEnd_clock (r : EndReason) : (s.lineSessionEnd r).clock = s.clock := by
  unfold State.lineSessionEnd; (try dsimp only); (repeat' split) <;> simp
@[simp] theorem State.lineSessionEnd_service (r : EndReason) : (s.lineSessionEnd r).service = s.service := by
  unfold State.lineSessionEnd; (try dsimp only); (repeat' split) <;> simp
@[simp] theorem State.lineSessionEnd_config (r : EndReason) : (s.lineSessionEnd r).config = s.config := by
  unfold State.lineSessionEnd; (try dsimp only); (repeat' split) <;> simp
@[simp] theorem State.lineSessionEnd_image0 (r : EndReason) : (s.lineSessionEnd r).image0 = s.image0 := by
  unfold State.lineSessionEnd; (try dsimp only); (repeat' split) <;> simp
@[simp] theorem State.lineSessionEnd_image1 (r : EndReason) : (s.lineSessionEnd r).image1 = s.image1 := by
  unfold State.lineSessionEnd; (try dsimp only); (repeat' split) <;> simp
@[simp] theorem State.lineSessionEnd_lifetime (r : EndReason) : (s.lineSessionEnd r).lifetime = s.lifetime := by
  unfold State.lineSessionEnd; (try dsimp only); (repeat' split) <;> simp
@[simp] theorem State.lineSessionEnd_period (r : EndReason) : (s.lineSessionEnd r).period = s.period := by
  unfold State.lineSessionEnd; (try dsimp only); (repeat' split) <;> simp
@[simp] theorem State.lineSessionEnd_history (r : EndReason) : (s.lineSessionEnd r).history = s.history := by
  unfold State.lineSessionEnd; (try dsimp only); (repeat' split) <;> simp
@[simp] theorem State.lineSessionEnd_call (r : EndReason) : (s.lineSessionEnd r).call = s.call := by
  unfold State.lineSessionEnd; (try dsimp only); (repeat' split) <;> simp
@[simp] theorem State.lineSessionEnd_events (r : EndReason) : (s.lineSessionEnd r).events = s.events := by
  unfold State.lineSessionEnd; (try dsimp only); (repeat' split) <;> simp
@[simp] theorem State.lineSessionEnd_nv (r : EndReason) : (s.lineSessionEnd r).nv = s.nv := by
  unfold State.lineSessionEnd; (try dsimp only); (repeat' split) <;> simp
@[simp] theorem State.lineSessionEnd_restores (r : EndReason) : (s.lineSessionEnd r).restores = s.restores := by
  unfold State.lineSessionEnd; (try dsimp only); (repeat' split) <;> simp

@[simp] theorem State.sessionEnd_now (r : EndReason) : (s.sessionEnd r).now = s.now := by
  unfold State.sessionEnd; (try dsimp only); (repeat' split) <;> simp
@[simp] theorem State.sessionEnd_pending (r : EndReason) : (s.sessionEnd r).pending = s.pending := by
  unfold State.sessionEnd; (try dsimp only); (repeat' split) <;> simp
@[simp] theorem State.sessionEnd_elapsed (r : EndReason) : (s.sessionEnd r).elapsed = s.elapsed := by
  unfold State.sessionEnd; (try dsimp only); (repeat' split) <;> simp
@[simp] theorem State.sessionEnd_power (r : EndReason) : (s.sessionEnd r).power = s.power := by
  unfold State.sessionEnd; (try dsimp only); (repeat' split) <;> simp
@[simp] theorem State.sessionEnd_clock (r : EndReason) : (s.sessionEnd r).clock = s.clock := by
  unfold State.sessionEnd; (try dsimp only); (repeat' split) <;> simp
@[simp] theorem State.sessionEnd_service (r : EndReason) : (s.sessionEnd r).service = s.service := by
  unfold State.sessionEnd; (try dsimp only); (repeat' split) <;> simp
@[simp] theorem State.sessionEnd_history (r : EndReason) : (s.sessionEnd r).history = s.history := by
  unfold State.sessionEnd; (try dsimp only); (repeat' split) <;> simp
@[simp] theorem State.sessionEnd_events (r : EndReason) : (s.sessionEnd r).events = s.events := by
  unfold State.sessionEnd; (try dsimp only); (repeat' split) <;> simp
@[simp] theorem State.sessionEnd_nv (r : EndReason) : (s.sessionEnd r).nv = s.nv := by
  unfold State.sessionEnd; (try dsimp only); (repeat' split) <;> simp
@[simp] theorem State.sessionEnd_restores (r : EndReason) : (s.sessionEnd r).restores = s.restores := by
  unfold State.sessionEnd; (try dsimp only); (repeat' split) <;> simp

@[simp] theorem State.cut_now : (s.cut).now = s.now := by
  unfold State.cut; (try dsimp only); (repeat' split) <;> simp
@[simp] theorem State.cut_pending : (s.cut).pending = s.pending := by
  unfold State.cut; (try dsimp only); (repeat' split) <;> simp
@[simp] theorem State.cut_elapsed : (s.cut).elapsed = s.elapsed := by
  unfold State.cut; (try dsimp only); (repeat' split) <;> simp
@[simp] theorem State.cut_power : (s.cut).power = s.power := by
  unfold State.cut; (try dsimp only); (repeat' split) <;> simp
@[simp] theorem State.cut_clock : (s.cut).clock = s.clock := by
  unfold State.cut; (try dsimp only); (repeat' split) <;> simp
@[simp] theorem State.cut_service : (s.cut).service = s.service := by
  unfold State.cut; (try dsimp only); (repeat' split) <;> simp
@[simp] theorem State.cut_history : (s.cut).history = s.history := by
  unfold State.cut; (try dsimp only); (repeat' split) <;> simp
@[simp] theorem State.cut_events : (s.cut).events = s.events := by
  unfold State.cut; (try dsimp only); (repeat' split) <;> simp
@[simp] theorem State.cut_nv : (s.cut).nv = s.nv := by
  unfold State.cut; (try dsimp only); (repeat' split) <;> simp
@[simp] theorem State.cut_restores : (s.cut).restores = s.restores := by
  unfold State.cut; (try dsimp only); (repeat' split) <;> simp

@[simp] theorem State.enterData_now (n : Nat) : (s.enterData n).now = s.now := by
  unfold State.enterData; (try dsimp only); (repeat' split) <;> simp
@[simp] theorem State.enterData_pending (n : Nat) : (s.enterData n).pending = s.pending := by
  unfold State.enterData; (try dsimp only); (repeat' split) <;> simp
@[simp] theorem State.enterData_coin (n : Nat) : (s.enterData n).coin = s.coin := by
  unfold State.enterData; (try dsimp only); (repeat' split) <;> simp
@[simp] theorem State.enterData_credit (n : Nat) : (s.enterData n).credit = s.credit := by
  unfold State.enterData; (try dsimp only); (repeat' split) <;> simp
@[simp] theorem State.enterData_rating (n : Nat) : (s.enterData n).rating = s.rating := by
  unfold State.enterData; (try dsimp only); (repeat' split) <;> simp
@[simp] theorem State.enterData_arbiter (n : Nat) : (s.enterData n).arbiter = s.arbiter := by
  unfold State.enterData; (try dsimp only); (repeat' split) <;> simp
@[simp] theorem State.enterData_tamper (n : Nat) : (s.enterData n).tamper = s.tamper := by
  unfold State.enterData; (try dsimp only); (repeat' split) <;> simp
@[simp] theorem State.enterData_elapsed (n : Nat) : (s.enterData n).elapsed = s.elapsed := by
  unfold State.enterData; (try dsimp only); (repeat' split) <;> simp
@[simp] theorem State.enterData_modem (n : Nat) : (s.enterData n).modem = s.modem := by
  unfold State.enterData; (try dsimp only); (repeat' split) <;> simp
@[simp] theorem State.enterData_ledger (n : Nat) : (s.enterData n).ledger = s.ledger := by
  unfold State.enterData; (try dsimp only); (repeat' split) <;> simp
@[simp] theorem State.enterData_power (n : Nat) : (s.enterData n).power = s.power := by
  unfold State.enterData; (try dsimp only); (repeat' split) <;> simp
@[simp] theorem State.enterData_clock (n : Nat) : (s.enterData n).clock = s.clock := by
  unfold State.enterData; (try dsimp only); (repeat' split) <;> simp
@[simp] theorem State.enterData_service (n : Nat) : (s.enterData n).service = s.service := by
  unfold State.enterData; (try dsimp only); (repeat' split) <;> simp
@[simp] theorem State.enterData_config (n : Nat) : (s.enterData n).config = s.config := by
  unfold State.enterData; (try dsimp only); (repeat' split) <;> simp
@[simp] theorem State.enterData_image0 (n : Nat) : (s.enterData n).image0 = s.image0 := by
  unfold State.enterData; (try dsimp only); (repeat' split) <;> simp
@[simp] theorem State.enterData_image1 (n : Nat) : (s.enterData n).image1 = s.image1 := by
  unfold State.enterData; (try dsimp only); (repeat' split) <;> simp
@[simp] theorem State.enterData_lifetime (n : Nat) : (s.enterData n).lifetime = s.lifetime := by
  unfold State.enterData; (try dsimp only); (repeat' split) <;> simp
@[simp] theorem State.enterData_period (n : Nat) : (s.enterData n).period = s.period := by
  unfold State.enterData; (try dsimp only); (repeat' split) <;> simp
@[simp] theorem State.enterData_history (n : Nat) : (s.enterData n).history = s.history := by
  unfold State.enterData; (try dsimp only); (repeat' split) <;> simp
@[simp] theorem State.enterData_call (n : Nat) : (s.enterData n).call = s.call := by
  unfold State.enterData; (try dsimp only); (repeat' split) <;> simp
@[simp] theorem State.enterData_events (n : Nat) : (s.enterData n).events = s.events := by
  unfold State.enterData; (try dsimp only); (repeat' split) <;> simp
@[simp] theorem State.enterData_nv (n : Nat) : (s.enterData n).nv = s.nv := by
  unfold State.enterData; (try dsimp only); (repeat' split) <;> simp
@[simp] theorem State.enterData_restores (n : Nat) : (s.enterData n).restores = s.restores := by
  unfold State.enterData; (try dsimp only); (repeat' split) <;> simp

@[simp] theorem State.awaitCentre_now : (s.awaitCentre).now = s.now := by
  unfold State.awaitCentre; (try dsimp only); (repeat' split) <;> simp
@[simp] theorem State.awaitCentre_pending : (s.awaitCentre).pending = s.pending := by
  unfold State.awaitCentre; (try dsimp only); (repeat' split) <;> simp
@[simp] theorem State.awaitCentre_coin : (s.awaitCentre).coin = s.coin := by
  unfold State.awaitCentre; (try dsimp only); (repeat' split) <;> simp
@[simp] theorem State.awaitCentre_credit : (s.awaitCentre).credit = s.credit := by
  unfold State.awaitCentre; (try dsimp only); (repeat' split) <;> simp
@[simp] theorem State.awaitCentre_rating : (s.awaitCentre).rating = s.rating := by
  unfold State.awaitCentre; (try dsimp only); (repeat' split) <;> simp
@[simp] theorem State.awaitCentre_arbiter : (s.awaitCentre).arbiter = s.arbiter := by
  unfold State.awaitCentre; (try dsimp only); (repeat' split) <;> simp
@[simp] theorem State.awaitCentre_tamper : (s.awaitCentre).tamper = s.tamper := by
  unfold State.awaitCentre; (try dsimp only); (repeat' split) <;> simp
@[simp] theorem State.awaitCentre_elapsed : (s.awaitCentre).elapsed = s.elapsed := by
  unfold State.awaitCentre; (try dsimp only); (repeat' split) <;> simp
@[simp] theorem State.awaitCentre_modem : (s.awaitCentre).modem = s.modem := by
  unfold State.awaitCentre; (try dsimp only); (repeat' split) <;> simp
@[simp] theorem State.awaitCentre_ledger : (s.awaitCentre).ledger = s.ledger := by
  unfold State.awaitCentre; (try dsimp only); (repeat' split) <;> simp
@[simp] theorem State.awaitCentre_power : (s.awaitCentre).power = s.power := by
  unfold State.awaitCentre; (try dsimp only); (repeat' split) <;> simp
@[simp] theorem State.awaitCentre_clock : (s.awaitCentre).clock = s.clock := by
  unfold State.awaitCentre; (try dsimp only); (repeat' split) <;> simp
@[simp] theorem State.awaitCentre_service : (s.awaitCentre).service = s.service := by
  unfold State.awaitCentre; (try dsimp only); (repeat' split) <;> simp
@[simp] theorem State.awaitCentre_config : (s.awaitCentre).config = s.config := by
  unfold State.awaitCentre; (try dsimp only); (repeat' split) <;> simp
@[simp] theorem State.awaitCentre_image0 : (s.awaitCentre).image0 = s.image0 := by
  unfold State.awaitCentre; (try dsimp only); (repeat' split) <;> simp
@[simp] theorem State.awaitCentre_image1 : (s.awaitCentre).image1 = s.image1 := by
  unfold State.awaitCentre; (try dsimp only); (repeat' split) <;> simp
@[simp] theorem State.awaitCentre_lifetime : (s.awaitCentre).lifetime = s.lifetime := by
  unfold State.awaitCentre; (try dsimp only); (repeat' split) <;> simp
@[simp] theorem State.awaitCentre_period : (s.awaitCentre).period = s.period := by
  unfold State.awaitCentre; (try dsimp only); (repeat' split) <;> simp
@[simp] theorem State.awaitCentre_history : (s.awaitCentre).history = s.history := by
  unfold State.awaitCentre; (try dsimp only); (repeat' split) <;> simp
@[simp] theorem State.awaitCentre_call : (s.awaitCentre).call = s.call := by
  unfold State.awaitCentre; (try dsimp only); (repeat' split) <;> simp
@[simp] theorem State.awaitCentre_events : (s.awaitCentre).events = s.events := by
  unfold State.awaitCentre; (try dsimp only); (repeat' split) <;> simp
@[simp] theorem State.awaitCentre_nv : (s.awaitCentre).nv = s.nv := by
  unfold State.awaitCentre; (try dsimp only); (repeat' split) <;> simp
@[simp] theorem State.awaitCentre_restores : (s.awaitCentre).restores = s.restores := by
  unfold State.awaitCentre; (try dsimp only); (repeat' split) <;> simp

@[simp] theorem State.ratingAnswer_now : (s.ratingAnswer).now = s.now := by
  unfold State.ratingAnswer
  split
  · dsimp only; split
    · simp
    · split <;> (rename_i h; replace h := congrArg (fun p => p.2.now) h; simp at h) <;> (try split) <;> simp [h]
  · rfl
@[simp] theorem State.ratingAnswer_pending : (s.ratingAnswer).pending = s.pending := by
  unfold State.ratingAnswer
  split
  · dsimp only; split
    · simp
    · split <;> (rename_i h; replace h := congrArg (fun p => p.2.pending) h; simp at h) <;> (try split) <;> simp [h]
  · rfl
@[simp] theorem State.ratingAnswer_elapsed : (s.ratingAnswer).elapsed = s.elapsed := by
  unfold State.ratingAnswer
  split
  · dsimp only; split
    · simp
    · split <;> (rename_i h; replace h := congrArg (fun p => p.2.elapsed) h; simp at h) <;> (try split) <;> simp [h]
  · rfl
@[simp] theorem State.ratingAnswer_power : (s.ratingAnswer).power = s.power := by
  unfold State.ratingAnswer
  split
  · dsimp only; split
    · simp
    · split <;> (rename_i h; replace h := congrArg (fun p => p.2.power) h; simp at h) <;> (try split) <;> simp [h]
  · rfl
@[simp] theorem State.ratingAnswer_clock : (s.ratingAnswer).clock = s.clock := by
  unfold State.ratingAnswer
  split
  · dsimp only; split
    · simp
    · split <;> (rename_i h; replace h := congrArg (fun p => p.2.clock) h; simp at h) <;> (try split) <;> simp [h]
  · rfl
@[simp] theorem State.ratingAnswer_service : (s.ratingAnswer).service = s.service := by
  unfold State.ratingAnswer
  split
  · dsimp only; split
    · simp
    · split <;> (rename_i h; replace h := congrArg (fun p => p.2.service) h; simp at h) <;> (try split) <;> simp [h]
  · rfl
@[simp] theorem State.ratingAnswer_history : (s.ratingAnswer).history = s.history := by
  unfold State.ratingAnswer
  split
  · dsimp only; split
    · simp
    · split <;> (rename_i h; replace h := congrArg (fun p => p.2.history) h; simp at h) <;> (try split) <;> simp [h]
  · rfl
@[simp] theorem State.ratingAnswer_nv : (s.ratingAnswer).nv = s.nv := by
  unfold State.ratingAnswer
  split
  · dsimp only; split
    · simp
    · split <;> (rename_i h; replace h := congrArg (fun p => p.2.nv) h; simp at h) <;> (try split) <;> simp [h]
  · rfl
@[simp] theorem State.ratingAnswer_restores : (s.ratingAnswer).restores = s.restores := by
  unfold State.ratingAnswer
  split
  · dsimp only; split
    · simp
    · split <;> (rename_i h; replace h := congrArg (fun p => p.2.restores) h; simp at h) <;> (try split) <;> simp [h]
  · rfl

@[simp] theorem State.stepCharge_now : (s.stepCharge).now = s.now := by
  unfold State.stepCharge
  split
  · dsimp only; split
    · simp
    · split <;> (rename_i h; replace h := congrArg (fun p => p.2.now) h; simp at h) <;> (try split) <;> simp [h]
  · rfl
@[simp] theorem State.stepCharge_pending : (s.stepCharge).pending = s.pending := by
  unfold State.stepCharge
  split
  · dsimp only; split
    · simp
    · split <;> (rename_i h; replace h := congrArg (fun p => p.2.pending) h; simp at h) <;> (try split) <;> simp [h]
  · rfl
@[simp] theorem State.stepCharge_elapsed : (s.stepCharge).elapsed = s.elapsed := by
  unfold State.stepCharge
  split
  · dsimp only; split
    · simp
    · split <;> (rename_i h; replace h := congrArg (fun p => p.2.elapsed) h; simp at h) <;> (try split) <;> simp [h]
  · rfl
@[simp] theorem State.stepCharge_power : (s.stepCharge).power = s.power := by
  unfold State.stepCharge
  split
  · dsimp only; split
    · simp
    · split <;> (rename_i h; replace h := congrArg (fun p => p.2.power) h; simp at h) <;> (try split) <;> simp [h]
  · rfl
@[simp] theorem State.stepCharge_clock : (s.stepCharge).clock = s.clock := by
  unfold State.stepCharge
  split
  · dsimp only; split
    · simp
    · split <;> (rename_i h; replace h := congrArg (fun p => p.2.clock) h; simp at h) <;> (try split) <;> simp [h]
  · rfl
@[simp] theorem State.stepCharge_service : (s.stepCharge).service = s.service := by
  unfold State.stepCharge
  split
  · dsimp only; split
    · simp
    · split <;> (rename_i h; replace h := congrArg (fun p => p.2.service) h; simp at h) <;> (try split) <;> simp [h]
  · rfl
@[simp] theorem State.stepCharge_history : (s.stepCharge).history = s.history := by
  unfold State.stepCharge
  split
  · dsimp only; split
    · simp
    · split <;> (rename_i h; replace h := congrArg (fun p => p.2.history) h; simp at h) <;> (try split) <;> simp [h]
  · rfl
@[simp] theorem State.stepCharge_nv : (s.stepCharge).nv = s.nv := by
  unfold State.stepCharge
  split
  · dsimp only; split
    · simp
    · split <;> (rename_i h; replace h := congrArg (fun p => p.2.nv) h; simp at h) <;> (try split) <;> simp [h]
  · rfl
@[simp] theorem State.stepCharge_restores : (s.stepCharge).restores = s.restores := by
  unfold State.stepCharge
  split
  · dsimp only; split
    · simp
    · split <;> (rename_i h; replace h := congrArg (fun p => p.2.restores) h; simp at h) <;> (try split) <;> simp [h]
  · rfl

@[simp] theorem State.answerCall_now : (s.answerCall).now = s.now := by
  unfold State.answerCall; (try dsimp only); (repeat' split) <;> simp
@[simp] theorem State.answerCall_pending : (s.answerCall).pending = s.pending := by
  unfold State.answerCall; (try dsimp only); (repeat' split) <;> simp
@[simp] theorem State.answerCall_elapsed : (s.answerCall).elapsed = s.elapsed := by
  unfold State.answerCall; (try dsimp only); (repeat' split) <;> simp
@[simp] theorem State.answerCall_power : (s.answerCall).power = s.power := by
  unfold State.answerCall; (try dsimp only); (repeat' split) <;> simp
@[simp] theorem State.answerCall_clock : (s.answerCall).clock = s.clock := by
  unfold State.answerCall; (try dsimp only); (repeat' split) <;> simp
@[simp] theorem State.answerCall_service : (s.answerCall).service = s.service := by
  unfold State.answerCall; (try dsimp only); (repeat' split) <;> simp
@[simp] theorem State.answerCall_history : (s.answerCall).history = s.history := by
  unfold State.answerCall; (try dsimp only); (repeat' split) <;> simp
@[simp] theorem State.answerCall_nv : (s.answerCall).nv = s.nv := by
  unfold State.answerCall; (try dsimp only); (repeat' split) <;> simp
@[simp] theorem State.answerCall_restores : (s.answerCall).restores = s.restores := by
  unfold State.answerCall; (try dsimp only); (repeat' split) <;> simp

@[simp] theorem State.awaitUserAnswer_now : (s.awaitUserAnswer).now = s.now := by
  unfold State.awaitUserAnswer; (try dsimp only); (repeat' split) <;> simp
@[simp] theorem State.awaitUserAnswer_pending : (s.awaitUserAnswer).pending = s.pending := by
  unfold State.awaitUserAnswer; (try dsimp only); (repeat' split) <;> simp
@[simp] theorem State.awaitUserAnswer_elapsed : (s.awaitUserAnswer).elapsed = s.elapsed := by
  unfold State.awaitUserAnswer; (try dsimp only); (repeat' split) <;> simp
@[simp] theorem State.awaitUserAnswer_power : (s.awaitUserAnswer).power = s.power := by
  unfold State.awaitUserAnswer; (try dsimp only); (repeat' split) <;> simp
@[simp] theorem State.awaitUserAnswer_clock : (s.awaitUserAnswer).clock = s.clock := by
  unfold State.awaitUserAnswer; (try dsimp only); (repeat' split) <;> simp
@[simp] theorem State.awaitUserAnswer_service : (s.awaitUserAnswer).service = s.service := by
  unfold State.awaitUserAnswer; (try dsimp only); (repeat' split) <;> simp
@[simp] theorem State.awaitUserAnswer_history : (s.awaitUserAnswer).history = s.history := by
  unfold State.awaitUserAnswer; (try dsimp only); (repeat' split) <;> simp
@[simp] theorem State.awaitUserAnswer_nv : (s.awaitUserAnswer).nv = s.nv := by
  unfold State.awaitUserAnswer; (try dsimp only); (repeat' split) <;> simp
@[simp] theorem State.awaitUserAnswer_restores : (s.awaitUserAnswer).restores = s.restores := by
  unfold State.awaitUserAnswer; (try dsimp only); (repeat' split) <;> simp

@[simp] theorem State.checkSent_now : (s.checkSent).now = s.now := by
  unfold State.checkSent; (try dsimp only); (repeat' split) <;> simp
@[simp] theorem State.checkSent_pending : (s.checkSent).pending = s.pending := by
  unfold State.checkSent; (try dsimp only); (repeat' split) <;> simp
@[simp] theorem State.checkSent_elapsed : (s.checkSent).elapsed = s.elapsed := by
  unfold State.checkSent; (try dsimp only); (repeat' split) <;> simp
@[simp] theorem State.checkSent_power : (s.checkSent).power = s.power := by
  unfold State.checkSent; (try dsimp only); (repeat' split) <;> simp
@[simp] theorem State.checkSent_clock : (s.checkSent).clock = s.clock := by
  unfold State.checkSent; (try dsimp only); (repeat' split) <;> simp
@[simp] theorem State.checkSent_service : (s.checkSent).service = s.service := by
  unfold State.checkSent; (try dsimp only); (repeat' split) <;> simp
@[simp] theorem State.checkSent_history : (s.checkSent).history = s.history := by
  unfold State.checkSent; (try dsimp only); (repeat' split) <;> simp
@[simp] theorem State.checkSent_nv : (s.checkSent).nv = s.nv := by
  unfold State.checkSent; (try dsimp only); (repeat' split) <;> simp
@[simp] theorem State.checkSent_restores : (s.checkSent).restores = s.restores := by
  unfold State.checkSent; (try dsimp only); (repeat' split) <;> simp

@[simp] theorem State.resolveBuffer_now (a : Answer) : (s.resolveBuffer a).2.now = s.now := by
  unfold State.resolveBuffer; (try dsimp only); (repeat' split) <;> simp
@[simp] theorem State.resolveBuffer_pending (a : Answer) : (s.resolveBuffer a).2.pending = s.pending := by
  unfold State.resolveBuffer; (try dsimp only); (repeat' split) <;> simp
@[simp] theorem State.resolveBuffer_coin (a : Answer) : (s.resolveBuffer a).2.coin = s.coin := by
  unfold State.resolveBuffer; (try dsimp only); (repeat' split) <;> simp
@[simp] theorem State.resolveBuffer_credit (a : Answer) : (s.resolveBuffer a).2.credit = s.credit := by
  unfold State.resolveBuffer; (try dsimp only); (repeat' split) <;> simp
@[simp] theorem State.resolveBuffer_arbiter (a : Answer) : (s.resolveBuffer a).2.arbiter = s.arbiter := by
  unfold State.resolveBuffer; (try dsimp only); (repeat' split) <;> simp
@[simp] theorem State.resolveBuffer_tamper (a : Answer) : (s.resolveBuffer a).2.tamper = s.tamper := by
  unfold State.resolveBuffer; (try dsimp only); (repeat' split) <;> simp
@[simp] theorem State.resolveBuffer_elapsed (a : Answer) : (s.resolveBuffer a).2.elapsed = s.elapsed := by
  unfold State.resolveBuffer; (try dsimp only); (repeat' split) <;> simp
@[simp] theorem State.resolveBuffer_centre (a : Answer) : (s.resolveBuffer a).2.centre = s.centre := by
  unfold State.resolveBuffer; (try dsimp only); (repeat' split) <;> simp
@[simp] theorem State.resolveBuffer_modem (a : Answer) : (s.resolveBuffer a).2.modem = s.modem := by
  unfold State.resolveBuffer; (try dsimp only); (repeat' split) <;> simp
@[simp] theorem State.resolveBuffer_ledger (a : Answer) : (s.resolveBuffer a).2.ledger = s.ledger := by
  unfold State.resolveBuffer; (try dsimp only); (repeat' split) <;> simp
@[simp] theorem State.resolveBuffer_power (a : Answer) : (s.resolveBuffer a).2.power = s.power := by
  unfold State.resolveBuffer; (try dsimp only); (repeat' split) <;> simp
@[simp] theorem State.resolveBuffer_clock (a : Answer) : (s.resolveBuffer a).2.clock = s.clock := by
  unfold State.resolveBuffer; (try dsimp only); (repeat' split) <;> simp
@[simp] theorem State.resolveBuffer_service (a : Answer) : (s.resolveBuffer a).2.service = s.service := by
  unfold State.resolveBuffer; (try dsimp only); (repeat' split) <;> simp
@[simp] theorem State.resolveBuffer_config (a : Answer) : (s.resolveBuffer a).2.config = s.config := by
  unfold State.resolveBuffer; (try dsimp only); (repeat' split) <;> simp
@[simp] theorem State.resolveBuffer_image0 (a : Answer) : (s.resolveBuffer a).2.image0 = s.image0 := by
  unfold State.resolveBuffer; (try dsimp only); (repeat' split) <;> simp
@[simp] theorem State.resolveBuffer_image1 (a : Answer) : (s.resolveBuffer a).2.image1 = s.image1 := by
  unfold State.resolveBuffer; (try dsimp only); (repeat' split) <;> simp
@[simp] theorem State.resolveBuffer_lifetime (a : Answer) : (s.resolveBuffer a).2.lifetime = s.lifetime := by
  unfold State.resolveBuffer; (try dsimp only); (repeat' split) <;> simp
@[simp] theorem State.resolveBuffer_period (a : Answer) : (s.resolveBuffer a).2.period = s.period := by
  unfold State.resolveBuffer; (try dsimp only); (repeat' split) <;> simp
@[simp] theorem State.resolveBuffer_history (a : Answer) : (s.resolveBuffer a).2.history = s.history := by
  unfold State.resolveBuffer; (try dsimp only); (repeat' split) <;> simp
@[simp] theorem State.resolveBuffer_call (a : Answer) : (s.resolveBuffer a).2.call = s.call := by
  unfold State.resolveBuffer; (try dsimp only); (repeat' split) <;> simp
@[simp] theorem State.resolveBuffer_events (a : Answer) : (s.resolveBuffer a).2.events = s.events := by
  unfold State.resolveBuffer; (try dsimp only); (repeat' split) <;> simp
@[simp] theorem State.resolveBuffer_nv (a : Answer) : (s.resolveBuffer a).2.nv = s.nv := by
  unfold State.resolveBuffer; (try dsimp only); (repeat' split) <;> simp
@[simp] theorem State.resolveBuffer_restores (a : Answer) : (s.resolveBuffer a).2.restores = s.restores := by
  unfold State.resolveBuffer; (try dsimp only); (repeat' split) <;> simp

@[simp] theorem State.reachEnd_now : (s.reachEnd).2.now = s.now := by
  unfold State.reachEnd; (try dsimp only); (repeat' split) <;> simp
@[simp] theorem State.reachEnd_pending : (s.reachEnd).2.pending = s.pending := by
  unfold State.reachEnd; (try dsimp only); (repeat' split) <;> simp
@[simp] theorem State.reachEnd_elapsed : (s.reachEnd).2.elapsed = s.elapsed := by
  unfold State.reachEnd; (try dsimp only); (repeat' split) <;> simp
@[simp] theorem State.reachEnd_power : (s.reachEnd).2.power = s.power := by
  unfold State.reachEnd; (try dsimp only); (repeat' split) <;> simp
@[simp] theorem State.reachEnd_clock : (s.reachEnd).2.clock = s.clock := by
  unfold State.reachEnd; (try dsimp only); (repeat' split) <;> simp
@[simp] theorem State.reachEnd_service : (s.reachEnd).2.service = s.service := by
  unfold State.reachEnd; (try dsimp only); (repeat' split) <;> simp
@[simp] theorem State.reachEnd_history : (s.reachEnd).2.history = s.history := by
  unfold State.reachEnd; (try dsimp only); (repeat' split) <;> simp
@[simp] theorem State.reachEnd_nv : (s.reachEnd).2.nv = s.nv := by
  unfold State.reachEnd; (try dsimp only); (repeat' split) <;> simp
@[simp] theorem State.reachEnd_restores : (s.reachEnd).2.restores = s.restores := by
  unfold State.reachEnd; (try dsimp only); (repeat' split) <;> simp

end Sys2Proof.Machine
end

