-- ==== Sys2Proof/Laws/CentreOps.lean ====
section
/-!
SUPPORT. What each operation of Machine/CentreOps.lean leaves alone: one lemma for each field of `State` that it never
touches, and what the modem's own operations can do.  What an operation does to the fields it touches stands in its
definition.
-/

set_option linter.unusedTactic false
set_option linter.unnecessarySeqFocus false
set_option linter.unreachableTactic false

namespace Sys2Proof.Machine

variable (s : State)

/-- Everything the start of a waiting frame can do: nothing, a look that finds the carrier, or the first frame's start
(R146). -/
theorem Modem.startNext_cases (m : Modem) :
    m.startNext = m ∨
    ∃ f rest, m.waiting = f :: rest ∧ m.sending = none ∧ m.turnaround = none ∧
      (Config.carrierPresent m.looks = true ∧ m.startNext = { m with looks := m.looks + 1 } ∨
        Config.carrierPresent m.looks = false ∧
          m.startNext = { m with sending := some f, waiting := rest, looks := m.looks + 1 }) := by
  unfold Modem.startNext
  split
  · exact .inl rfl
  · split
    · split <;> simp_all
    · exact .inl rfl

/-- A frame waits behind one that is being sent and behind the turnaround (R146). -/
theorem Modem.enqueue_of_busy (m : Modem) (f : Frame) (h : m.sending ≠ none ∨ m.turnaround ≠ none) :
    m.enqueue f = { m with waiting := m.waiting ++ [f] } := by
  unfold Modem.enqueue Modem.startNext
  split
  · rfl
  · rcases h with h | h <;> simp_all [Option.ne_none_iff_isSome]

@[simp] theorem State.sendFrame_now (f : Frame) : (s.sendFrame f).now = s.now := by
  unfold State.sendFrame; (try dsimp only); (repeat' split) <;> simp
@[simp] theorem State.sendFrame_pending (f : Frame) : (s.sendFrame f).pending = s.pending := by
  unfold State.sendFrame; (try dsimp only); (repeat' split) <;> simp
@[simp] theorem State.sendFrame_coin (f : Frame) : (s.sendFrame f).coin = s.coin := by
  unfold State.sendFrame; (try dsimp only); (repeat' split) <;> simp
@[simp] theorem State.sendFrame_credit (f : Frame) : (s.sendFrame f).credit = s.credit := by
  unfold State.sendFrame; (try dsimp only); (repeat' split) <;> simp
@[simp] theorem State.sendFrame_rating (f : Frame) : (s.sendFrame f).rating = s.rating := by
  unfold State.sendFrame; (try dsimp only); (repeat' split) <;> simp
@[simp] theorem State.sendFrame_line (f : Frame) : (s.sendFrame f).line = s.line := by
  unfold State.sendFrame; (try dsimp only); (repeat' split) <;> simp
@[simp] theorem State.sendFrame_arbiter (f : Frame) : (s.sendFrame f).arbiter = s.arbiter := by
  unfold State.sendFrame; (try dsimp only); (repeat' split) <;> simp
@[simp] theorem State.sendFrame_tamper (f : Frame) : (s.sendFrame f).tamper = s.tamper := by
  unfold State.sendFrame; (try dsimp only); (repeat' split) <;> simp
@[simp] theorem State.sendFrame_elapsed (f : Frame) : (s.sendFrame f).elapsed = s.elapsed := by
  unfold State.sendFrame; (try dsimp only); (repeat' split) <;> simp
@[simp] theorem State.sendFrame_centre (f : Frame) : (s.sendFrame f).centre = s.centre := by
  unfold State.sendFrame; (try dsimp only); (repeat' split) <;> simp
@[simp] theorem State.sendFrame_ledger (f : Frame) : (s.sendFrame f).ledger = s.ledger := by
  unfold State.sendFrame; (try dsimp only); (repeat' split) <;> simp
@[simp] theorem State.sendFrame_power (f : Frame) : (s.sendFrame f).power = s.power := by
  unfold State.sendFrame; (try dsimp only); (repeat' split) <;> simp
@[simp] theorem State.sendFrame_clock (f : Frame) : (s.sendFrame f).clock = s.clock := by
  unfold State.sendFrame; (try dsimp only); (repeat' split) <;> simp
@[simp] theorem State.sendFrame_setPort (f : Frame) : (s.sendFrame f).setPort = s.setPort := by
  unfold State.sendFrame; (try dsimp only); (repeat' split) <;> simp
@[simp] theorem State.sendFrame_service (f : Frame) : (s.sendFrame f).service = s.service := by
  unfold State.sendFrame; (try dsimp only); (repeat' split) <;> simp
@[simp] theorem State.sendFrame_config (f : Frame) : (s.sendFrame f).config = s.config := by
  unfold State.sendFrame; (try dsimp only); (repeat' split) <;> simp
@[simp] theorem State.sendFrame_image0 (f : Frame) : (s.sendFrame f).image0 = s.image0 := by
  unfold State.sendFrame; (try dsimp only); (repeat' split) <;> simp
@[simp] theorem State.sendFrame_image1 (f : Frame) : (s.sendFrame f).image1 = s.image1 := by
  unfold State.sendFrame; (try dsimp only); (repeat' split) <;> simp
@[simp] theorem State.sendFrame_lifetime (f : Frame) : (s.sendFrame f).lifetime = s.lifetime := by
  unfold State.sendFrame; (try dsimp only); (repeat' split) <;> simp
@[simp] theorem State.sendFrame_period (f : Frame) : (s.sendFrame f).period = s.period := by
  unfold State.sendFrame; (try dsimp only); (repeat' split) <;> simp
@[simp] theorem State.sendFrame_history (f : Frame) : (s.sendFrame f).history = s.history := by
  unfold State.sendFrame; (try dsimp only); (repeat' split) <;> simp
@[simp] theorem State.sendFrame_call (f : Frame) : (s.sendFrame f).call = s.call := by
  unfold State.sendFrame; (try dsimp only); (repeat' split) <;> simp
@[simp] theorem State.sendFrame_events (f : Frame) : (s.sendFrame f).events = s.events := by
  unfold State.sendFrame; (try dsimp only); (repeat' split) <;> simp
@[simp] theorem State.sendFrame_nv (f : Frame) : (s.sendFrame f).nv = s.nv := by
  unfold State.sendFrame; (try dsimp only); (repeat' split) <;> simp
@[simp] theorem State.sendFrame_restores (f : Frame) : (s.sendFrame f).restores = s.restores := by
  unfold State.sendFrame; (try dsimp only); (repeat' split) <;> simp

@[simp] theorem State.sendNew_now (t : Byte) (p : List Byte) : (s.sendNew t p).now = s.now := by
  unfold State.sendNew; (try dsimp only); (repeat' split) <;> simp
@[simp] theorem State.sendNew_pending (t : Byte) (p : List Byte) : (s.sendNew t p).pending = s.pending := by
  unfold State.sendNew; (try dsimp only); (repeat' split) <;> simp
@[simp] theorem State.sendNew_coin (t : Byte) (p : List Byte) : (s.sendNew t p).coin = s.coin := by
  unfold State.sendNew; (try dsimp only); (repeat' split) <;> simp
@[simp] theorem State.sendNew_credit (t : Byte) (p : List Byte) : (s.sendNew t p).credit = s.credit := by
  unfold State.sendNew; (try dsimp only); (repeat' split) <;> simp
@[simp] theorem State.sendNew_rating (t : Byte) (p : List Byte) : (s.sendNew t p).rating = s.rating := by
  unfold State.sendNew; (try dsimp only); (repeat' split) <;> simp
@[simp] theorem State.sendNew_line (t : Byte) (p : List Byte) : (s.sendNew t p).line = s.line := by
  unfold State.sendNew; (try dsimp only); (repeat' split) <;> simp
@[simp] theorem State.sendNew_arbiter (t : Byte) (p : List Byte) : (s.sendNew t p).arbiter = s.arbiter := by
  unfold State.sendNew; (try dsimp only); (repeat' split) <;> simp
@[simp] theorem State.sendNew_tamper (t : Byte) (p : List Byte) : (s.sendNew t p).tamper = s.tamper := by
  unfold State.sendNew; (try dsimp only); (repeat' split) <;> simp
@[simp] theorem State.sendNew_elapsed (t : Byte) (p : List Byte) : (s.sendNew t p).elapsed = s.elapsed := by
  unfold State.sendNew; (try dsimp only); (repeat' split) <;> simp
@[simp] theorem State.sendNew_ledger (t : Byte) (p : List Byte) : (s.sendNew t p).ledger = s.ledger := by
  unfold State.sendNew; (try dsimp only); (repeat' split) <;> simp
@[simp] theorem State.sendNew_power (t : Byte) (p : List Byte) : (s.sendNew t p).power = s.power := by
  unfold State.sendNew; (try dsimp only); (repeat' split) <;> simp
@[simp] theorem State.sendNew_clock (t : Byte) (p : List Byte) : (s.sendNew t p).clock = s.clock := by
  unfold State.sendNew; (try dsimp only); (repeat' split) <;> simp
@[simp] theorem State.sendNew_setPort (t : Byte) (p : List Byte) : (s.sendNew t p).setPort = s.setPort := by
  unfold State.sendNew; (try dsimp only); (repeat' split) <;> simp
@[simp] theorem State.sendNew_service (t : Byte) (p : List Byte) : (s.sendNew t p).service = s.service := by
  unfold State.sendNew; (try dsimp only); (repeat' split) <;> simp
@[simp] theorem State.sendNew_config (t : Byte) (p : List Byte) : (s.sendNew t p).config = s.config := by
  unfold State.sendNew; (try dsimp only); (repeat' split) <;> simp
@[simp] theorem State.sendNew_image0 (t : Byte) (p : List Byte) : (s.sendNew t p).image0 = s.image0 := by
  unfold State.sendNew; (try dsimp only); (repeat' split) <;> simp
@[simp] theorem State.sendNew_image1 (t : Byte) (p : List Byte) : (s.sendNew t p).image1 = s.image1 := by
  unfold State.sendNew; (try dsimp only); (repeat' split) <;> simp
@[simp] theorem State.sendNew_lifetime (t : Byte) (p : List Byte) : (s.sendNew t p).lifetime = s.lifetime := by
  unfold State.sendNew; (try dsimp only); (repeat' split) <;> simp
@[simp] theorem State.sendNew_period (t : Byte) (p : List Byte) : (s.sendNew t p).period = s.period := by
  unfold State.sendNew; (try dsimp only); (repeat' split) <;> simp
@[simp] theorem State.sendNew_history (t : Byte) (p : List Byte) : (s.sendNew t p).history = s.history := by
  unfold State.sendNew; (try dsimp only); (repeat' split) <;> simp
@[simp] theorem State.sendNew_call (t : Byte) (p : List Byte) : (s.sendNew t p).call = s.call := by
  unfold State.sendNew; (try dsimp only); (repeat' split) <;> simp
@[simp] theorem State.sendNew_events (t : Byte) (p : List Byte) : (s.sendNew t p).events = s.events := by
  unfold State.sendNew; (try dsimp only); (repeat' split) <;> simp
@[simp] theorem State.sendNew_nv (t : Byte) (p : List Byte) : (s.sendNew t p).nv = s.nv := by
  unfold State.sendNew; (try dsimp only); (repeat' split) <;> simp
@[simp] theorem State.sendNew_restores (t : Byte) (p : List Byte) : (s.sendNew t p).restores = s.restores := by
  unfold State.sendNew; (try dsimp only); (repeat' split) <;> simp

@[simp] theorem State.sendReject_now (r : RejectCode) : (s.sendReject r).now = s.now := by
  unfold State.sendReject; (try dsimp only); (repeat' split) <;> simp
@[simp] theorem State.sendReject_pending (r : RejectCode) : (s.sendReject r).pending = s.pending := by
  unfold State.sendReject; (try dsimp only); (repeat' split) <;> simp
@[simp] theorem State.sendReject_coin (r : RejectCode) : (s.sendReject r).coin = s.coin := by
  unfold State.sendReject; (try dsimp only); (repeat' split) <;> simp
@[simp] theorem State.sendReject_credit (r : RejectCode) : (s.sendReject r).credit = s.credit := by
  unfold State.sendReject; (try dsimp only); (repeat' split) <;> simp
@[simp] theorem State.sendReject_rating (r : RejectCode) : (s.sendReject r).rating = s.rating := by
  unfold State.sendReject; (try dsimp only); (repeat' split) <;> simp
@[simp] theorem State.sendReject_line (r : RejectCode) : (s.sendReject r).line = s.line := by
  unfold State.sendReject; (try dsimp only); (repeat' split) <;> simp
@[simp] theorem State.sendReject_arbiter (r : RejectCode) : (s.sendReject r).arbiter = s.arbiter := by
  unfold State.sendReject; (try dsimp only); (repeat' split) <;> simp
@[simp] theorem State.sendReject_tamper (r : RejectCode) : (s.sendReject r).tamper = s.tamper := by
  unfold State.sendReject; (try dsimp only); (repeat' split) <;> simp
@[simp] theorem State.sendReject_elapsed (r : RejectCode) : (s.sendReject r).elapsed = s.elapsed := by
  unfold State.sendReject; (try dsimp only); (repeat' split) <;> simp
@[simp] theorem State.sendReject_ledger (r : RejectCode) : (s.sendReject r).ledger = s.ledger := by
  unfold State.sendReject; (try dsimp only); (repeat' split) <;> simp
@[simp] theorem State.sendReject_power (r : RejectCode) : (s.sendReject r).power = s.power := by
  unfold State.sendReject; (try dsimp only); (repeat' split) <;> simp
@[simp] theorem State.sendReject_clock (r : RejectCode) : (s.sendReject r).clock = s.clock := by
  unfold State.sendReject; (try dsimp only); (repeat' split) <;> simp
@[simp] theorem State.sendReject_setPort (r : RejectCode) : (s.sendReject r).setPort = s.setPort := by
  unfold State.sendReject; (try dsimp only); (repeat' split) <;> simp
@[simp] theorem State.sendReject_service (r : RejectCode) : (s.sendReject r).service = s.service := by
  unfold State.sendReject; (try dsimp only); (repeat' split) <;> simp
@[simp] theorem State.sendReject_config (r : RejectCode) : (s.sendReject r).config = s.config := by
  unfold State.sendReject; (try dsimp only); (repeat' split) <;> simp
@[simp] theorem State.sendReject_image0 (r : RejectCode) : (s.sendReject r).image0 = s.image0 := by
  unfold State.sendReject; (try dsimp only); (repeat' split) <;> simp
@[simp] theorem State.sendReject_image1 (r : RejectCode) : (s.sendReject r).image1 = s.image1 := by
  unfold State.sendReject; (try dsimp only); (repeat' split) <;> simp
@[simp] theorem State.sendReject_lifetime (r : RejectCode) : (s.sendReject r).lifetime = s.lifetime := by
  unfold State.sendReject; (try dsimp only); (repeat' split) <;> simp
@[simp] theorem State.sendReject_period (r : RejectCode) : (s.sendReject r).period = s.period := by
  unfold State.sendReject; (try dsimp only); (repeat' split) <;> simp
@[simp] theorem State.sendReject_history (r : RejectCode) : (s.sendReject r).history = s.history := by
  unfold State.sendReject; (try dsimp only); (repeat' split) <;> simp
@[simp] theorem State.sendReject_call (r : RejectCode) : (s.sendReject r).call = s.call := by
  unfold State.sendReject; (try dsimp only); (repeat' split) <;> simp
@[simp] theorem State.sendReject_events (r : RejectCode) : (s.sendReject r).events = s.events := by
  unfold State.sendReject; (try dsimp only); (repeat' split) <;> simp
@[simp] theorem State.sendReject_nv (r : RejectCode) : (s.sendReject r).nv = s.nv := by
  unfold State.sendReject; (try dsimp only); (repeat' split) <;> simp
@[simp] theorem State.sendReject_restores (r : RejectCode) : (s.sendReject r).restores = s.restores := by
  unfold State.sendReject; (try dsimp only); (repeat' split) <;> simp

@[simp] theorem State.sendAwaited_now (t : Byte) (p : List Byte) : (s.sendAwaited t p).now = s.now := by
  unfold State.sendAwaited; (try dsimp only); (repeat' split) <;> simp
@[simp] theorem State.sendAwaited_pending (t : Byte) (p : List Byte) : (s.sendAwaited t p).pending = s.pending := by
  unfold State.sendAwaited; (try dsimp only); (repeat' split) <;> simp
@[simp] theorem State.sendAwaited_coin (t : Byte) (p : List Byte) : (s.sendAwaited t p).coin = s.coin := by
  unfold State.sendAwaited; (try dsimp only); (repeat' split) <;> simp
@[simp] theorem State.sendAwaited_credit (t : Byte) (p : List Byte) : (s.sendAwaited t p).credit = s.credit := by
  unfold State.sendAwaited; (try dsimp only); (repeat' split) <;> simp
@[simp] theorem State.sendAwaited_rating (t : Byte) (p : List Byte) : (s.sendAwaited t p).rating = s.rating := by
  unfold State.sendAwaited; (try dsimp only); (repeat' split) <;> simp
@[simp] theorem State.sendAwaited_line (t : Byte) (p : List Byte) : (s.sendAwaited t p).line = s.line := by
  unfold State.sendAwaited; (try dsimp only); (repeat' split) <;> simp
@[simp] theorem State.sendAwaited_arbiter (t : Byte) (p : List Byte) : (s.sendAwaited t p).arbiter = s.arbiter := by
  unfold State.sendAwaited; (try dsimp only); (repeat' split) <;> simp
@[simp] theorem State.sendAwaited_tamper (t : Byte) (p : List Byte) : (s.sendAwaited t p).tamper = s.tamper := by
  unfold State.sendAwaited; (try dsimp only); (repeat' split) <;> simp
@[simp] theorem State.sendAwaited_elapsed (t : Byte) (p : List Byte) : (s.sendAwaited t p).elapsed = s.elapsed := by
  unfold State.sendAwaited; (try dsimp only); (repeat' split) <;> simp
@[simp] theorem State.sendAwaited_ledger (t : Byte) (p : List Byte) : (s.sendAwaited t p).ledger = s.ledger := by
  unfold State.sendAwaited; (try dsimp only); (repeat' split) <;> simp
@[simp] theorem State.sendAwaited_power (t : Byte) (p : List Byte) : (s.sendAwaited t p).power = s.power := by
  unfold State.sendAwaited; (try dsimp only); (repeat' split) <;> simp
@[simp] theorem State.sendAwaited_clock (t : Byte) (p : List Byte) : (s.sendAwaited t p).clock = s.clock := by
  unfold State.sendAwaited; (try dsimp only); (repeat' split) <;> simp
@[simp] theorem State.sendAwaited_setPort (t : Byte) (p : List Byte) : (s.sendAwaited t p).setPort = s.setPort := by
  unfold State.sendAwaited; (try dsimp only); (repeat' split) <;> simp
@[simp] theorem State.sendAwaited_service (t : Byte) (p : List Byte) : (s.sendAwaited t p).service = s.service := by
  unfold State.sendAwaited; (try dsimp only); (repeat' split) <;> simp
@[simp] theorem State.sendAwaited_config (t : Byte) (p : List Byte) : (s.sendAwaited t p).config = s.config := by
  unfold State.sendAwaited; (try dsimp only); (repeat' split) <;> simp
@[simp] theorem State.sendAwaited_image0 (t : Byte) (p : List Byte) : (s.sendAwaited t p).image0 = s.image0 := by
  unfold State.sendAwaited; (try dsimp only); (repeat' split) <;> simp
@[simp] theorem State.sendAwaited_image1 (t : Byte) (p : List Byte) : (s.sendAwaited t p).image1 = s.image1 := by
  unfold State.sendAwaited; (try dsimp only); (repeat' split) <;> simp
@[simp] theorem State.sendAwaited_lifetime (t : Byte) (p : List Byte) : (s.sendAwaited t p).lifetime = s.lifetime := by
  unfold State.sendAwaited; (try dsimp only); (repeat' split) <;> simp
@[simp] theorem State.sendAwaited_period (t : Byte) (p : List Byte) : (s.sendAwaited t p).period = s.period := by
  unfold State.sendAwaited; (try dsimp only); (repeat' split) <;> simp
@[simp] theorem State.sendAwaited_history (t : Byte) (p : List Byte) : (s.sendAwaited t p).history = s.history := by
  unfold State.sendAwaited; (try dsimp only); (repeat' split) <;> simp
@[simp] theorem State.sendAwaited_call (t : Byte) (p : List Byte) : (s.sendAwaited t p).call = s.call := by
  unfold State.sendAwaited; (try dsimp only); (repeat' split) <;> simp
@[simp] theorem State.sendAwaited_events (t : Byte) (p : List Byte) : (s.sendAwaited t p).events = s.events := by
  unfold State.sendAwaited; (try dsimp only); (repeat' split) <;> simp
@[simp] theorem State.sendAwaited_nv (t : Byte) (p : List Byte) : (s.sendAwaited t p).nv = s.nv := by
  unfold State.sendAwaited; (try dsimp only); (repeat' split) <;> simp
@[simp] theorem State.sendAwaited_restores (t : Byte) (p : List Byte) : (s.sendAwaited t p).restores = s.restores := by
  unfold State.sendAwaited; (try dsimp only); (repeat' split) <;> simp

@[simp] theorem State.sendReply_now (t : Byte) (p : List Byte) : (s.sendReply t p).now = s.now := by
  unfold State.sendReply; (try dsimp only); (repeat' split) <;> simp
@[simp] theorem State.sendReply_pending (t : Byte) (p : List Byte) : (s.sendReply t p).pending = s.pending := by
  unfold State.sendReply; (try dsimp only); (repeat' split) <;> simp
@[simp] theorem State.sendReply_coin (t : Byte) (p : List Byte) : (s.sendReply t p).coin = s.coin := by
  unfold State.sendReply; (try dsimp only); (repeat' split) <;> simp
@[simp] theorem State.sendReply_credit (t : Byte) (p : List Byte) : (s.sendReply t p).credit = s.credit := by
  unfold State.sendReply; (try dsimp only); (repeat' split) <;> simp
@[simp] theorem State.sendReply_rating (t : Byte) (p : List Byte) : (s.sendReply t p).rating = s.rating := by
  unfold State.sendReply; (try dsimp only); (repeat' split) <;> simp
@[simp] theorem State.sendReply_line (t : Byte) (p : List Byte) : (s.sendReply t p).line = s.line := by
  unfold State.sendReply; (try dsimp only); (repeat' split) <;> simp
@[simp] theorem State.sendReply_arbiter (t : Byte) (p : List Byte) : (s.sendReply t p).arbiter = s.arbiter := by
  unfold State.sendReply; (try dsimp only); (repeat' split) <;> simp
@[simp] theorem State.sendReply_tamper (t : Byte) (p : List Byte) : (s.sendReply t p).tamper = s.tamper := by
  unfold State.sendReply; (try dsimp only); (repeat' split) <;> simp
@[simp] theorem State.sendReply_elapsed (t : Byte) (p : List Byte) : (s.sendReply t p).elapsed = s.elapsed := by
  unfold State.sendReply; (try dsimp only); (repeat' split) <;> simp
@[simp] theorem State.sendReply_ledger (t : Byte) (p : List Byte) : (s.sendReply t p).ledger = s.ledger := by
  unfold State.sendReply; (try dsimp only); (repeat' split) <;> simp
@[simp] theorem State.sendReply_power (t : Byte) (p : List Byte) : (s.sendReply t p).power = s.power := by
  unfold State.sendReply; (try dsimp only); (repeat' split) <;> simp
@[simp] theorem State.sendReply_clock (t : Byte) (p : List Byte) : (s.sendReply t p).clock = s.clock := by
  unfold State.sendReply; (try dsimp only); (repeat' split) <;> simp
@[simp] theorem State.sendReply_setPort (t : Byte) (p : List Byte) : (s.sendReply t p).setPort = s.setPort := by
  unfold State.sendReply; (try dsimp only); (repeat' split) <;> simp
@[simp] theorem State.sendReply_service (t : Byte) (p : List Byte) : (s.sendReply t p).service = s.service := by
  unfold State.sendReply; (try dsimp only); (repeat' split) <;> simp
@[simp] theorem State.sendReply_config (t : Byte) (p : List Byte) : (s.sendReply t p).config = s.config := by
  unfold State.sendReply; (try dsimp only); (repeat' split) <;> simp
@[simp] theorem State.sendReply_image0 (t : Byte) (p : List Byte) : (s.sendReply t p).image0 = s.image0 := by
  unfold State.sendReply; (try dsimp only); (repeat' split) <;> simp
@[simp] theorem State.sendReply_image1 (t : Byte) (p : List Byte) : (s.sendReply t p).image1 = s.image1 := by
  unfold State.sendReply; (try dsimp only); (repeat' split) <;> simp
@[simp] theorem State.sendReply_lifetime (t : Byte) (p : List Byte) : (s.sendReply t p).lifetime = s.lifetime := by
  unfold State.sendReply; (try dsimp only); (repeat' split) <;> simp
@[simp] theorem State.sendReply_period (t : Byte) (p : List Byte) : (s.sendReply t p).period = s.period := by
  unfold State.sendReply; (try dsimp only); (repeat' split) <;> simp
@[simp] theorem State.sendReply_history (t : Byte) (p : List Byte) : (s.sendReply t p).history = s.history := by
  unfold State.sendReply; (try dsimp only); (repeat' split) <;> simp
@[simp] theorem State.sendReply_call (t : Byte) (p : List Byte) : (s.sendReply t p).call = s.call := by
  unfold State.sendReply; (try dsimp only); (repeat' split) <;> simp
@[simp] theorem State.sendReply_events (t : Byte) (p : List Byte) : (s.sendReply t p).events = s.events := by
  unfold State.sendReply; (try dsimp only); (repeat' split) <;> simp
@[simp] theorem State.sendReply_nv (t : Byte) (p : List Byte) : (s.sendReply t p).nv = s.nv := by
  unfold State.sendReply; (try dsimp only); (repeat' split) <;> simp
@[simp] theorem State.sendReply_restores (t : Byte) (p : List Byte) : (s.sendReply t p).restores = s.restores := by
  unfold State.sendReply; (try dsimp only); (repeat' split) <;> simp

@[simp] theorem State.resendReply_now : (s.resendReply).now = s.now := by
  unfold State.resendReply; (try dsimp only); (repeat' split) <;> simp
@[simp] theorem State.resendReply_pending : (s.resendReply).pending = s.pending := by
  unfold State.resendReply; (try dsimp only); (repeat' split) <;> simp
@[simp] theorem State.resendReply_coin : (s.resendReply).coin = s.coin := by
  unfold State.resendReply; (try dsimp only); (repeat' split) <;> simp
@[simp] theorem State.resendReply_credit : (s.resendReply).credit = s.credit := by
  unfold State.resendReply; (try dsimp only); (repeat' split) <;> simp
@[simp] theorem State.resendReply_rating : (s.resendReply).rating = s.rating := by
  unfold State.resendReply; (try dsimp only); (repeat' split) <;> simp
@[simp] theorem State.resendReply_line : (s.resendReply).line = s.line := by
  unfold State.resendReply; (try dsimp only); (repeat' split) <;> simp
@[simp] theorem State.resendReply_arbiter : (s.resendReply).arbiter = s.arbiter := by
  unfold State.resendReply; (try dsimp only); (repeat' split) <;> simp
@[simp] theorem State.resendReply_tamper : (s.resendReply).tamper = s.tamper := by
  unfold State.resendReply; (try dsimp only); (repeat' split) <;> simp
@[simp] theorem State.resendReply_elapsed : (s.resendReply).elapsed = s.elapsed := by
  unfold State.resendReply; (try dsimp only); (repeat' split) <;> simp
@[simp] theorem State.resendReply_centre : (s.resendReply).centre = s.centre := by
  unfold State.resendReply; (try dsimp only); (repeat' split) <;> simp
@[simp] theorem State.resendReply_ledger : (s.resendReply).ledger = s.ledger := by
  unfold State.resendReply; (try dsimp only); (repeat' split) <;> simp
@[simp] theorem State.resendReply_power : (s.resendReply).power = s.power := by
  unfold State.resendReply; (try dsimp only); (repeat' split) <;> simp
@[simp] theorem State.resendReply_clock : (s.resendReply).clock = s.clock := by
  unfold State.resendReply; (try dsimp only); (repeat' split) <;> simp
@[simp] theorem State.resendReply_setPort : (s.resendReply).setPort = s.setPort := by
  unfold State.resendReply; (try dsimp only); (repeat' split) <;> simp
@[simp] theorem State.resendReply_service : (s.resendReply).service = s.service := by
  unfold State.resendReply; (try dsimp only); (repeat' split) <;> simp
@[simp] theorem State.resendReply_config : (s.resendReply).config = s.config := by
  unfold State.resendReply; (try dsimp only); (repeat' split) <;> simp
@[simp] theorem State.resendReply_image0 : (s.resendReply).image0 = s.image0 := by
  unfold State.resendReply; (try dsimp only); (repeat' split) <;> simp
@[simp] theorem State.resendReply_image1 : (s.resendReply).image1 = s.image1 := by
  unfold State.resendReply; (try dsimp only); (repeat' split) <;> simp
@[simp] theorem State.resendReply_lifetime : (s.resendReply).lifetime = s.lifetime := by
  unfold State.resendReply; (try dsimp only); (repeat' split) <;> simp
@[simp] theorem State.resendReply_period : (s.resendReply).period = s.period := by
  unfold State.resendReply; (try dsimp only); (repeat' split) <;> simp
@[simp] theorem State.resendReply_history : (s.resendReply).history = s.history := by
  unfold State.resendReply; (try dsimp only); (repeat' split) <;> simp
@[simp] theorem State.resendReply_call : (s.resendReply).call = s.call := by
  unfold State.resendReply; (try dsimp only); (repeat' split) <;> simp
@[simp] theorem State.resendReply_events : (s.resendReply).events = s.events := by
  unfold State.resendReply; (try dsimp only); (repeat' split) <;> simp
@[simp] theorem State.resendReply_nv : (s.resendReply).nv = s.nv := by
  unfold State.resendReply; (try dsimp only); (repeat' split) <;> simp
@[simp] theorem State.resendReply_restores : (s.resendReply).restores = s.restores := by
  unfold State.resendReply; (try dsimp only); (repeat' split) <;> simp

@[simp] theorem State.received_now (v : Bool) : (s.received v).now = s.now := by
  unfold State.received; (try dsimp only); (repeat' split) <;> simp
@[simp] theorem State.received_pending (v : Bool) : (s.received v).pending = s.pending := by
  unfold State.received; (try dsimp only); (repeat' split) <;> simp
@[simp] theorem State.received_coin (v : Bool) : (s.received v).coin = s.coin := by
  unfold State.received; (try dsimp only); (repeat' split) <;> simp
@[simp] theorem State.received_credit (v : Bool) : (s.received v).credit = s.credit := by
  unfold State.received; (try dsimp only); (repeat' split) <;> simp
@[simp] theorem State.received_rating (v : Bool) : (s.received v).rating = s.rating := by
  unfold State.received; (try dsimp only); (repeat' split) <;> simp
@[simp] theorem State.received_line (v : Bool) : (s.received v).line = s.line := by
  unfold State.received; (try dsimp only); (repeat' split) <;> simp
@[simp] theorem State.received_arbiter (v : Bool) : (s.received v).arbiter = s.arbiter := by
  unfold State.received; (try dsimp only); (repeat' split) <;> simp
@[simp] theorem State.received_tamper (v : Bool) : (s.received v).tamper = s.tamper := by
  unfold State.received; (try dsimp only); (repeat' split) <;> simp
@[simp] theorem State.received_elapsed (v : Bool) : (s.received v).elapsed = s.elapsed := by
  unfold State.received; (try dsimp only); (repeat' split) <;> simp
@[simp] theorem State.received_ledger (v : Bool) : (s.received v).ledger = s.ledger := by
  unfold State.received; (try dsimp only); (repeat' split) <;> simp
@[simp] theorem State.received_power (v : Bool) : (s.received v).power = s.power := by
  unfold State.received; (try dsimp only); (repeat' split) <;> simp
@[simp] theorem State.received_clock (v : Bool) : (s.received v).clock = s.clock := by
  unfold State.received; (try dsimp only); (repeat' split) <;> simp
@[simp] theorem State.received_setPort (v : Bool) : (s.received v).setPort = s.setPort := by
  unfold State.received; (try dsimp only); (repeat' split) <;> simp
@[simp] theorem State.received_service (v : Bool) : (s.received v).service = s.service := by
  unfold State.received; (try dsimp only); (repeat' split) <;> simp
@[simp] theorem State.received_config (v : Bool) : (s.received v).config = s.config := by
  unfold State.received; (try dsimp only); (repeat' split) <;> simp
@[simp] theorem State.received_image0 (v : Bool) : (s.received v).image0 = s.image0 := by
  unfold State.received; (try dsimp only); (repeat' split) <;> simp
@[simp] theorem State.received_image1 (v : Bool) : (s.received v).image1 = s.image1 := by
  unfold State.received; (try dsimp only); (repeat' split) <;> simp
@[simp] theorem State.received_lifetime (v : Bool) : (s.received v).lifetime = s.lifetime := by
  unfold State.received; (try dsimp only); (repeat' split) <;> simp
@[simp] theorem State.received_period (v : Bool) : (s.received v).period = s.period := by
  unfold State.received; (try dsimp only); (repeat' split) <;> simp
@[simp] theorem State.received_history (v : Bool) : (s.received v).history = s.history := by
  unfold State.received; (try dsimp only); (repeat' split) <;> simp
@[simp] theorem State.received_call (v : Bool) : (s.received v).call = s.call := by
  unfold State.received; (try dsimp only); (repeat' split) <;> simp
@[simp] theorem State.received_events (v : Bool) : (s.received v).events = s.events := by
  unfold State.received; (try dsimp only); (repeat' split) <;> simp
@[simp] theorem State.received_nv (v : Bool) : (s.received v).nv = s.nv := by
  unfold State.received; (try dsimp only); (repeat' split) <;> simp
@[simp] theorem State.received_restores (v : Bool) : (s.received v).restores = s.restores := by
  unfold State.received; (try dsimp only); (repeat' split) <;> simp

@[simp] theorem State.answerDiscarded_now : (s.answerDiscarded).now = s.now := by
  unfold State.answerDiscarded; (try dsimp only); (repeat' split) <;> simp
@[simp] theorem State.answerDiscarded_pending : (s.answerDiscarded).pending = s.pending := by
  unfold State.answerDiscarded; (try dsimp only); (repeat' split) <;> simp
@[simp] theorem State.answerDiscarded_coin : (s.answerDiscarded).coin = s.coin := by
  unfold State.answerDiscarded; (try dsimp only); (repeat' split) <;> simp
@[simp] theorem State.answerDiscarded_credit : (s.answerDiscarded).credit = s.credit := by
  unfold State.answerDiscarded; (try dsimp only); (repeat' split) <;> simp
@[simp] theorem State.answerDiscarded_rating : (s.answerDiscarded).rating = s.rating := by
  unfold State.answerDiscarded; (try dsimp only); (repeat' split) <;> simp
@[simp] theorem State.answerDiscarded_line : (s.answerDiscarded).line = s.line := by
  unfold State.answerDiscarded; (try dsimp only); (repeat' split) <;> simp
@[simp] theorem State.answerDiscarded_arbiter : (s.answerDiscarded).arbiter = s.arbiter := by
  unfold State.answerDiscarded; (try dsimp only); (repeat' split) <;> simp
@[simp] theorem State.answerDiscarded_tamper : (s.answerDiscarded).tamper = s.tamper := by
  unfold State.answerDiscarded; (try dsimp only); (repeat' split) <;> simp
@[simp] theorem State.answerDiscarded_elapsed : (s.answerDiscarded).elapsed = s.elapsed := by
  unfold State.answerDiscarded; (try dsimp only); (repeat' split) <;> simp
@[simp] theorem State.answerDiscarded_ledger : (s.answerDiscarded).ledger = s.ledger := by
  unfold State.answerDiscarded; (try dsimp only); (repeat' split) <;> simp
@[simp] theorem State.answerDiscarded_power : (s.answerDiscarded).power = s.power := by
  unfold State.answerDiscarded; (try dsimp only); (repeat' split) <;> simp
@[simp] theorem State.answerDiscarded_clock : (s.answerDiscarded).clock = s.clock := by
  unfold State.answerDiscarded; (try dsimp only); (repeat' split) <;> simp
@[simp] theorem State.answerDiscarded_setPort : (s.answerDiscarded).setPort = s.setPort := by
  unfold State.answerDiscarded; (try dsimp only); (repeat' split) <;> simp
@[simp] theorem State.answerDiscarded_service : (s.answerDiscarded).service = s.service := by
  unfold State.answerDiscarded; (try dsimp only); (repeat' split) <;> simp
@[simp] theorem State.answerDiscarded_config : (s.answerDiscarded).config = s.config := by
  unfold State.answerDiscarded; (try dsimp only); (repeat' split) <;> simp
@[simp] theorem State.answerDiscarded_image0 : (s.answerDiscarded).image0 = s.image0 := by
  unfold State.answerDiscarded; (try dsimp only); (repeat' split) <;> simp
@[simp] theorem State.answerDiscarded_image1 : (s.answerDiscarded).image1 = s.image1 := by
  unfold State.answerDiscarded; (try dsimp only); (repeat' split) <;> simp
@[simp] theorem State.answerDiscarded_lifetime : (s.answerDiscarded).lifetime = s.lifetime := by
  unfold State.answerDiscarded; (try dsimp only); (repeat' split) <;> simp
@[simp] theorem State.answerDiscarded_period : (s.answerDiscarded).period = s.period := by
  unfold State.answerDiscarded; (try dsimp only); (repeat' split) <;> simp
@[simp] theorem State.answerDiscarded_history : (s.answerDiscarded).history = s.history := by
  unfold State.answerDiscarded; (try dsimp only); (repeat' split) <;> simp
@[simp] theorem State.answerDiscarded_call : (s.answerDiscarded).call = s.call := by
  unfold State.answerDiscarded; (try dsimp only); (repeat' split) <;> simp
@[simp] theorem State.answerDiscarded_events : (s.answerDiscarded).events = s.events := by
  unfold State.answerDiscarded; (try dsimp only); (repeat' split) <;> simp
@[simp] theorem State.answerDiscarded_nv : (s.answerDiscarded).nv = s.nv := by
  unfold State.answerDiscarded; (try dsimp only); (repeat' split) <;> simp
@[simp] theorem State.answerDiscarded_restores : (s.answerDiscarded).restores = s.restores := by
  unfold State.answerDiscarded; (try dsimp only); (repeat' split) <;> simp

@[simp] theorem State.answerUnexpected_now : (s.answerUnexpected).now = s.now := by
  unfold State.answerUnexpected; (try dsimp only); (repeat' split) <;> simp
@[simp] theorem State.answerUnexpected_pending : (s.answerUnexpected).pending = s.pending := by
  unfold State.answerUnexpected; (try dsimp only); (repeat' split) <;> simp
@[simp] theorem State.answerUnexpected_coin : (s.answerUnexpected).coin = s.coin := by
  unfold State.answerUnexpected; (try dsimp only); (repeat' split) <;> simp
@[simp] theorem State.answerUnexpected_credit : (s.answerUnexpected).credit = s.credit := by
  unfold State.answerUnexpected; (try dsimp only); (repeat' split) <;> simp
@[simp] theorem State.answerUnexpected_rating : (s.answerUnexpected).rating = s.rating := by
  unfold State.answerUnexpected; (try dsimp only); (repeat' split) <;> simp
@[simp] theorem State.answerUnexpected_line : (s.answerUnexpected).line = s.line := by
  unfold State.answerUnexpected; (try dsimp only); (repeat' split) <;> simp
@[simp] theorem State.answerUnexpected_arbiter : (s.answerUnexpected).arbiter = s.arbiter := by
  unfold State.answerUnexpected; (try dsimp only); (repeat' split) <;> simp
@[simp] theorem State.answerUnexpected_tamper : (s.answerUnexpected).tamper = s.tamper := by
  unfold State.answerUnexpected; (try dsimp only); (repeat' split) <;> simp
@[simp] theorem State.answerUnexpected_elapsed : (s.answerUnexpected).elapsed = s.elapsed := by
  unfold State.answerUnexpected; (try dsimp only); (repeat' split) <;> simp
@[simp] theorem State.answerUnexpected_ledger : (s.answerUnexpected).ledger = s.ledger := by
  unfold State.answerUnexpected; (try dsimp only); (repeat' split) <;> simp
@[simp] theorem State.answerUnexpected_power : (s.answerUnexpected).power = s.power := by
  unfold State.answerUnexpected; (try dsimp only); (repeat' split) <;> simp
@[simp] theorem State.answerUnexpected_clock : (s.answerUnexpected).clock = s.clock := by
  unfold State.answerUnexpected; (try dsimp only); (repeat' split) <;> simp
@[simp] theorem State.answerUnexpected_setPort : (s.answerUnexpected).setPort = s.setPort := by
  unfold State.answerUnexpected; (try dsimp only); (repeat' split) <;> simp
@[simp] theorem State.answerUnexpected_service : (s.answerUnexpected).service = s.service := by
  unfold State.answerUnexpected; (try dsimp only); (repeat' split) <;> simp
@[simp] theorem State.answerUnexpected_config : (s.answerUnexpected).config = s.config := by
  unfold State.answerUnexpected; (try dsimp only); (repeat' split) <;> simp
@[simp] theorem State.answerUnexpected_image0 : (s.answerUnexpected).image0 = s.image0 := by
  unfold State.answerUnexpected; (try dsimp only); (repeat' split) <;> simp
@[simp] theorem State.answerUnexpected_image1 : (s.answerUnexpected).image1 = s.image1 := by
  unfold State.answerUnexpected; (try dsimp only); (repeat' split) <;> simp
@[simp] theorem State.answerUnexpected_lifetime : (s.answerUnexpected).lifetime = s.lifetime := by
  unfold State.answerUnexpected; (try dsimp only); (repeat' split) <;> simp
@[simp] theorem State.answerUnexpected_period : (s.answerUnexpected).period = s.period := by
  unfold State.answerUnexpected; (try dsimp only); (repeat' split) <;> simp
@[simp] theorem State.answerUnexpected_history : (s.answerUnexpected).history = s.history := by
  unfold State.answerUnexpected; (try dsimp only); (repeat' split) <;> simp
@[simp] theorem State.answerUnexpected_call : (s.answerUnexpected).call = s.call := by
  unfold State.answerUnexpected; (try dsimp only); (repeat' split) <;> simp
@[simp] theorem State.answerUnexpected_events : (s.answerUnexpected).events = s.events := by
  unfold State.answerUnexpected; (try dsimp only); (repeat' split) <;> simp
@[simp] theorem State.answerUnexpected_nv : (s.answerUnexpected).nv = s.nv := by
  unfold State.answerUnexpected; (try dsimp only); (repeat' split) <;> simp
@[simp] theorem State.answerUnexpected_restores : (s.answerUnexpected).restores = s.restores := by
  unfold State.answerUnexpected; (try dsimp only); (repeat' split) <;> simp

@[simp] theorem State.returnRecord_now : (s.returnRecord).now = s.now := by
  unfold State.returnRecord; (try dsimp only); (repeat' split) <;> simp
@[simp] theorem State.returnRecord_pending : (s.returnRecord).pending = s.pending := by
  unfold State.returnRecord; (try dsimp only); (repeat' split) <;> simp
@[simp] theorem State.returnRecord_coin : (s.returnRecord).coin = s.coin := by
  unfold State.returnRecord; (try dsimp only); (repeat' split) <;> simp
@[simp] theorem State.returnRecord_credit : (s.returnRecord).credit = s.credit := by
  unfold State.returnRecord; (try dsimp only); (repeat' split) <;> simp
@[simp] theorem State.returnRecord_rating : (s.returnRecord).rating = s.rating := by
  unfold State.returnRecord; (try dsimp only); (repeat' split) <;> simp
@[simp] theorem State.returnRecord_line : (s.returnRecord).line = s.line := by
  unfold State.returnRecord; (try dsimp only); (repeat' split) <;> simp
@[simp] theorem State.returnRecord_arbiter : (s.returnRecord).arbiter = s.arbiter := by
  unfold State.returnRecord; (try dsimp only); (repeat' split) <;> simp
@[simp] theorem State.returnRecord_tamper : (s.returnRecord).tamper = s.tamper := by
  unfold State.returnRecord; (try dsimp only); (repeat' split) <;> simp
@[simp] theorem State.returnRecord_elapsed : (s.returnRecord).elapsed = s.elapsed := by
  unfold State.returnRecord; (try dsimp only); (repeat' split) <;> simp
@[simp] theorem State.returnRecord_modem : (s.returnRecord).modem = s.modem := by
  unfold State.returnRecord; (try dsimp only); (repeat' split) <;> simp
@[simp] theorem State.returnRecord_power : (s.returnRecord).power = s.power := by
  unfold State.returnRecord; (try dsimp only); (repeat' split) <;> simp
@[simp] theorem State.returnRecord_clock : (s.returnRecord).clock = s.clock := by
  unfold State.returnRecord; (try dsimp only); (repeat' split) <;> simp
@[simp] theorem State.returnRecord_setPort : (s.returnRecord).setPort = s.setPort := by
  unfold State.returnRecord; (try dsimp only); (repeat' split) <;> simp
@[simp] theorem State.returnRecord_service : (s.returnRecord).service = s.service := by
  unfold State.returnRecord; (try dsimp only); (repeat' split) <;> simp
@[simp] theorem State.returnRecord_config : (s.returnRecord).config = s.config := by
  unfold State.returnRecord; (try dsimp only); (repeat' split) <;> simp
@[simp] theorem State.returnRecord_image0 : (s.returnRecord).image0 = s.image0 := by
  unfold State.returnRecord; (try dsimp only); (repeat' split) <;> simp
@[simp] theorem State.returnRecord_image1 : (s.returnRecord).image1 = s.image1 := by
  unfold State.returnRecord; (try dsimp only); (repeat' split) <;> simp
@[simp] theorem State.returnRecord_lifetime : (s.returnRecord).lifetime = s.lifetime := by
  unfold State.returnRecord; (try dsimp only); (repeat' split) <;> simp
@[simp] theorem State.returnRecord_period : (s.returnRecord).period = s.period := by
  unfold State.returnRecord; (try dsimp only); (repeat' split) <;> simp
@[simp] theorem State.returnRecord_history : (s.returnRecord).history = s.history := by
  unfold State.returnRecord; (try dsimp only); (repeat' split) <;> simp
@[simp] theorem State.returnRecord_call : (s.returnRecord).call = s.call := by
  unfold State.returnRecord; (try dsimp only); (repeat' split) <;> simp
@[simp] theorem State.returnRecord_nv : (s.returnRecord).nv = s.nv := by
  unfold State.returnRecord; (try dsimp only); (repeat' split) <;> simp
@[simp] theorem State.returnRecord_restores : (s.returnRecord).restores = s.restores := by
  unfold State.returnRecord; (try dsimp only); (repeat' split) <;> simp

@[simp] theorem State.failSession_now : (s.failSession).now = s.now := by
  unfold State.failSession; (try dsimp only); (repeat' split) <;> simp
@[simp] theorem State.failSession_pending : (s.failSession).pending = s.pending := by
  unfold State.failSession; (try dsimp only); (repeat' split) <;> simp
@[simp] theorem State.failSession_coin : (s.failSession).coin = s.coin := by
  unfold State.failSession; (try dsimp only); (repeat' split) <;> simp
@[simp] theorem State.failSession_credit : (s.failSession).credit = s.credit := by
  unfold State.failSession; (try dsimp only); (repeat' split) <;> simp
@[simp] theorem State.failSession_tamper : (s.failSession).tamper = s.tamper := by
  unfold State.failSession; (try dsimp only); (repeat' split) <;> simp
@[simp] theorem State.failSession_elapsed : (s.failSession).elapsed = s.elapsed := by
  unfold State.failSession; (try dsimp only); (repeat' split) <;> simp
@[simp] theorem State.failSession_power : (s.failSession).power = s.power := by
  unfold State.failSession; (try dsimp only); (repeat' split) <;> simp
@[simp] theorem State.failSession_clock : (s.failSession).clock = s.clock := by
  unfold State.failSession; (try dsimp only); (repeat' split) <;> simp
@[simp] theorem State.failSession_service : (s.failSession).service = s.service := by
  unfold State.failSession; (try dsimp only); (repeat' split) <;> simp
@[simp] theorem State.failSession_config : (s.failSession).config = s.config := by
  unfold State.failSession; (try dsimp only); (repeat' split) <;> simp
@[simp] theorem State.failSession_image0 : (s.failSession).image0 = s.image0 := by
  unfold State.failSession; (try dsimp only); (repeat' split) <;> simp
@[simp] theorem State.failSession_image1 : (s.failSession).image1 = s.image1 := by
  unfold State.failSession; (try dsimp only); (repeat' split) <;> simp
@[simp] theorem State.failSession_lifetime : (s.failSession).lifetime = s.lifetime := by
  unfold State.failSession; (try dsimp only); (repeat' split) <;> simp
@[simp] theorem State.failSession_period : (s.failSession).period = s.period := by
  unfold State.failSession; (try dsimp only); (repeat' split) <;> simp
@[simp] theorem State.failSession_history : (s.failSession).history = s.history := by
  unfold State.failSession; (try dsimp only); (repeat' split) <;> simp
@[simp] theorem State.failSession_call : (s.failSession).call = s.call := by
  unfold State.failSession; (try dsimp only); (repeat' split) <;> simp
@[simp] theorem State.failSession_nv : (s.failSession).nv = s.nv := by
  unfold State.failSession; (try dsimp only); (repeat' split) <;> simp
@[simp] theorem State.failSession_restores : (s.failSession).restores = s.restores := by
  unfold State.failSession; (try dsimp only); (repeat' split) <;> simp

@[simp] theorem State.enterIdent_now : (s.enterIdent).now = s.now := by
  unfold State.enterIdent; (try dsimp only); (repeat' split) <;> simp
@[simp] theorem State.enterIdent_pending : (s.enterIdent).pending = s.pending := by
  unfold State.enterIdent; (try dsimp only); (repeat' split) <;> simp
@[simp] theorem State.enterIdent_coin : (s.enterIdent).coin = s.coin := by
  unfold State.enterIdent; (try dsimp only); (repeat' split) <;> simp
@[simp] theorem State.enterIdent_credit : (s.enterIdent).credit = s.credit := by
  unfold State.enterIdent; (try dsimp only); (repeat' split) <;> simp
@[simp] theorem State.enterIdent_rating : (s.enterIdent).rating = s.rating := by
  unfold State.enterIdent; (try dsimp only); (repeat' split) <;> simp
@[simp] theorem State.enterIdent_line : (s.enterIdent).line = s.line := by
  unfold State.enterIdent; (try dsimp only); (repeat' split) <;> simp
@[simp] theorem State.enterIdent_arbiter : (s.enterIdent).arbiter = s.arbiter := by
  unfold State.enterIdent; (try dsimp only); (repeat' split) <;> simp
@[simp] theorem State.enterIdent_tamper : (s.enterIdent).tamper = s.tamper := by
  unfold State.enterIdent; (try dsimp only); (repeat' split) <;> simp
@[simp] theorem State.enterIdent_elapsed : (s.enterIdent).elapsed = s.elapsed := by
  unfold State.enterIdent; (try dsimp only); (repeat' split) <;> simp
@[simp] theorem State.enterIdent_ledger : (s.enterIdent).ledger = s.ledger := by
  unfold State.enterIdent; (try dsimp only); (repeat' split) <;> simp
@[simp] theorem State.enterIdent_power : (s.enterIdent).power = s.power := by
  unfold State.enterIdent; (try dsimp only); (repeat' split) <;> simp
@[simp] theorem State.enterIdent_clock : (s.enterIdent).clock = s.clock := by
  unfold State.enterIdent; (try dsimp only); (repeat' split) <;> simp
@[simp] theorem State.enterIdent_setPort : (s.enterIdent).setPort = s.setPort := by
  unfold State.enterIdent; (try dsimp only); (repeat' split) <;> simp
@[simp] theorem State.enterIdent_service : (s.enterIdent).service = s.service := by
  unfold State.enterIdent; (try dsimp only); (repeat' split) <;> simp
@[simp] theorem State.enterIdent_config : (s.enterIdent).config = s.config := by
  unfold State.enterIdent; (try dsimp only); (repeat' split) <;> simp
@[simp] theorem State.enterIdent_image0 : (s.enterIdent).image0 = s.image0 := by
  unfold State.enterIdent; (try dsimp only); (repeat' split) <;> simp
@[simp] theorem State.enterIdent_image1 : (s.enterIdent).image1 = s.image1 := by
  unfold State.enterIdent; (try dsimp only); (repeat' split) <;> simp
@[simp] theorem State.enterIdent_lifetime : (s.enterIdent).lifetime = s.lifetime := by
  unfold State.enterIdent; (try dsimp only); (repeat' split) <;> simp
@[simp] theorem State.enterIdent_period : (s.enterIdent).period = s.period := by
  unfold State.enterIdent; (try dsimp only); (repeat' split) <;> simp
@[simp] theorem State.enterIdent_history : (s.enterIdent).history = s.history := by
  unfold State.enterIdent; (try dsimp only); (repeat' split) <;> simp
@[simp] theorem State.enterIdent_call : (s.enterIdent).call = s.call := by
  unfold State.enterIdent; (try dsimp only); (repeat' split) <;> simp
@[simp] theorem State.enterIdent_events : (s.enterIdent).events = s.events := by
  unfold State.enterIdent; (try dsimp only); (repeat' split) <;> simp
@[simp] theorem State.enterIdent_nv : (s.enterIdent).nv = s.nv := by
  unfold State.enterIdent; (try dsimp only); (repeat' split) <;> simp
@[simp] theorem State.enterIdent_restores : (s.enterIdent).restores = s.restores := by
  unfold State.enterIdent; (try dsimp only); (repeat' split) <;> simp

@[simp] theorem State.resendAwaited_now : (s.resendAwaited).now = s.now := by
  unfold State.resendAwaited; (try dsimp only); (repeat' split) <;> simp
@[simp] theorem State.resendAwaited_pending : (s.resendAwaited).pending = s.pending := by
  unfold State.resendAwaited; (try dsimp only); (repeat' split) <;> simp
@[simp] theorem State.resendAwaited_coin : (s.resendAwaited).coin = s.coin := by
  unfold State.resendAwaited; (try dsimp only); (repeat' split) <;> simp
@[simp] theorem State.resendAwaited_credit : (s.resendAwaited).credit = s.credit := by
  unfold State.resendAwaited; (try dsimp only); (repeat' split) <;> simp
@[simp] theorem State.resendAwaited_tamper : (s.resendAwaited).tamper = s.tamper := by
  unfold State.resendAwaited; (try dsimp only); (repeat' split) <;> simp
@[simp] theorem State.resendAwaited_elapsed : (s.resendAwaited).elapsed = s.elapsed := by
  unfold State.resendAwaited; (try dsimp only); (repeat' split) <;> simp
@[simp] theorem State.resendAwaited_power : (s.resendAwaited).power = s.power := by
  unfold State.resendAwaited; (try dsimp only); (repeat' split) <;> simp
@[simp] theorem State.resendAwaited_clock : (s.resendAwaited).clock = s.clock := by
  unfold State.resendAwaited; (try dsimp only); (repeat' split) <;> simp
@[simp] theorem State.resendAwaited_service : (s.resendAwaited).service = s.service := by
  unfold State.resendAwaited; (try dsimp only); (repeat' split) <;> simp
@[simp] theorem State.resendAwaited_config : (s.resendAwaited).config = s.config := by
  unfold State.resendAwaited; (try dsimp only); (repeat' split) <;> simp
@[simp] theorem State.resendAwaited_image0 : (s.resendAwaited).image0 = s.image0 := by
  unfold State.resendAwaited; (try dsimp only); (repeat' split) <;> simp
@[simp] theorem State.resendAwaited_image1 : (s.resendAwaited).image1 = s.image1 := by
  unfold State.resendAwaited; (try dsimp only); (repeat' split) <;> simp
@[simp] theorem State.resendAwaited_lifetime : (s.resendAwaited).lifetime = s.lifetime := by
  unfold State.resendAwaited; (try dsimp only); (repeat' split) <;> simp
@[simp] theorem State.resendAwaited_period : (s.resendAwaited).period = s.period := by
  unfold State.resendAwaited; (try dsimp only); (repeat' split) <;> simp
@[simp] theorem State.resendAwaited_history : (s.resendAwaited).history = s.history := by
  unfold State.resendAwaited; (try dsimp only); (repeat' split) <;> simp
@[simp] theorem State.resendAwaited_call : (s.resendAwaited).call = s.call := by
  unfold State.resendAwaited; (try dsimp only); (repeat' split) <;> simp
@[simp] theorem State.resendAwaited_nv : (s.resendAwaited).nv = s.nv := by
  unfold State.resendAwaited; (try dsimp only); (repeat' split) <;> simp
@[simp] theorem State.resendAwaited_restores : (s.resendAwaited).restores = s.restores := by
  unfold State.resendAwaited; (try dsimp only); (repeat' split) <;> simp

@[simp] theorem State.completeUpload_now : (s.completeUpload).now = s.now := by
  unfold State.completeUpload; (try dsimp only); (repeat' split) <;> simp
@[simp] theorem State.completeUpload_pending : (s.completeUpload).pending = s.pending := by
  unfold State.completeUpload; (try dsimp only); (repeat' split) <;> simp
@[simp] theorem State.completeUpload_coin : (s.completeUpload).coin = s.coin := by
  unfold State.completeUpload; (try dsimp only); (repeat' split) <;> simp
@[simp] theorem State.completeUpload_credit : (s.completeUpload).credit = s.credit := by
  unfold State.completeUpload; (try dsimp only); (repeat' split) <;> simp
@[simp] theorem State.completeUpload_rating : (s.completeUpload).rating = s.rating := by
  unfold State.completeUpload; (try dsimp only); (repeat' split) <;> simp
@[simp] theorem State.completeUpload_line : (s.completeUpload).line = s.line := by
  unfold State.completeUpload; (try dsimp only); (repeat' split) <;> simp
@[simp] theorem State.completeUpload_arbiter : (s.completeUpload).arbiter = s.arbiter := by
  unfold State.completeUpload; (try dsimp only); (repeat' split) <;> simp
@[simp] theorem State.completeUpload_tamper : (s.completeUpload).tamper = s.tamper := by
  unfold State.completeUpload; (try dsimp only); (repeat' split) <;> simp
@[simp] theorem State.completeUpload_elapsed : (s.completeUpload).elapsed = s.elapsed := by
  unfold State.completeUpload; (try dsimp only); (repeat' split) <;> simp
@[simp] theorem State.completeUpload_ledger : (s.completeUpload).ledger = s.ledger := by
  unfold State.completeUpload; (try dsimp only); (repeat' split) <;> simp
@[simp] theorem State.completeUpload_power : (s.completeUpload).power = s.power := by
  unfold State.completeUpload; (try dsimp only); (repeat' split) <;> simp
@[simp] theorem State.completeUpload_clock : (s.completeUpload).clock = s.clock := by
  unfold State.completeUpload; (try dsimp only); (repeat' split) <;> simp
@[simp] theorem State.completeUpload_setPort : (s.completeUpload).setPort = s.setPort := by
  unfold State.completeUpload; (try dsimp only); (repeat' split) <;> simp
@[simp] theorem State.completeUpload_service : (s.completeUpload).service = s.service := by
  unfold State.completeUpload; (try dsimp only); (repeat' split) <;> simp
@[simp] theorem State.completeUpload_config : (s.completeUpload).config = s.config := by
  unfold State.completeUpload; (try dsimp only); (repeat' split) <;> simp
@[simp] theorem State.completeUpload_image0 : (s.completeUpload).image0 = s.image0 := by
  unfold State.completeUpload; (try dsimp only); (repeat' split) <;> simp
@[simp] theorem State.completeUpload_image1 : (s.completeUpload).image1 = s.image1 := by
  unfold State.completeUpload; (try dsimp only); (repeat' split) <;> simp
@[simp] theorem State.completeUpload_lifetime : (s.completeUpload).lifetime = s.lifetime := by
  unfold State.completeUpload; (try dsimp only); (repeat' split) <;> simp
@[simp] theorem State.completeUpload_period : (s.completeUpload).period = s.period := by
  unfold State.completeUpload; (try dsimp only); (repeat' split) <;> simp
@[simp] theorem State.completeUpload_history : (s.completeUpload).history = s.history := by
  unfold State.completeUpload; (try dsimp only); (repeat' split) <;> simp
@[simp] theorem State.completeUpload_call : (s.completeUpload).call = s.call := by
  unfold State.completeUpload; (try dsimp only); (repeat' split) <;> simp
@[simp] theorem State.completeUpload_events : (s.completeUpload).events = s.events := by
  unfold State.completeUpload; (try dsimp only); (repeat' split) <;> simp
@[simp] theorem State.completeUpload_nv : (s.completeUpload).nv = s.nv := by
  unfold State.completeUpload; (try dsimp only); (repeat' split) <;> simp
@[simp] theorem State.completeUpload_restores : (s.completeUpload).restores = s.restores := by
  unfold State.completeUpload; (try dsimp only); (repeat' split) <;> simp

@[simp] theorem State.selectNext_now : (s.selectNext).now = s.now := by
  unfold State.selectNext; (try dsimp only); (repeat' split) <;> simp
@[simp] theorem State.selectNext_pending : (s.selectNext).pending = s.pending := by
  unfold State.selectNext; (try dsimp only); (repeat' split) <;> simp
@[simp] theorem State.selectNext_coin : (s.selectNext).coin = s.coin := by
  unfold State.selectNext; (try dsimp only); (repeat' split) <;> simp
@[simp] theorem State.selectNext_credit : (s.selectNext).credit = s.credit := by
  unfold State.selectNext; (try dsimp only); (repeat' split) <;> simp
@[simp] theorem State.selectNext_rating : (s.selectNext).rating = s.rating := by
  unfold State.selectNext; (try dsimp only); (repeat' split) <;> simp
@[simp] theorem State.selectNext_line : (s.selectNext).line = s.line := by
  unfold State.selectNext; (try dsimp only); (repeat' split) <;> simp
@[simp] theorem State.selectNext_arbiter : (s.selectNext).arbiter = s.arbiter := by
  unfold State.selectNext; (try dsimp only); (repeat' split) <;> simp
@[simp] theorem State.selectNext_tamper : (s.selectNext).tamper = s.tamper := by
  unfold State.selectNext; (try dsimp only); (repeat' split) <;> simp
@[simp] theorem State.selectNext_elapsed : (s.selectNext).elapsed = s.elapsed := by
  unfold State.selectNext; (try dsimp only); (repeat' split) <;> simp
@[simp] theorem State.selectNext_power : (s.selectNext).power = s.power := by
  unfold State.selectNext; (try dsimp only); (repeat' split) <;> simp
@[simp] theorem State.selectNext_clock : (s.selectNext).clock = s.clock := by
  unfold State.selectNext; (try dsimp only); (repeat' split) <;> simp
@[simp] theorem State.selectNext_setPort : (s.selectNext).setPort = s.setPort := by
  unfold State.selectNext; (try dsimp only); (repeat' split) <;> simp
@[simp] theorem State.selectNext_service : (s.selectNext).service = s.service := by
  unfold State.selectNext; (try dsimp only); (repeat' split) <;> simp
@[simp] theorem State.selectNext_config : (s.selectNext).config = s.config := by
  unfold State.selectNext; (try dsimp only); (repeat' split) <;> simp
@[simp] theorem State.selectNext_image0 : (s.selectNext).image0 = s.image0 := by
  unfold State.selectNext; (try dsimp only); (repeat' split) <;> simp
@[simp] theorem State.selectNext_image1 : (s.selectNext).image1 = s.image1 := by
  unfold State.selectNext; (try dsimp only); (repeat' split) <;> simp
@[simp] theorem State.selectNext_lifetime : (s.selectNext).lifetime = s.lifetime := by
  unfold State.selectNext; (try dsimp only); (repeat' split) <;> simp
@[simp] theorem State.selectNext_period : (s.selectNext).period = s.period := by
  unfold State.selectNext; (try dsimp only); (repeat' split) <;> simp
@[simp] theorem State.selectNext_history : (s.selectNext).history = s.history := by
  unfold State.selectNext; (try dsimp only); (repeat' split) <;> simp
@[simp] theorem State.selectNext_call : (s.selectNext).call = s.call := by
  unfold State.selectNext; (try dsimp only); (repeat' split) <;> simp
@[simp] theorem State.selectNext_nv : (s.selectNext).nv = s.nv := by
  unfold State.selectNext; (try dsimp only); (repeat' split) <;> simp
@[simp] theorem State.selectNext_restores : (s.selectNext).restores = s.restores := by
  unfold State.selectNext; (try dsimp only); (repeat' split) <;> simp

@[simp] theorem State.acknowledgeHello_now : (s.acknowledgeHello).now = s.now := by
  unfold State.acknowledgeHello; (try dsimp only); (repeat' split) <;> simp
@[simp] theorem State.acknowledgeHello_pending : (s.acknowledgeHello).pending = s.pending := by
  unfold State.acknowledgeHello; (try dsimp only); (repeat' split) <;> simp
@[simp] theorem State.acknowledgeHello_coin : (s.acknowledgeHello).coin = s.coin := by
  unfold State.acknowledgeHello; (try dsimp only); (repeat' split) <;> simp
@[simp] theorem State.acknowledgeHello_credit : (s.acknowledgeHello).credit = s.credit := by
  unfold State.acknowledgeHello; (try dsimp only); (repeat' split) <;> simp
@[simp] theorem State.acknowledgeHello_rating : (s.acknowledgeHello).rating = s.rating := by
  unfold State.acknowledgeHello; (try dsimp only); (repeat' split) <;> simp
@[simp] theorem State.acknowledgeHello_line : (s.acknowledgeHello).line = s.line := by
  unfold State.acknowledgeHello; (try dsimp only); (repeat' split) <;> simp
@[simp] theorem State.acknowledgeHello_arbiter : (s.acknowledgeHello).arbiter = s.arbiter := by
  unfold State.acknowledgeHello; (try dsimp only); (repeat' split) <;> simp
@[simp] theorem State.acknowledgeHello_tamper : (s.acknowledgeHello).tamper = s.tamper := by
  unfold State.acknowledgeHello; (try dsimp only); (repeat' split) <;> simp
@[simp] theorem State.acknowledgeHello_elapsed : (s.acknowledgeHello).elapsed = s.elapsed := by
  unfold State.acknowledgeHello; (try dsimp only); (repeat' split) <;> simp
@[simp] theorem State.acknowledgeHello_power : (s.acknowledgeHello).power = s.power := by
  unfold State.acknowledgeHello; (try dsimp only); (repeat' split) <;> simp
@[simp] theorem State.acknowledgeHello_clock : (s.acknowledgeHello).clock = s.clock := by
  unfold State.acknowledgeHello; (try dsimp only); (repeat' split) <;> simp
@[simp] theorem State.acknowledgeHello_setPort : (s.acknowledgeHello).setPort = s.setPort := by
  unfold State.acknowledgeHello; (try dsimp only); (repeat' split) <;> simp
@[simp] theorem State.acknowledgeHello_service : (s.acknowledgeHello).service = s.service := by
  unfold State.acknowledgeHello; (try dsimp only); (repeat' split) <;> simp
@[simp] theorem State.acknowledgeHello_config : (s.acknowledgeHello).config = s.config := by
  unfold State.acknowledgeHello; (try dsimp only); (repeat' split) <;> simp
@[simp] theorem State.acknowledgeHello_image0 : (s.acknowledgeHello).image0 = s.image0 := by
  unfold State.acknowledgeHello; (try dsimp only); (repeat' split) <;> simp
@[simp] theorem State.acknowledgeHello_image1 : (s.acknowledgeHello).image1 = s.image1 := by
  unfold State.acknowledgeHello; (try dsimp only); (repeat' split) <;> simp
@[simp] theorem State.acknowledgeHello_lifetime : (s.acknowledgeHello).lifetime = s.lifetime := by
  unfold State.acknowledgeHello; (try dsimp only); (repeat' split) <;> simp
@[simp] theorem State.acknowledgeHello_period : (s.acknowledgeHello).period = s.period := by
  unfold State.acknowledgeHello; (try dsimp only); (repeat' split) <;> simp
@[simp] theorem State.acknowledgeHello_history : (s.acknowledgeHello).history = s.history := by
  unfold State.acknowledgeHello; (try dsimp only); (repeat' split) <;> simp
@[simp] theorem State.acknowledgeHello_call : (s.acknowledgeHello).call = s.call := by
  unfold State.acknowledgeHello; (try dsimp only); (repeat' split) <;> simp
@[simp] theorem State.acknowledgeHello_nv : (s.acknowledgeHello).nv = s.nv := by
  unfold State.acknowledgeHello; (try dsimp only); (repeat' split) <;> simp
@[simp] theorem State.acknowledgeHello_restores : (s.acknowledgeHello).restores = s.restores := by
  unfold State.acknowledgeHello; (try dsimp only); (repeat' split) <;> simp

@[simp] theorem State.acknowledgeRecord_now (q : BitVec 16) : (s.acknowledgeRecord q).now = s.now := by
  unfold State.acknowledgeRecord; (try dsimp only); (repeat' split) <;> simp
@[simp] theorem State.acknowledgeRecord_pending (q : BitVec 16) : (s.acknowledgeRecord q).pending = s.pending := by
  unfold State.acknowledgeRecord; (try dsimp only); (repeat' split) <;> simp
@[simp] theorem State.acknowledgeRecord_coin (q : BitVec 16) : (s.acknowledgeRecord q).coin = s.coin := by
  unfold State.acknowledgeRecord; (try dsimp only); (repeat' split) <;> simp
@[simp] theorem State.acknowledgeRecord_credit (q : BitVec 16) : (s.acknowledgeRecord q).credit = s.credit := by
  unfold State.acknowledgeRecord; (try dsimp only); (repeat' split) <;> simp
@[simp] theorem State.acknowledgeRecord_rating (q : BitVec 16) : (s.acknowledgeRecord q).rating = s.rating := by
  unfold State.acknowledgeRecord; (try dsimp only); (repeat' split) <;> simp
@[simp] theorem State.acknowledgeRecord_line (q : BitVec 16) : (s.acknowledgeRecord q).line = s.line := by
  unfold State.acknowledgeRecord; (try dsimp only); (repeat' split) <;> simp
@[simp] theorem State.acknowledgeRecord_arbiter (q : BitVec 16) : (s.acknowledgeRecord q).arbiter = s.arbiter := by
  unfold State.acknowledgeRecord; (try dsimp only); (repeat' split) <;> simp
@[simp] theorem State.acknowledgeRecord_tamper (q : BitVec 16) : (s.acknowledgeRecord q).tamper = s.tamper := by
  unfold State.acknowledgeRecord; (try dsimp only); (repeat' split) <;> simp
@[simp] theorem State.acknowledgeRecord_elapsed (q : BitVec 16) : (s.acknowledgeRecord q).elapsed = s.elapsed := by
  unfold State.acknowledgeRecord; (try dsimp only); (repeat' split) <;> simp
@[simp] theorem State.acknowledgeRecord_power (q : BitVec 16) : (s.acknowledgeRecord q).power = s.power := by
  unfold State.acknowledgeRecord; (try dsimp only); (repeat' split) <;> simp
@[simp] theorem State.acknowledgeRecord_clock (q : BitVec 16) : (s.acknowledgeRecord q).clock = s.clock := by
  unfold State.acknowledgeRecord; (try dsimp only); (repeat' split) <;> simp
@[simp] theorem State.acknowledgeRecord_setPort (q : BitVec 16) : (s.acknowledgeRecord q).setPort = s.setPort := by
  unfold State.acknowledgeRecord; (try dsimp only); (repeat' split) <;> simp
@[simp] theorem State.acknowledgeRecord_service (q : BitVec 16) : (s.acknowledgeRecord q).service = s.service := by
  unfold State.acknowledgeRecord; (try dsimp only); (repeat' split) <;> simp
@[simp] theorem State.acknowledgeRecord_config (q : BitVec 16) : (s.acknowledgeRecord q).config = s.config := by
  unfold State.acknowledgeRecord; (try dsimp only); (repeat' split) <;> simp
@[simp] theorem State.acknowledgeRecord_image0 (q : BitVec 16) : (s.acknowledgeRecord q).image0 = s.image0 := by
  unfold State.acknowledgeRecord; (try dsimp only); (repeat' split) <;> simp
@[simp] theorem State.acknowledgeRecord_image1 (q : BitVec 16) : (s.acknowledgeRecord q).image1 = s.image1 := by
  unfold State.acknowledgeRecord; (try dsimp only); (repeat' split) <;> simp
@[simp] theorem State.acknowledgeRecord_lifetime (q : BitVec 16) : (s.acknowledgeRecord q).lifetime = s.lifetime := by
  unfold State.acknowledgeRecord; (try dsimp only); (repeat' split) <;> simp
@[simp] theorem State.acknowledgeRecord_period (q : BitVec 16) : (s.acknowledgeRecord q).period = s.period := by
  unfold State.acknowledgeRecord; (try dsimp only); (repeat' split) <;> simp
@[simp] theorem State.acknowledgeRecord_history (q : BitVec 16) : (s.acknowledgeRecord q).history = s.history := by
  unfold State.acknowledgeRecord; (try dsimp only); (repeat' split) <;> simp
@[simp] theorem State.acknowledgeRecord_call (q : BitVec 16) : (s.acknowledgeRecord q).call = s.call := by
  unfold State.acknowledgeRecord; (try dsimp only); (repeat' split) <;> simp
@[simp] theorem State.acknowledgeRecord_nv (q : BitVec 16) : (s.acknowledgeRecord q).nv = s.nv := by
  unfold State.acknowledgeRecord; (try dsimp only); (repeat' split) <;> simp
@[simp] theorem State.acknowledgeRecord_restores (q : BitVec 16) : (s.acknowledgeRecord q).restores = s.restores := by
  unfold State.acknowledgeRecord; (try dsimp only); (repeat' split) <;> simp

@[simp] theorem State.sendYield_now : (s.sendYield).now = s.now := by
  unfold State.sendYield; (try dsimp only); (repeat' split) <;> simp
@[simp] theorem State.sendYield_pending : (s.sendYield).pending = s.pending := by
  unfold State.sendYield; (try dsimp only); (repeat' split) <;> simp
@[simp] theorem State.sendYield_coin : (s.sendYield).coin = s.coin := by
  unfold State.sendYield; (try dsimp only); (repeat' split) <;> simp
@[simp] theorem State.sendYield_credit : (s.sendYield).credit = s.credit := by
  unfold State.sendYield; (try dsimp only); (repeat' split) <;> simp
@[simp] theorem State.sendYield_rating : (s.sendYield).rating = s.rating := by
  unfold State.sendYield; (try dsimp only); (repeat' split) <;> simp
@[simp] theorem State.sendYield_line : (s.sendYield).line = s.line := by
  unfold State.sendYield; (try dsimp only); (repeat' split) <;> simp
@[simp] theorem State.sendYield_arbiter : (s.sendYield).arbiter = s.arbiter := by
  unfold State.sendYield; (try dsimp only); (repeat' split) <;> simp
@[simp] theorem State.sendYield_tamper : (s.sendYield).tamper = s.tamper := by
  unfold State.sendYield; (try dsimp only); (repeat' split) <;> simp
@[simp] theorem State.sendYield_elapsed : (s.sendYield).elapsed = s.elapsed := by
  unfold State.sendYield; (try dsimp only); (repeat' split) <;> simp
@[simp] theorem State.sendYield_ledger : (s.sendYield).ledger = s.ledger := by
  unfold State.sendYield; (try dsimp only); (repeat' split) <;> simp
@[simp] theorem State.sendYield_power : (s.sendYield).power = s.power := by
  unfold State.sendYield; (try dsimp only); (repeat' split) <;> simp
@[simp] theorem State.sendYield_clock : (s.sendYield).clock = s.clock := by
  unfold State.sendYield; (try dsimp only); (repeat' split) <;> simp
@[simp] theorem State.sendYield_setPort : (s.sendYield).setPort = s.setPort := by
  unfold State.sendYield; (try dsimp only); (repeat' split) <;> simp
@[simp] theorem State.sendYield_service : (s.sendYield).service = s.service := by
  unfold State.sendYield; (try dsimp only); (repeat' split) <;> simp
@[simp] theorem State.sendYield_config : (s.sendYield).config = s.config := by
  unfold State.sendYield; (try dsimp only); (repeat' split) <;> simp
@[simp] theorem State.sendYield_image0 : (s.sendYield).image0 = s.image0 := by
  unfold State.sendYield; (try dsimp only); (repeat' split) <;> simp
@[simp] theorem State.sendYield_image1 : (s.sendYield).image1 = s.image1 := by
  unfold State.sendYield; (try dsimp only); (repeat' split) <;> simp
@[simp] theorem State.sendYield_lifetime : (s.sendYield).lifetime = s.lifetime := by
  unfold State.sendYield; (try dsimp only); (repeat' split) <;> simp
@[simp] theorem State.sendYield_period : (s.sendYield).period = s.period := by
  unfold State.sendYield; (try dsimp only); (repeat' split) <;> simp
@[simp] theorem State.sendYield_history : (s.sendYield).history = s.history := by
  unfold State.sendYield; (try dsimp only); (repeat' split) <;> simp
@[simp] theorem State.sendYield_call : (s.sendYield).call = s.call := by
  unfold State.sendYield; (try dsimp only); (repeat' split) <;> simp
@[simp] theorem State.sendYield_events : (s.sendYield).events = s.events := by
  unfold State.sendYield; (try dsimp only); (repeat' split) <;> simp
@[simp] theorem State.sendYield_nv : (s.sendYield).nv = s.nv := by
  unfold State.sendYield; (try dsimp only); (repeat' split) <;> simp
@[simp] theorem State.sendYield_restores : (s.sendYield).restores = s.restores := by
  unfold State.sendYield; (try dsimp only); (repeat' split) <;> simp

@[simp] theorem State.suspend_now : (s.suspend).now = s.now := by
  unfold State.suspend; (try dsimp only); (repeat' split) <;> simp
@[simp] theorem State.suspend_pending : (s.suspend).pending = s.pending := by
  unfold State.suspend; (try dsimp only); (repeat' split) <;> simp
@[simp] theorem State.suspend_coin : (s.suspend).coin = s.coin := by
  unfold State.suspend; (try dsimp only); (repeat' split) <;> simp
@[simp] theorem State.suspend_credit : (s.suspend).credit = s.credit := by
  unfold State.suspend; (try dsimp only); (repeat' split) <;> simp
@[simp] theorem State.suspend_rating : (s.suspend).rating = s.rating := by
  unfold State.suspend; (try dsimp only); (repeat' split) <;> simp
@[simp] theorem State.suspend_line : (s.suspend).line = s.line := by
  unfold State.suspend; (try dsimp only); (repeat' split) <;> simp
@[simp] theorem State.suspend_arbiter : (s.suspend).arbiter = s.arbiter := by
  unfold State.suspend; (try dsimp only); (repeat' split) <;> simp
@[simp] theorem State.suspend_tamper : (s.suspend).tamper = s.tamper := by
  unfold State.suspend; (try dsimp only); (repeat' split) <;> simp
@[simp] theorem State.suspend_elapsed : (s.suspend).elapsed = s.elapsed := by
  unfold State.suspend; (try dsimp only); (repeat' split) <;> simp
@[simp] theorem State.suspend_power : (s.suspend).power = s.power := by
  unfold State.suspend; (try dsimp only); (repeat' split) <;> simp
@[simp] theorem State.suspend_clock : (s.suspend).clock = s.clock := by
  unfold State.suspend; (try dsimp only); (repeat' split) <;> simp
@[simp] theorem State.suspend_setPort : (s.suspend).setPort = s.setPort := by
  unfold State.suspend; (try dsimp only); (repeat' split) <;> simp
@[simp] theorem State.suspend_service : (s.suspend).service = s.service := by
  unfold State.suspend; (try dsimp only); (repeat' split) <;> simp
@[simp] theorem State.suspend_config : (s.suspend).config = s.config := by
  unfold State.suspend; (try dsimp only); (repeat' split) <;> simp
@[simp] theorem State.suspend_image0 : (s.suspend).image0 = s.image0 := by
  unfold State.suspend; (try dsimp only); (repeat' split) <;> simp
@[simp] theorem State.suspend_image1 : (s.suspend).image1 = s.image1 := by
  unfold State.suspend; (try dsimp only); (repeat' split) <;> simp
@[simp] theorem State.suspend_lifetime : (s.suspend).lifetime = s.lifetime := by
  unfold State.suspend; (try dsimp only); (repeat' split) <;> simp
@[simp] theorem State.suspend_period : (s.suspend).period = s.period := by
  unfold State.suspend; (try dsimp only); (repeat' split) <;> simp
@[simp] theorem State.suspend_history : (s.suspend).history = s.history := by
  unfold State.suspend; (try dsimp only); (repeat' split) <;> simp
@[simp] theorem State.suspend_call : (s.suspend).call = s.call := by
  unfold State.suspend; (try dsimp only); (repeat' split) <;> simp
@[simp] theorem State.suspend_nv : (s.suspend).nv = s.nv := by
  unfold State.suspend; (try dsimp only); (repeat' split) <;> simp
@[simp] theorem State.suspend_restores : (s.suspend).restores = s.restores := by
  unfold State.suspend; (try dsimp only); (repeat' split) <;> simp

@[simp] theorem State.placeSession_now : (s.placeSession).now = s.now := by
  unfold State.placeSession; (try dsimp only); (repeat' split) <;> simp
@[simp] theorem State.placeSession_pending : (s.placeSession).pending = s.pending := by
  unfold State.placeSession; (try dsimp only); (repeat' split) <;> simp
@[simp] theorem State.placeSession_coin : (s.placeSession).coin = s.coin := by
  unfold State.placeSession; (try dsimp only); (repeat' split) <;> simp
@[simp] theorem State.placeSession_credit : (s.placeSession).credit = s.credit := by
  unfold State.placeSession; (try dsimp only); (repeat' split) <;> simp
@[simp] theorem State.placeSession_rating : (s.placeSession).rating = s.rating := by
  unfold State.placeSession; (try dsimp only); (repeat' split) <;> simp
@[simp] theorem State.placeSession_line : (s.placeSession).line = s.line := by
  unfold State.placeSession; (try dsimp only); (repeat' split) <;> simp
@[simp] theorem State.placeSession_arbiter : (s.placeSession).arbiter = s.arbiter := by
  unfold State.placeSession; (try dsimp only); (repeat' split) <;> simp
@[simp] theorem State.placeSession_tamper : (s.placeSession).tamper = s.tamper := by
  unfold State.placeSession; (try dsimp only); (repeat' split) <;> simp
@[simp] theorem State.placeSession_elapsed : (s.placeSession).elapsed = s.elapsed := by
  unfold State.placeSession; (try dsimp only); (repeat' split) <;> simp
@[simp] theorem State.placeSession_modem : (s.placeSession).modem = s.modem := by
  unfold State.placeSession; (try dsimp only); (repeat' split) <;> simp
@[simp] theorem State.placeSession_ledger : (s.placeSession).ledger = s.ledger := by
  unfold State.placeSession; (try dsimp only); (repeat' split) <;> simp
@[simp] theorem State.placeSession_power : (s.placeSession).power = s.power := by
  unfold State.placeSession; (try dsimp only); (repeat' split) <;> simp
@[simp] theorem State.placeSession_clock : (s.placeSession).clock = s.clock := by
  unfold State.placeSession; (try dsimp only); (repeat' split) <;> simp
@[simp] theorem State.placeSession_setPort : (s.placeSession).setPort = s.setPort := by
  unfold State.placeSession; (try dsimp only); (repeat' split) <;> simp
@[simp] theorem State.placeSession_service : (s.placeSession).service = s.service := by
  unfold State.placeSession; (try dsimp only); (repeat' split) <;> simp
@[simp] theorem State.placeSession_config : (s.placeSession).config = s.config := by
  unfold State.placeSession; (try dsimp only); (repeat' split) <;> simp
@[simp] theorem State.placeSession_image0 : (s.placeSession).image0 = s.image0 := by
  unfold State.placeSession; (try dsimp only); (repeat' split) <;> simp
@[simp] theorem State.placeSession_image1 : (s.placeSession).image1 = s.image1 := by
  unfold State.placeSession; (try dsimp only); (repeat' split) <;> simp
@[simp] theorem State.placeSession_lifetime : (s.placeSession).lifetime = s.lifetime := by
  unfold State.placeSession; (try dsimp only); (repeat' split) <;> simp
@[simp] theorem State.placeSession_period : (s.placeSession).period = s.period := by
  unfold State.placeSession; (try dsimp only); (repeat' split) <;> simp
@[simp] theorem State.placeSession_history : (s.placeSession).history = s.history := by
  unfold State.placeSession; (try dsimp only); (repeat' split) <;> simp
@[simp] theorem State.placeSession_call : (s.placeSession).call = s.call := by
  unfold State.placeSession; (try dsimp only); (repeat' split) <;> simp
@[simp] theorem State.placeSession_events : (s.placeSession).events = s.events := by
  unfold State.placeSession; (try dsimp only); (repeat' split) <;> simp
@[simp] theorem State.placeSession_nv : (s.placeSession).nv = s.nv := by
  unfold State.placeSession; (try dsimp only); (repeat' split) <;> simp
@[simp] theorem State.placeSession_restores : (s.placeSession).restores = s.restores := by
  unfold State.placeSession; (try dsimp only); (repeat' split) <;> simp

@[simp] theorem State.answerSession_now : (s.answerSession).now = s.now := by
  unfold State.answerSession; (try dsimp only); (repeat' split) <;> simp
@[simp] theorem State.answerSession_pending : (s.answerSession).pending = s.pending := by
  unfold State.answerSession; (try dsimp only); (repeat' split) <;> simp
@[simp] theorem State.answerSession_coin : (s.answerSession).coin = s.coin := by
  unfold State.answerSession; (try dsimp only); (repeat' split) <;> simp
@[simp] theorem State.answerSession_credit : (s.answerSession).credit = s.credit := by
  unfold State.answerSession; (try dsimp only); (repeat' split) <;> simp
@[simp] theorem State.answerSession_rating : (s.answerSession).rating = s.rating := by
  unfold State.answerSession; (try dsimp only); (repeat' split) <;> simp
@[simp] theorem State.answerSession_line : (s.answerSession).line = s.line := by
  unfold State.answerSession; (try dsimp only); (repeat' split) <;> simp
@[simp] theorem State.answerSession_arbiter : (s.answerSession).arbiter = s.arbiter := by
  unfold State.answerSession; (try dsimp only); (repeat' split) <;> simp
@[simp] theorem State.answerSession_tamper : (s.answerSession).tamper = s.tamper := by
  unfold State.answerSession; (try dsimp only); (repeat' split) <;> simp
@[simp] theorem State.answerSession_elapsed : (s.answerSession).elapsed = s.elapsed := by
  unfold State.answerSession; (try dsimp only); (repeat' split) <;> simp
@[simp] theorem State.answerSession_modem : (s.answerSession).modem = s.modem := by
  unfold State.answerSession; (try dsimp only); (repeat' split) <;> simp
@[simp] theorem State.answerSession_ledger : (s.answerSession).ledger = s.ledger := by
  unfold State.answerSession; (try dsimp only); (repeat' split) <;> simp
@[simp] theorem State.answerSession_power : (s.answerSession).power = s.power := by
  unfold State.answerSession; (try dsimp only); (repeat' split) <;> simp
@[simp] theorem State.answerSession_clock : (s.answerSession).clock = s.clock := by
  unfold State.answerSession; (try dsimp only); (repeat' split) <;> simp
@[simp] theorem State.answerSession_setPort : (s.answerSession).setPort = s.setPort := by
  unfold State.answerSession; (try dsimp only); (repeat' split) <;> simp
@[simp] theorem State.answerSession_service : (s.answerSession).service = s.service := by
  unfold State.answerSession; (try dsimp only); (repeat' split) <;> simp
@[simp] theorem State.answerSession_config : (s.answerSession).config = s.config := by
  unfold State.answerSession; (try dsimp only); (repeat' split) <;> simp
@[simp] theorem State.answerSession_image0 : (s.answerSession).image0 = s.image0 := by
  unfold State.answerSession; (try dsimp only); (repeat' split) <;> simp
@[simp] theorem State.answerSession_image1 : (s.answerSession).image1 = s.image1 := by
  unfold State.answerSession; (try dsimp only); (repeat' split) <;> simp
@[simp] theorem State.answerSession_lifetime : (s.answerSession).lifetime = s.lifetime := by
  unfold State.answerSession; (try dsimp only); (repeat' split) <;> simp
@[simp] theorem State.answerSession_period : (s.answerSession).period = s.period := by
  unfold State.answerSession; (try dsimp only); (repeat' split) <;> simp
@[simp] theorem State.answerSession_history : (s.answerSession).history = s.history := by
  unfold State.answerSession; (try dsimp only); (repeat' split) <;> simp
@[simp] theorem State.answerSession_call : (s.answerSession).call = s.call := by
  unfold State.answerSession; (try dsimp only); (repeat' split) <;> simp
@[simp] theorem State.answerSession_events : (s.answerSession).events = s.events := by
  unfold State.answerSession; (try dsimp only); (repeat' split) <;> simp
@[simp] theorem State.answerSession_nv : (s.answerSession).nv = s.nv := by
  unfold State.answerSession; (try dsimp only); (repeat' split) <;> simp
@[simp] theorem State.answerSession_restores : (s.answerSession).restores = s.restores := by
  unfold State.answerSession; (try dsimp only); (repeat' split) <;> simp

@[simp] theorem State.dataCleared_now : (s.dataCleared).now = s.now := by
  unfold State.dataCleared; (try dsimp only); (repeat' split) <;> simp
@[simp] theorem State.dataCleared_pending : (s.dataCleared).pending = s.pending := by
  unfold State.dataCleared; (try dsimp only); (repeat' split) <;> simp
@[simp] theorem State.dataCleared_coin : (s.dataCleared).coin = s.coin := by
  unfold State.dataCleared; (try dsimp only); (repeat' split) <;> simp
@[simp] theorem State.dataCleared_credit : (s.dataCleared).credit = s.credit := by
  unfold State.dataCleared; (try dsimp only); (repeat' split) <;> simp
@[simp] theorem State.dataCleared_tamper : (s.dataCleared).tamper = s.tamper := by
  unfold State.dataCleared; (try dsimp only); (repeat' split) <;> simp
@[simp] theorem State.dataCleared_elapsed : (s.dataCleared).elapsed = s.elapsed := by
  unfold State.dataCleared; (try dsimp only); (repeat' split) <;> simp
@[simp] theorem State.dataCleared_power : (s.dataCleared).power = s.power := by
  unfold State.dataCleared; (try dsimp only); (repeat' split) <;> simp
@[simp] theorem State.dataCleared_clock : (s.dataCleared).clock = s.clock := by
  unfold State.dataCleared; (try dsimp only); (repeat' split) <;> simp
@[simp] theorem State.dataCleared_service : (s.dataCleared).service = s.service := by
  unfold State.dataCleared; (try dsimp only); (repeat' split) <;> simp
@[simp] theorem State.dataCleared_config : (s.dataCleared).config = s.config := by
  unfold State.dataCleared; (try dsimp only); (repeat' split) <;> simp
@[simp] theorem State.dataCleared_image0 : (s.dataCleared).image0 = s.image0 := by
  unfold State.dataCleared; (try dsimp only); (repeat' split) <;> simp
@[simp] theorem State.dataCleared_image1 : (s.dataCleared).image1 = s.image1 := by
  unfold State.dataCleared; (try dsimp only); (repeat' split) <;> simp
@[simp] theorem State.dataCleared_lifetime : (s.dataCleared).lifetime = s.lifetime := by
  unfold State.dataCleared; (try dsimp only); (repeat' split) <;> simp
@[simp] theorem State.dataCleared_period : (s.dataCleared).period = s.period := by
  unfold State.dataCleared; (try dsimp only); (repeat' split) <;> simp
@[simp] theorem State.dataCleared_history : (s.dataCleared).history = s.history := by
  unfold State.dataCleared; (try dsimp only); (repeat' split) <;> simp
@[simp] theorem State.dataCleared_call : (s.dataCleared).call = s.call := by
  unfold State.dataCleared; (try dsimp only); (repeat' split) <;> simp
@[simp] theorem State.dataCleared_nv : (s.dataCleared).nv = s.nv := by
  unfold State.dataCleared; (try dsimp only); (repeat' split) <;> simp
@[simp] theorem State.dataCleared_restores : (s.dataCleared).restores = s.restores := by
  unfold State.dataCleared; (try dsimp only); (repeat' split) <;> simp

@[simp] theorem State.reply_now (k t : Byte) (p : List Byte) : (s.reply k t p).now = s.now := by
  unfold State.reply; (try dsimp only); (repeat' split) <;> simp
@[simp] theorem State.reply_pending (k t : Byte) (p : List Byte) : (s.reply k t p).pending = s.pending := by
  unfold State.reply; (try dsimp only); (repeat' split) <;> simp
@[simp] theorem State.reply_coin (k t : Byte) (p : List Byte) : (s.reply k t p).coin = s.coin := by
  unfold State.reply; (try dsimp only); (repeat' split) <;> simp
@[simp] theorem State.reply_credit (k t : Byte) (p : List Byte) : (s.reply k t p).credit = s.credit := by
  unfold State.reply; (try dsimp only); (repeat' split) <;> simp
@[simp] theorem State.reply_rating (k t : Byte) (p : List Byte) : (s.reply k t p).rating = s.rating := by
  unfold State.reply; (try dsimp only); (repeat' split) <;> simp
@[simp] theorem State.reply_line (k t : Byte) (p : List Byte) : (s.reply k t p).line = s.line := by
  unfold State.reply; (try dsimp only); (repeat' split) <;> simp
@[simp] theorem State.reply_arbiter (k t : Byte) (p : List Byte) : (s.reply k t p).arbiter = s.arbiter := by
  unfold State.reply; (try dsimp only); (repeat' split) <;> simp
@[simp] theorem State.reply_tamper (k t : Byte) (p : List Byte) : (s.reply k t p).tamper = s.tamper := by
  unfold State.reply; (try dsimp only); (repeat' split) <;> simp
@[simp] theorem State.reply_elapsed (k t : Byte) (p : List Byte) : (s.reply k t p).elapsed = s.elapsed := by
  unfold State.reply; (try dsimp only); (repeat' split) <;> simp
@[simp] theorem State.reply_ledger (k t : Byte) (p : List Byte) : (s.reply k t p).ledger = s.ledger := by
  unfold State.reply; (try dsimp only); (repeat' split) <;> simp
@[simp] theorem State.reply_power (k t : Byte) (p : List Byte) : (s.reply k t p).power = s.power := by
  unfold State.reply; (try dsimp only); (repeat' split) <;> simp
@[simp] theorem State.reply_clock (k t : Byte) (p : List Byte) : (s.reply k t p).clock = s.clock := by
  unfold State.reply; (try dsimp only); (repeat' split) <;> simp
@[simp] theorem State.reply_setPort (k t : Byte) (p : List Byte) : (s.reply k t p).setPort = s.setPort := by
  unfold State.reply; (try dsimp only); (repeat' split) <;> simp
@[simp] theorem State.reply_service (k t : Byte) (p : List Byte) : (s.reply k t p).service = s.service := by
  unfold State.reply; (try dsimp only); (repeat' split) <;> simp
@[simp] theorem State.reply_config (k t : Byte) (p : List Byte) : (s.reply k t p).config = s.config := by
  unfold State.reply; (try dsimp only); (repeat' split) <;> simp
@[simp] theorem State.reply_image0 (k t : Byte) (p : List Byte) : (s.reply k t p).image0 = s.image0 := by
  unfold State.reply; (try dsimp only); (repeat' split) <;> simp
@[simp] theorem State.reply_image1 (k t : Byte) (p : List Byte) : (s.reply k t p).image1 = s.image1 := by
  unfold State.reply; (try dsimp only); (repeat' split) <;> simp
@[simp] theorem State.reply_lifetime (k t : Byte) (p : List Byte) : (s.reply k t p).lifetime = s.lifetime := by
  unfold State.reply; (try dsimp only); (repeat' split) <;> simp
@[simp] theorem State.reply_period (k t : Byte) (p : List Byte) : (s.reply k t p).period = s.period := by
  unfold State.reply; (try dsimp only); (repeat' split) <;> simp
@[simp] theorem State.reply_history (k t : Byte) (p : List Byte) : (s.reply k t p).history = s.history := by
  unfold State.reply; (try dsimp only); (repeat' split) <;> simp
@[simp] theorem State.reply_call (k t : Byte) (p : List Byte) : (s.reply k t p).call = s.call := by
  unfold State.reply; (try dsimp only); (repeat' split) <;> simp
@[simp] theorem State.reply_events (k t : Byte) (p : List Byte) : (s.reply k t p).events = s.events := by
  unfold State.reply; (try dsimp only); (repeat' split) <;> simp
@[simp] theorem State.reply_nv (k t : Byte) (p : List Byte) : (s.reply k t p).nv = s.nv := by
  unfold State.reply; (try dsimp only); (repeat' split) <;> simp
@[simp] theorem State.reply_restores (k t : Byte) (p : List Byte) : (s.reply k t p).restores = s.restores := by
  unfold State.reply; (try dsimp only); (repeat' split) <;> simp

@[simp] theorem State.replyResult_now (k : Byte) (r : CommandResult) : (s.replyResult k r).now = s.now := by
  unfold State.replyResult; (try dsimp only); (repeat' split) <;> simp
@[simp] theorem State.replyResult_pending (k : Byte) (r : CommandResult) : (s.replyResult k r).pending = s.pending := by
  unfold State.replyResult; (try dsimp only); (repeat' split) <;> simp
@[simp] theorem State.replyResult_coin (k : Byte) (r : CommandResult) : (s.replyResult k r).coin = s.coin := by
  unfold State.replyResult; (try dsimp only); (repeat' split) <;> simp
@[simp] theorem State.replyResult_credit (k : Byte) (r : CommandResult) : (s.replyResult k r).credit = s.credit := by
  unfold State.replyResult; (try dsimp only); (repeat' split) <;> simp
@[simp] theorem State.replyResult_rating (k : Byte) (r : CommandResult) : (s.replyResult k r).rating = s.rating := by
  unfold State.replyResult; (try dsimp only); (repeat' split) <;> simp
@[simp] theorem State.replyResult_line (k : Byte) (r : CommandResult) : (s.replyResult k r).line = s.line := by
  unfold State.replyResult; (try dsimp only); (repeat' split) <;> simp
@[simp] theorem State.replyResult_arbiter (k : Byte) (r : CommandResult) : (s.replyResult k r).arbiter = s.arbiter := by
  unfold State.replyResult; (try dsimp only); (repeat' split) <;> simp
@[simp] theorem State.replyResult_tamper (k : Byte) (r : CommandResult) : (s.replyResult k r).tamper = s.tamper := by
  unfold State.replyResult; (try dsimp only); (repeat' split) <;> simp
@[simp] theorem State.replyResult_elapsed (k : Byte) (r : CommandResult) : (s.replyResult k r).elapsed = s.elapsed := by
  unfold State.replyResult; (try dsimp only); (repeat' split) <;> simp
@[simp] theorem State.replyResult_ledger (k : Byte) (r : CommandResult) : (s.replyResult k r).ledger = s.ledger := by
  unfold State.replyResult; (try dsimp only); (repeat' split) <;> simp
@[simp] theorem State.replyResult_power (k : Byte) (r : CommandResult) : (s.replyResult k r).power = s.power := by
  unfold State.replyResult; (try dsimp only); (repeat' split) <;> simp
@[simp] theorem State.replyResult_clock (k : Byte) (r : CommandResult) : (s.replyResult k r).clock = s.clock := by
  unfold State.replyResult; (try dsimp only); (repeat' split) <;> simp
@[simp] theorem State.replyResult_setPort (k : Byte) (r : CommandResult) : (s.replyResult k r).setPort = s.setPort := by
  unfold State.replyResult; (try dsimp only); (repeat' split) <;> simp
@[simp] theorem State.replyResult_service (k : Byte) (r : CommandResult) : (s.replyResult k r).service = s.service := by
  unfold State.replyResult; (try dsimp only); (repeat' split) <;> simp
@[simp] theorem State.replyResult_config (k : Byte) (r : CommandResult) : (s.replyResult k r).config = s.config := by
  unfold State.replyResult; (try dsimp only); (repeat' split) <;> simp
@[simp] theorem State.replyResult_image0 (k : Byte) (r : CommandResult) : (s.replyResult k r).image0 = s.image0 := by
  unfold State.replyResult; (try dsimp only); (repeat' split) <;> simp
@[simp] theorem State.replyResult_image1 (k : Byte) (r : CommandResult) : (s.replyResult k r).image1 = s.image1 := by
  unfold State.replyResult; (try dsimp only); (repeat' split) <;> simp
@[simp] theorem State.replyResult_lifetime (k : Byte) (r : CommandResult) : (s.replyResult k r).lifetime = s.lifetime := by
  unfold State.replyResult; (try dsimp only); (repeat' split) <;> simp
@[simp] theorem State.replyResult_period (k : Byte) (r : CommandResult) : (s.replyResult k r).period = s.period := by
  unfold State.replyResult; (try dsimp only); (repeat' split) <;> simp
@[simp] theorem State.replyResult_history (k : Byte) (r : CommandResult) : (s.replyResult k r).history = s.history := by
  unfold State.replyResult; (try dsimp only); (repeat' split) <;> simp
@[simp] theorem State.replyResult_call (k : Byte) (r : CommandResult) : (s.replyResult k r).call = s.call := by
  unfold State.replyResult; (try dsimp only); (repeat' split) <;> simp
@[simp] theorem State.replyResult_events (k : Byte) (r : CommandResult) : (s.replyResult k r).events = s.events := by
  unfold State.replyResult; (try dsimp only); (repeat' split) <;> simp
@[simp] theorem State.replyResult_nv (k : Byte) (r : CommandResult) : (s.replyResult k r).nv = s.nv := by
  unfold State.replyResult; (try dsimp only); (repeat' split) <;> simp
@[simp] theorem State.replyResult_restores (k : Byte) (r : CommandResult) : (s.replyResult k r).restores = s.restores := by
  unfold State.replyResult; (try dsimp only); (repeat' split) <;> simp

end Sys2Proof.Machine
end

