-- ==== Sys2Proof/Laws/ArbiterOps.lean ====
section
/-!
SUPPORT. What each operation of Machine/ArbiterOps.lean leaves alone: one lemma for each field of `State` that it never
touches.  What it does to the fields it touches stands in its definition.
-/

set_option linter.unusedTactic false
set_option linter.unnecessarySeqFocus false
set_option linter.unreachableTactic false

namespace Sys2Proof.Machine

variable (s : State)

@[simp] theorem State.seize_now : (s.seize).now = s.now := by
  unfold State.seize; (try dsimp only); (repeat' split) <;> simp
@[simp] theorem State.seize_pending : (s.seize).pending = s.pending := by
  unfold State.seize; (try dsimp only); (repeat' split) <;> simp
@[simp] theorem State.seize_coin : (s.seize).coin = s.coin := by
  unfold State.seize; (try dsimp only); (repeat' split) <;> simp
@[simp] theorem State.seize_credit : (s.seize).credit = s.credit := by
  unfold State.seize; (try dsimp only); (repeat' split) <;> simp
@[simp] theorem State.seize_rating : (s.seize).rating = s.rating := by
  unfold State.seize; (try dsimp only); (repeat' split) <;> simp
@[simp] theorem State.seize_arbiter : (s.seize).arbiter = s.arbiter := by
  unfold State.seize; (try dsimp only); (repeat' split) <;> simp
@[simp] theorem State.seize_tamper : (s.seize).tamper = s.tamper := by
  unfold State.seize; (try dsimp only); (repeat' split) <;> simp
@[simp] theorem State.seize_elapsed : (s.seize).elapsed = s.elapsed := by
  unfold State.seize; (try dsimp only); (repeat' split) <;> simp
@[simp] theorem State.seize_centre : (s.seize).centre = s.centre := by
  unfold State.seize; (try dsimp only); (repeat' split) <;> simp
@[simp] theorem State.seize_modem : (s.seize).modem = s.modem := by
  unfold State.seize; (try dsimp only); (repeat' split) <;> simp
@[simp] theorem State.seize_ledger : (s.seize).ledger = s.ledger := by
  unfold State.seize; (try dsimp only); (repeat' split) <;> simp
@[simp] theorem State.seize_power : (s.seize).power = s.power := by
  unfold State.seize; (try dsimp only); (repeat' split) <;> simp
@[simp] theorem State.seize_clock : (s.seize).clock = s.clock := by
  unfold State.seize; (try dsimp only); (repeat' split) <;> simp
@[simp] theorem State.seize_service : (s.seize).service = s.service := by
  unfold State.seize; (try dsimp only); (repeat' split) <;> simp
@[simp] theorem State.seize_config : (s.seize).config = s.config := by
  unfold State.seize; (try dsimp only); (repeat' split) <;> simp
@[simp] theorem State.seize_image0 : (s.seize).image0 = s.image0 := by
  unfold State.seize; (try dsimp only); (repeat' split) <;> simp
@[simp] theorem State.seize_image1 : (s.seize).image1 = s.image1 := by
  unfold State.seize; (try dsimp only); (repeat' split) <;> simp
@[simp] theorem State.seize_lifetime : (s.seize).lifetime = s.lifetime := by
  unfold State.seize; (try dsimp only); (repeat' split) <;> simp
@[simp] theorem State.seize_period : (s.seize).period = s.period := by
  unfold State.seize; (try dsimp only); (repeat' split) <;> simp
@[simp] theorem State.seize_history : (s.seize).history = s.history := by
  unfold State.seize; (try dsimp only); (repeat' split) <;> simp
@[simp] theorem State.seize_call : (s.seize).call = s.call := by
  unfold State.seize; (try dsimp only); (repeat' split) <;> simp
@[simp] theorem State.seize_events : (s.seize).events = s.events := by
  unfold State.seize; (try dsimp only); (repeat' split) <;> simp
@[simp] theorem State.seize_nv : (s.seize).nv = s.nv := by
  unfold State.seize; (try dsimp only); (repeat' split) <;> simp
@[simp] theorem State.seize_restores : (s.seize).restores = s.restores := by
  unfold State.seize; (try dsimp only); (repeat' split) <;> simp

@[simp] theorem State.grantUser_now : (s.grantUser).now = s.now := by
  unfold State.grantUser; (try dsimp only); (repeat' split) <;> simp
@[simp] theorem State.grantUser_pending : (s.grantUser).pending = s.pending := by
  unfold State.grantUser; (try dsimp only); (repeat' split) <;> simp
@[simp] theorem State.grantUser_coin : (s.grantUser).coin = s.coin := by
  unfold State.grantUser; (try dsimp only); (repeat' split) <;> simp
@[simp] theorem State.grantUser_credit : (s.grantUser).credit = s.credit := by
  unfold State.grantUser; (try dsimp only); (repeat' split) <;> simp
@[simp] theorem State.grantUser_rating : (s.grantUser).rating = s.rating := by
  unfold State.grantUser; (try dsimp only); (repeat' split) <;> simp
@[simp] theorem State.grantUser_tamper : (s.grantUser).tamper = s.tamper := by
  unfold State.grantUser; (try dsimp only); (repeat' split) <;> simp
@[simp] theorem State.grantUser_elapsed : (s.grantUser).elapsed = s.elapsed := by
  unfold State.grantUser; (try dsimp only); (repeat' split) <;> simp
@[simp] theorem State.grantUser_centre : (s.grantUser).centre = s.centre := by
  unfold State.grantUser; (try dsimp only); (repeat' split) <;> simp
@[simp] theorem State.grantUser_modem : (s.grantUser).modem = s.modem := by
  unfold State.grantUser; (try dsimp only); (repeat' split) <;> simp
@[simp] theorem State.grantUser_ledger : (s.grantUser).ledger = s.ledger := by
  unfold State.grantUser; (try dsimp only); (repeat' split) <;> simp
@[simp] theorem State.grantUser_power : (s.grantUser).power = s.power := by
  unfold State.grantUser; (try dsimp only); (repeat' split) <;> simp
@[simp] theorem State.grantUser_clock : (s.grantUser).clock = s.clock := by
  unfold State.grantUser; (try dsimp only); (repeat' split) <;> simp
@[simp] theorem State.grantUser_service : (s.grantUser).service = s.service := by
  unfold State.grantUser; (try dsimp only); (repeat' split) <;> simp
@[simp] theorem State.grantUser_config : (s.grantUser).config = s.config := by
  unfold State.grantUser; (try dsimp only); (repeat' split) <;> simp
@[simp] theorem State.grantUser_image0 : (s.grantUser).image0 = s.image0 := by
  unfold State.grantUser; (try dsimp only); (repeat' split) <;> simp
@[simp] theorem State.grantUser_image1 : (s.grantUser).image1 = s.image1 := by
  unfold State.grantUser; (try dsimp only); (repeat' split) <;> simp
@[simp] theorem State.grantUser_lifetime : (s.grantUser).lifetime = s.lifetime := by
  unfold State.grantUser; (try dsimp only); (repeat' split) <;> simp
@[simp] theorem State.grantUser_period : (s.grantUser).period = s.period := by
  unfold State.grantUser; (try dsimp only); (repeat' split) <;> simp
@[simp] theorem State.grantUser_history : (s.grantUser).history = s.history := by
  unfold State.grantUser; (try dsimp only); (repeat' split) <;> simp
@[simp] theorem State.grantUser_call : (s.grantUser).call = s.call := by
  unfold State.grantUser; (try dsimp only); (repeat' split) <;> simp
@[simp] theorem State.grantUser_events : (s.grantUser).events = s.events := by
  unfold State.grantUser; (try dsimp only); (repeat' split) <;> simp
@[simp] theorem State.grantUser_nv : (s.grantUser).nv = s.nv := by
  unfold State.grantUser; (try dsimp only); (repeat' split) <;> simp
@[simp] theorem State.grantUser_restores : (s.grantUser).restores = s.restores := by
  unfold State.grantUser; (try dsimp only); (repeat' split) <;> simp

@[simp] theorem State.grantPoll_now : (s.grantPoll).now = s.now := by
  unfold State.grantPoll; (try dsimp only); (repeat' split) <;> simp
@[simp] theorem State.grantPoll_pending : (s.grantPoll).pending = s.pending := by
  unfold State.grantPoll; (try dsimp only); (repeat' split) <;> simp
@[simp] theorem State.grantPoll_coin : (s.grantPoll).coin = s.coin := by
  unfold State.grantPoll; (try dsimp only); (repeat' split) <;> simp
@[simp] theorem State.grantPoll_credit : (s.grantPoll).credit = s.credit := by
  unfold State.grantPoll; (try dsimp only); (repeat' split) <;> simp
@[simp] theorem State.grantPoll_rating : (s.grantPoll).rating = s.rating := by
  unfold State.grantPoll; (try dsimp only); (repeat' split) <;> simp
@[simp] theorem State.grantPoll_tamper : (s.grantPoll).tamper = s.tamper := by
  unfold State.grantPoll; (try dsimp only); (repeat' split) <;> simp
@[simp] theorem State.grantPoll_elapsed : (s.grantPoll).elapsed = s.elapsed := by
  unfold State.grantPoll; (try dsimp only); (repeat' split) <;> simp
@[simp] theorem State.grantPoll_modem : (s.grantPoll).modem = s.modem := by
  unfold State.grantPoll; (try dsimp only); (repeat' split) <;> simp
@[simp] theorem State.grantPoll_ledger : (s.grantPoll).ledger = s.ledger := by
  unfold State.grantPoll; (try dsimp only); (repeat' split) <;> simp
@[simp] theorem State.grantPoll_power : (s.grantPoll).power = s.power := by
  unfold State.grantPoll; (try dsimp only); (repeat' split) <;> simp
@[simp] theorem State.grantPoll_clock : (s.grantPoll).clock = s.clock := by
  unfold State.grantPoll; (try dsimp only); (repeat' split) <;> simp
@[simp] theorem State.grantPoll_service : (s.grantPoll).service = s.service := by
  unfold State.grantPoll; (try dsimp only); (repeat' split) <;> simp
@[simp] theorem State.grantPoll_config : (s.grantPoll).config = s.config := by
  unfold State.grantPoll; (try dsimp only); (repeat' split) <;> simp
@[simp] theorem State.grantPoll_image0 : (s.grantPoll).image0 = s.image0 := by
  unfold State.grantPoll; (try dsimp only); (repeat' split) <;> simp
@[simp] theorem State.grantPoll_image1 : (s.grantPoll).image1 = s.image1 := by
  unfold State.grantPoll; (try dsimp only); (repeat' split) <;> simp
@[simp] theorem State.grantPoll_lifetime : (s.grantPoll).lifetime = s.lifetime := by
  unfold State.grantPoll; (try dsimp only); (repeat' split) <;> simp
@[simp] theorem State.grantPoll_period : (s.grantPoll).period = s.period := by
  unfold State.grantPoll; (try dsimp only); (repeat' split) <;> simp
@[simp] theorem State.grantPoll_history : (s.grantPoll).history = s.history := by
  unfold State.grantPoll; (try dsimp only); (repeat' split) <;> simp
@[simp] theorem State.grantPoll_call : (s.grantPoll).call = s.call := by
  unfold State.grantPoll; (try dsimp only); (repeat' split) <;> simp
@[simp] theorem State.grantPoll_events : (s.grantPoll).events = s.events := by
  unfold State.grantPoll; (try dsimp only); (repeat' split) <;> simp
@[simp] theorem State.grantPoll_nv : (s.grantPoll).nv = s.nv := by
  unfold State.grantPoll; (try dsimp only); (repeat' split) <;> simp
@[simp] theorem State.grantPoll_restores : (s.grantPoll).restores = s.restores := by
  unfold State.grantPoll; (try dsimp only); (repeat' split) <;> simp

@[simp] theorem State.grantReport_now : (s.grantReport).now = s.now := by
  unfold State.grantReport; (try dsimp only); (repeat' split) <;> simp
@[simp] theorem State.grantReport_pending : (s.grantReport).pending = s.pending := by
  unfold State.grantReport; (try dsimp only); (repeat' split) <;> simp
@[simp] theorem State.grantReport_coin : (s.grantReport).coin = s.coin := by
  unfold State.grantReport; (try dsimp only); (repeat' split) <;> simp
@[simp] theorem State.grantReport_credit : (s.grantReport).credit = s.credit := by
  unfold State.grantReport; (try dsimp only); (repeat' split) <;> simp
@[simp] theorem State.grantReport_rating : (s.grantReport).rating = s.rating := by
  unfold State.grantReport; (try dsimp only); (repeat' split) <;> simp
@[simp] theorem State.grantReport_tamper : (s.grantReport).tamper = s.tamper := by
  unfold State.grantReport; (try dsimp only); (repeat' split) <;> simp
@[simp] theorem State.grantReport_elapsed : (s.grantReport).elapsed = s.elapsed := by
  unfold State.grantReport; (try dsimp only); (repeat' split) <;> simp
@[simp] theorem State.grantReport_modem : (s.grantReport).modem = s.modem := by
  unfold State.grantReport; (try dsimp only); (repeat' split) <;> simp
@[simp] theorem State.grantReport_ledger : (s.grantReport).ledger = s.ledger := by
  unfold State.grantReport; (try dsimp only); (repeat' split) <;> simp
@[simp] theorem State.grantReport_power : (s.grantReport).power = s.power := by
  unfold State.grantReport; (try dsimp only); (repeat' split) <;> simp
@[simp] theorem State.grantReport_clock : (s.grantReport).clock = s.clock := by
  unfold State.grantReport; (try dsimp only); (repeat' split) <;> simp
@[simp] theorem State.grantReport_service : (s.grantReport).service = s.service := by
  unfold State.grantReport; (try dsimp only); (repeat' split) <;> simp
@[simp] theorem State.grantReport_config : (s.grantReport).config = s.config := by
  unfold State.grantReport; (try dsimp only); (repeat' split) <;> simp
@[simp] theorem State.grantReport_image0 : (s.grantReport).image0 = s.image0 := by
  unfold State.grantReport; (try dsimp only); (repeat' split) <;> simp
@[simp] theorem State.grantReport_image1 : (s.grantReport).image1 = s.image1 := by
  unfold State.grantReport; (try dsimp only); (repeat' split) <;> simp
@[simp] theorem State.grantReport_lifetime : (s.grantReport).lifetime = s.lifetime := by
  unfold State.grantReport; (try dsimp only); (repeat' split) <;> simp
@[simp] theorem State.grantReport_period : (s.grantReport).period = s.period := by
  unfold State.grantReport; (try dsimp only); (repeat' split) <;> simp
@[simp] theorem State.grantReport_history : (s.grantReport).history = s.history := by
  unfold State.grantReport; (try dsimp only); (repeat' split) <;> simp
@[simp] theorem State.grantReport_call : (s.grantReport).call = s.call := by
  unfold State.grantReport; (try dsimp only); (repeat' split) <;> simp
@[simp] theorem State.grantReport_events : (s.grantReport).events = s.events := by
  unfold State.grantReport; (try dsimp only); (repeat' split) <;> simp
@[simp] theorem State.grantReport_nv : (s.grantReport).nv = s.nv := by
  unfold State.grantReport; (try dsimp only); (repeat' split) <;> simp
@[simp] theorem State.grantReport_restores : (s.grantReport).restores = s.restores := by
  unfold State.grantReport; (try dsimp only); (repeat' split) <;> simp

@[simp] theorem State.openWindow_now : (s.openWindow).now = s.now := by
  unfold State.openWindow; (try dsimp only); (repeat' split) <;> simp
@[simp] theorem State.openWindow_pending : (s.openWindow).pending = s.pending := by
  unfold State.openWindow; (try dsimp only); (repeat' split) <;> simp
@[simp] theorem State.openWindow_coin : (s.openWindow).coin = s.coin := by
  unfold State.openWindow; (try dsimp only); (repeat' split) <;> simp
@[simp] theorem State.openWindow_credit : (s.openWindow).credit = s.credit := by
  unfold State.openWindow; (try dsimp only); (repeat' split) <;> simp
@[simp] theorem State.openWindow_rating : (s.openWindow).rating = s.rating := by
  unfold State.openWindow; (try dsimp only); (repeat' split) <;> simp
@[simp] theorem State.openWindow_line : (s.openWindow).line = s.line := by
  unfold State.openWindow; (try dsimp only); (repeat' split) <;> simp
@[simp] theorem State.openWindow_tamper : (s.openWindow).tamper = s.tamper := by
  unfold State.openWindow; (try dsimp only); (repeat' split) <;> simp
@[simp] theorem State.openWindow_elapsed : (s.openWindow).elapsed = s.elapsed := by
  unfold State.openWindow; (try dsimp only); (repeat' split) <;> simp
@[simp] theorem State.openWindow_centre : (s.openWindow).centre = s.centre := by
  unfold State.openWindow; (try dsimp only); (repeat' split) <;> simp
@[simp] theorem State.openWindow_modem : (s.openWindow).modem = s.modem := by
  unfold State.openWindow; (try dsimp only); (repeat' split) <;> simp
@[simp] theorem State.openWindow_ledger : (s.openWindow).ledger = s.ledger := by
  unfold State.openWindow; (try dsimp only); (repeat' split) <;> simp
@[simp] theorem State.openWindow_power : (s.openWindow).power = s.power := by
  unfold State.openWindow; (try dsimp only); (repeat' split) <;> simp
@[simp] theorem State.openWindow_clock : (s.openWindow).clock = s.clock := by
  unfold State.openWindow; (try dsimp only); (repeat' split) <;> simp
@[simp] theorem State.openWindow_service : (s.openWindow).service = s.service := by
  unfold State.openWindow; (try dsimp only); (repeat' split) <;> simp
@[simp] theorem State.openWindow_config : (s.openWindow).config = s.config := by
  unfold State.openWindow; (try dsimp only); (repeat' split) <;> simp
@[simp] theorem State.openWindow_image0 : (s.openWindow).image0 = s.image0 := by
  unfold State.openWindow; (try dsimp only); (repeat' split) <;> simp
@[simp] theorem State.openWindow_image1 : (s.openWindow).image1 = s.image1 := by
  unfold State.openWindow; (try dsimp only); (repeat' split) <;> simp
@[simp] theorem State.openWindow_lifetime : (s.openWindow).lifetime = s.lifetime := by
  unfold State.openWindow; (try dsimp only); (repeat' split) <;> simp
@[simp] theorem State.openWindow_period : (s.openWindow).period = s.period := by
  unfold State.openWindow; (try dsimp only); (repeat' split) <;> simp
@[simp] theorem State.openWindow_history : (s.openWindow).history = s.history := by
  unfold State.openWindow; (try dsimp only); (repeat' split) <;> simp
@[simp] theorem State.openWindow_call : (s.openWindow).call = s.call := by
  unfold State.openWindow; (try dsimp only); (repeat' split) <;> simp
@[simp] theorem State.openWindow_events : (s.openWindow).events = s.events := by
  unfold State.openWindow; (try dsimp only); (repeat' split) <;> simp
@[simp] theorem State.openWindow_nv : (s.openWindow).nv = s.nv := by
  unfold State.openWindow; (try dsimp only); (repeat' split) <;> simp
@[simp] theorem State.openWindow_restores : (s.openWindow).restores = s.restores := by
  unfold State.openWindow; (try dsimp only); (repeat' split) <;> simp

@[simp] theorem State.fallBack_now : (s.fallBack).now = s.now := by
  unfold State.fallBack; (try dsimp only); (repeat' split) <;> simp
@[simp] theorem State.fallBack_pending : (s.fallBack).pending = s.pending := by
  unfold State.fallBack; (try dsimp only); (repeat' split) <;> simp
@[simp] theorem State.fallBack_coin : (s.fallBack).coin = s.coin := by
  unfold State.fallBack; (try dsimp only); (repeat' split) <;> simp
@[simp] theorem State.fallBack_credit : (s.fallBack).credit = s.credit := by
  unfold State.fallBack; (try dsimp only); (repeat' split) <;> simp
@[simp] theorem State.fallBack_rating : (s.fallBack).rating = s.rating := by
  unfold State.fallBack; (try dsimp only); (repeat' split) <;> simp
@[simp] theorem State.fallBack_line : (s.fallBack).line = s.line := by
  unfold State.fallBack; (try dsimp only); (repeat' split) <;> simp
@[simp] theorem State.fallBack_tamper : (s.fallBack).tamper = s.tamper := by
  unfold State.fallBack; (try dsimp only); (repeat' split) <;> simp
@[simp] theorem State.fallBack_elapsed : (s.fallBack).elapsed = s.elapsed := by
  unfold State.fallBack; (try dsimp only); (repeat' split) <;> simp
@[simp] theorem State.fallBack_centre : (s.fallBack).centre = s.centre := by
  unfold State.fallBack; (try dsimp only); (repeat' split) <;> simp
@[simp] theorem State.fallBack_modem : (s.fallBack).modem = s.modem := by
  unfold State.fallBack; (try dsimp only); (repeat' split) <;> simp
@[simp] theorem State.fallBack_ledger : (s.fallBack).ledger = s.ledger := by
  unfold State.fallBack; (try dsimp only); (repeat' split) <;> simp
@[simp] theorem State.fallBack_power : (s.fallBack).power = s.power := by
  unfold State.fallBack; (try dsimp only); (repeat' split) <;> simp
@[simp] theorem State.fallBack_clock : (s.fallBack).clock = s.clock := by
  unfold State.fallBack; (try dsimp only); (repeat' split) <;> simp
@[simp] theorem State.fallBack_setPort : (s.fallBack).setPort = s.setPort := by
  unfold State.fallBack; (try dsimp only); (repeat' split) <;> simp
@[simp] theorem State.fallBack_service : (s.fallBack).service = s.service := by
  unfold State.fallBack; (try dsimp only); (repeat' split) <;> simp
@[simp] theorem State.fallBack_config : (s.fallBack).config = s.config := by
  unfold State.fallBack; (try dsimp only); (repeat' split) <;> simp
@[simp] theorem State.fallBack_image0 : (s.fallBack).image0 = s.image0 := by
  unfold State.fallBack; (try dsimp only); (repeat' split) <;> simp
@[simp] theorem State.fallBack_image1 : (s.fallBack).image1 = s.image1 := by
  unfold State.fallBack; (try dsimp only); (repeat' split) <;> simp
@[simp] theorem State.fallBack_lifetime : (s.fallBack).lifetime = s.lifetime := by
  unfold State.fallBack; (try dsimp only); (repeat' split) <;> simp
@[simp] theorem State.fallBack_period : (s.fallBack).period = s.period := by
  unfold State.fallBack; (try dsimp only); (repeat' split) <;> simp
@[simp] theorem State.fallBack_history : (s.fallBack).history = s.history := by
  unfold State.fallBack; (try dsimp only); (repeat' split) <;> simp
@[simp] theorem State.fallBack_call : (s.fallBack).call = s.call := by
  unfold State.fallBack; (try dsimp only); (repeat' split) <;> simp
@[simp] theorem State.fallBack_events : (s.fallBack).events = s.events := by
  unfold State.fallBack; (try dsimp only); (repeat' split) <;> simp
@[simp] theorem State.fallBack_nv : (s.fallBack).nv = s.nv := by
  unfold State.fallBack; (try dsimp only); (repeat' split) <;> simp
@[simp] theorem State.fallBack_restores : (s.fallBack).restores = s.restores := by
  unfold State.fallBack; (try dsimp only); (repeat' split) <;> simp

@[simp] theorem State.firstGrant_now : (s.firstGrant).now = s.now := by
  unfold State.firstGrant; (try dsimp only); (repeat' split) <;> simp
@[simp] theorem State.firstGrant_pending : (s.firstGrant).pending = s.pending := by
  unfold State.firstGrant; (try dsimp only); (repeat' split) <;> simp
@[simp] theorem State.firstGrant_coin : (s.firstGrant).coin = s.coin := by
  unfold State.firstGrant; (try dsimp only); (repeat' split) <;> simp
@[simp] theorem State.firstGrant_credit : (s.firstGrant).credit = s.credit := by
  unfold State.firstGrant; (try dsimp only); (repeat' split) <;> simp
@[simp] theorem State.firstGrant_rating : (s.firstGrant).rating = s.rating := by
  unfold State.firstGrant; (try dsimp only); (repeat' split) <;> simp
@[simp] theorem State.firstGrant_tamper : (s.firstGrant).tamper = s.tamper := by
  unfold State.firstGrant; (try dsimp only); (repeat' split) <;> simp
@[simp] theorem State.firstGrant_elapsed : (s.firstGrant).elapsed = s.elapsed := by
  unfold State.firstGrant; (try dsimp only); (repeat' split) <;> simp
@[simp] theorem State.firstGrant_modem : (s.firstGrant).modem = s.modem := by
  unfold State.firstGrant; (try dsimp only); (repeat' split) <;> simp
@[simp] theorem State.firstGrant_ledger : (s.firstGrant).ledger = s.ledger := by
  unfold State.firstGrant; (try dsimp only); (repeat' split) <;> simp
@[simp] theorem State.firstGrant_power : (s.firstGrant).power = s.power := by
  unfold State.firstGrant; (try dsimp only); (repeat' split) <;> simp
@[simp] theorem State.firstGrant_clock : (s.firstGrant).clock = s.clock := by
  unfold State.firstGrant; (try dsimp only); (repeat' split) <;> simp
@[simp] theorem State.firstGrant_service : (s.firstGrant).service = s.service := by
  unfold State.firstGrant; (try dsimp only); (repeat' split) <;> simp
@[simp] theorem State.firstGrant_config : (s.firstGrant).config = s.config := by
  unfold State.firstGrant; (try dsimp only); (repeat' split) <;> simp
@[simp] theorem State.firstGrant_image0 : (s.firstGrant).image0 = s.image0 := by
  unfold State.firstGrant; (try dsimp only); (repeat' split) <;> simp
@[simp] theorem State.firstGrant_image1 : (s.firstGrant).image1 = s.image1 := by
  unfold State.firstGrant; (try dsimp only); (repeat' split) <;> simp
@[simp] theorem State.firstGrant_lifetime : (s.firstGrant).lifetime = s.lifetime := by
  unfold State.firstGrant; (try dsimp only); (repeat' split) <;> simp
@[simp] theorem State.firstGrant_period : (s.firstGrant).period = s.period := by
  unfold State.firstGrant; (try dsimp only); (repeat' split) <;> simp
@[simp] theorem State.firstGrant_history : (s.firstGrant).history = s.history := by
  unfold State.firstGrant; (try dsimp only); (repeat' split) <;> simp
@[simp] theorem State.firstGrant_call : (s.firstGrant).call = s.call := by
  unfold State.firstGrant; (try dsimp only); (repeat' split) <;> simp
@[simp] theorem State.firstGrant_events : (s.firstGrant).events = s.events := by
  unfold State.firstGrant; (try dsimp only); (repeat' split) <;> simp
@[simp] theorem State.firstGrant_nv : (s.firstGrant).nv = s.nv := by
  unfold State.firstGrant; (try dsimp only); (repeat' split) <;> simp
@[simp] theorem State.firstGrant_restores : (s.firstGrant).restores = s.restores := by
  unfold State.firstGrant; (try dsimp only); (repeat' split) <;> simp

@[simp] theorem State.applyGrants_now : (s.applyGrants).now = s.now := by
  unfold State.applyGrants; (try dsimp only); (repeat' split) <;> simp
@[simp] theorem State.applyGrants_pending : (s.applyGrants).pending = s.pending := by
  unfold State.applyGrants; (try dsimp only); (repeat' split) <;> simp
@[simp] theorem State.applyGrants_coin : (s.applyGrants).coin = s.coin := by
  unfold State.applyGrants; (try dsimp only); (repeat' split) <;> simp
@[simp] theorem State.applyGrants_credit : (s.applyGrants).credit = s.credit := by
  unfold State.applyGrants; (try dsimp only); (repeat' split) <;> simp
@[simp] theorem State.applyGrants_rating : (s.applyGrants).rating = s.rating := by
  unfold State.applyGrants; (try dsimp only); (repeat' split) <;> simp
@[simp] theorem State.applyGrants_tamper : (s.applyGrants).tamper = s.tamper := by
  unfold State.applyGrants; (try dsimp only); (repeat' split) <;> simp
@[simp] theorem State.applyGrants_elapsed : (s.applyGrants).elapsed = s.elapsed := by
  unfold State.applyGrants; (try dsimp only); (repeat' split) <;> simp
@[simp] theorem State.applyGrants_modem : (s.applyGrants).modem = s.modem := by
  unfold State.applyGrants; (try dsimp only); (repeat' split) <;> simp
@[simp] theorem State.applyGrants_ledger : (s.applyGrants).ledger = s.ledger := by
  unfold State.applyGrants; (try dsimp only); (repeat' split) <;> simp
@[simp] theorem State.applyGrants_power : (s.applyGrants).power = s.power := by
  unfold State.applyGrants; (try dsimp only); (repeat' split) <;> simp
@[simp] theorem State.applyGrants_clock : (s.applyGrants).clock = s.clock := by
  unfold State.applyGrants; (try dsimp only); (repeat' split) <;> simp
@[simp] theorem State.applyGrants_service : (s.applyGrants).service = s.service := by
  unfold State.applyGrants; (try dsimp only); (repeat' split) <;> simp
@[simp] theorem State.applyGrants_config : (s.applyGrants).config = s.config := by
  unfold State.applyGrants; (try dsimp only); (repeat' split) <;> simp
@[simp] theorem State.applyGrants_image0 : (s.applyGrants).image0 = s.image0 := by
  unfold State.applyGrants; (try dsimp only); (repeat' split) <;> simp
@[simp] theorem State.applyGrants_image1 : (s.applyGrants).image1 = s.image1 := by
  unfold State.applyGrants; (try dsimp only); (repeat' split) <;> simp
@[simp] theorem State.applyGrants_lifetime : (s.applyGrants).lifetime = s.lifetime := by
  unfold State.applyGrants; (try dsimp only); (repeat' split) <;> simp
@[simp] theorem State.applyGrants_period : (s.applyGrants).period = s.period := by
  unfold State.applyGrants; (try dsimp only); (repeat' split) <;> simp
@[simp] theorem State.applyGrants_history : (s.applyGrants).history = s.history := by
  unfold State.applyGrants; (try dsimp only); (repeat' split) <;> simp
@[simp] theorem State.applyGrants_call : (s.applyGrants).call = s.call := by
  unfold State.applyGrants; (try dsimp only); (repeat' split) <;> simp
@[simp] theorem State.applyGrants_events : (s.applyGrants).events = s.events := by
  unfold State.applyGrants; (try dsimp only); (repeat' split) <;> simp
@[simp] theorem State.applyGrants_nv : (s.applyGrants).nv = s.nv := by
  unfold State.applyGrants; (try dsimp only); (repeat' split) <;> simp
@[simp] theorem State.applyGrants_restores : (s.applyGrants).restores = s.restores := by
  unfold State.applyGrants; (try dsimp only); (repeat' split) <;> simp

@[simp] theorem State.takeLineBack_now (r : TakeReason) : (s.takeLineBack r).now = s.now := by
  unfold State.takeLineBack; (try dsimp only); (repeat' split) <;> simp
@[simp] theorem State.takeLineBack_pending (r : TakeReason) : (s.takeLineBack r).pending = s.pending := by
  unfold State.takeLineBack; (try dsimp only); (repeat' split) <;> simp
@[simp] theorem State.takeLineBack_coin (r : TakeReason) : (s.takeLineBack r).coin = s.coin := by
  unfold State.takeLineBack; (try dsimp only); (repeat' split) <;> simp
@[simp] theorem State.takeLineBack_credit (r : TakeReason) : (s.takeLineBack r).credit = s.credit := by
  unfold State.takeLineBack; (try dsimp only); (repeat' split) <;> simp
@[simp] theorem State.takeLineBack_tamper (r : TakeReason) : (s.takeLineBack r).tamper = s.tamper := by
  unfold State.takeLineBack; (try dsimp only); (repeat' split) <;> simp
@[simp] theorem State.takeLineBack_elapsed (r : TakeReason) : (s.takeLineBack r).elapsed = s.elapsed := by
  unfold State.takeLineBack; (try dsimp only); (repeat' split) <;> simp
@[simp] theorem State.takeLineBack_power (r : TakeReason) : (s.takeLineBack r).power = s.power := by
  unfold State.takeLineBack; (try dsimp only); (repeat' split) <;> simp
@[simp] theorem State.takeLineBack_clock (r : TakeReason) : (s.takeLineBack r).clock = s.clock := by
  unfold State.takeLineBack; (try dsimp only); (repeat' split) <;> simp
@[simp] theorem State.takeLineBack_service (r : TakeReason) : (s.takeLineBack r).service = s.service := by
  unfold State.takeLineBack; (try dsimp only); (repeat' split) <;> simp
@[simp] theorem State.takeLineBack_config (r : TakeReason) : (s.takeLineBack r).config = s.config := by
  unfold State.takeLineBack; (try dsimp only); (repeat' split) <;> simp
@[simp] theorem State.takeLineBack_image0 (r : TakeReason) : (s.takeLineBack r).image0 = s.image0 := by
  unfold State.takeLineBack; (try dsimp only); (repeat' split) <;> simp
@[simp] theorem State.takeLineBack_image1 (r : TakeReason) : (s.takeLineBack r).image1 = s.image1 := by
  unfold State.takeLineBack; (try dsimp only); (repeat' split) <;> simp
@[simp] theorem State.takeLineBack_lifetime (r : TakeReason) : (s.takeLineBack r).lifetime = s.lifetime := by
  unfold State.takeLineBack; (try dsimp only); (repeat' split) <;> simp
@[simp] theorem State.takeLineBack_period (r : TakeReason) : (s.takeLineBack r).period = s.period := by
  unfold State.takeLineBack; (try dsimp only); (repeat' split) <;> simp
@[simp] theorem State.takeLineBack_history (r : TakeReason) : (s.takeLineBack r).history = s.history := by
  unfold State.takeLineBack; (try dsimp only); (repeat' split) <;> simp
@[simp] theorem State.takeLineBack_call (r : TakeReason) : (s.takeLineBack r).call = s.call := by
  unfold State.takeLineBack; (try dsimp only); (repeat' split) <;> simp
@[simp] theorem State.takeLineBack_nv (r : TakeReason) : (s.takeLineBack r).nv = s.nv := by
  unfold State.takeLineBack; (try dsimp only); (repeat' split) <;> simp
@[simp] theorem State.takeLineBack_restores (r : TakeReason) : (s.takeLineBack r).restores = s.restores := by
  unfold State.takeLineBack; (try dsimp only); (repeat' split) <;> simp

@[simp] theorem State.requestUser_now : (s.requestUser).now = s.now := by
  unfold State.requestUser; (try dsimp only); (repeat' split) <;> simp
@[simp] theorem State.requestUser_pending : (s.requestUser).pending = s.pending := by
  unfold State.requestUser; (try dsimp only); (repeat' split) <;> simp
@[simp] theorem State.requestUser_coin : (s.requestUser).coin = s.coin := by
  unfold State.requestUser; (try dsimp only); (repeat' split) <;> simp
@[simp] theorem State.requestUser_credit : (s.requestUser).credit = s.credit := by
  unfold State.requestUser; (try dsimp only); (repeat' split) <;> simp
@[simp] theorem State.requestUser_tamper : (s.requestUser).tamper = s.tamper := by
  unfold State.requestUser; (try dsimp only); (repeat' split) <;> simp
@[simp] theorem State.requestUser_elapsed : (s.requestUser).elapsed = s.elapsed := by
  unfold State.requestUser; (try dsimp only); (repeat' split) <;> simp
@[simp] theorem State.requestUser_power : (s.requestUser).power = s.power := by
  unfold State.requestUser; (try dsimp only); (repeat' split) <;> simp
@[simp] theorem State.requestUser_clock : (s.requestUser).clock = s.clock := by
  unfold State.requestUser; (try dsimp only); (repeat' split) <;> simp
@[simp] theorem State.requestUser_service : (s.requestUser).service = s.service := by
  unfold State.requestUser; (try dsimp only); (repeat' split) <;> simp
@[simp] theorem State.requestUser_config : (s.requestUser).config = s.config := by
  unfold State.requestUser; (try dsimp only); (repeat' split) <;> simp
@[simp] theorem State.requestUser_image0 : (s.requestUser).image0 = s.image0 := by
  unfold State.requestUser; (try dsimp only); (repeat' split) <;> simp
@[simp] theorem State.requestUser_image1 : (s.requestUser).image1 = s.image1 := by
  unfold State.requestUser; (try dsimp only); (repeat' split) <;> simp
@[simp] theorem State.requestUser_lifetime : (s.requestUser).lifetime = s.lifetime := by
  unfold State.requestUser; (try dsimp only); (repeat' split) <;> simp
@[simp] theorem State.requestUser_period : (s.requestUser).period = s.period := by
  unfold State.requestUser; (try dsimp only); (repeat' split) <;> simp
@[simp] theorem State.requestUser_history : (s.requestUser).history = s.history := by
  unfold State.requestUser; (try dsimp only); (repeat' split) <;> simp
@[simp] theorem State.requestUser_call : (s.requestUser).call = s.call := by
  unfold State.requestUser; (try dsimp only); (repeat' split) <;> simp
@[simp] theorem State.requestUser_nv : (s.requestUser).nv = s.nv := by
  unfold State.requestUser; (try dsimp only); (repeat' split) <;> simp
@[simp] theorem State.requestUser_restores : (s.requestUser).restores = s.restores := by
  unfold State.requestUser; (try dsimp only); (repeat' split) <;> simp

@[simp] theorem State.resetCentre_now : (s.resetCentre).now = s.now := by
  unfold State.resetCentre; (try dsimp only); (repeat' split) <;> simp
@[simp] theorem State.resetCentre_pending : (s.resetCentre).pending = s.pending := by
  unfold State.resetCentre; (try dsimp only); (repeat' split) <;> simp
@[simp] theorem State.resetCentre_coin : (s.resetCentre).coin = s.coin := by
  unfold State.resetCentre; (try dsimp only); (repeat' split) <;> simp
@[simp] theorem State.resetCentre_credit : (s.resetCentre).credit = s.credit := by
  unfold State.resetCentre; (try dsimp only); (repeat' split) <;> simp
@[simp] theorem State.resetCentre_tamper : (s.resetCentre).tamper = s.tamper := by
  unfold State.resetCentre; (try dsimp only); (repeat' split) <;> simp
@[simp] theorem State.resetCentre_elapsed : (s.resetCentre).elapsed = s.elapsed := by
  unfold State.resetCentre; (try dsimp only); (repeat' split) <;> simp
@[simp] theorem State.resetCentre_power : (s.resetCentre).power = s.power := by
  unfold State.resetCentre; (try dsimp only); (repeat' split) <;> simp
@[simp] theorem State.resetCentre_clock : (s.resetCentre).clock = s.clock := by
  unfold State.resetCentre; (try dsimp only); (repeat' split) <;> simp
@[simp] theorem State.resetCentre_service : (s.resetCentre).service = s.service := by
  unfold State.resetCentre; (try dsimp only); (repeat' split) <;> simp
@[simp] theorem State.resetCentre_config : (s.resetCentre).config = s.config := by
  unfold State.resetCentre; (try dsimp only); (repeat' split) <;> simp
@[simp] theorem State.resetCentre_image0 : (s.resetCentre).image0 = s.image0 := by
  unfold State.resetCentre; (try dsimp only); (repeat' split) <;> simp
@[simp] theorem State.resetCentre_image1 : (s.resetCentre).image1 = s.image1 := by
  unfold State.resetCentre; (try dsimp only); (repeat' split) <;> simp
@[simp] theorem State.resetCentre_lifetime : (s.resetCentre).lifetime = s.lifetime := by
  unfold State.resetCentre; (try dsimp only); (repeat' split) <;> simp
@[simp] theorem State.resetCentre_period : (s.resetCentre).period = s.period := by
  unfold State.resetCentre; (try dsimp only); (repeat' split) <;> simp
@[simp] theorem State.resetCentre_history : (s.resetCentre).history = s.history := by
  unfold State.resetCentre; (try dsimp only); (repeat' split) <;> simp
@[simp] theorem State.resetCentre_call : (s.resetCentre).call = s.call := by
  unfold State.resetCentre; (try dsimp only); (repeat' split) <;> simp
@[simp] theorem State.resetCentre_nv : (s.resetCentre).nv = s.nv := by
  unfold State.resetCentre; (try dsimp only); (repeat' split) <;> simp
@[simp] theorem State.resetCentre_restores : (s.resetCentre).restores = s.restores := by
  unfold State.resetCentre; (try dsimp only); (repeat' split) <;> simp

@[simp] theorem State.resetCalls_now : (s.resetCalls).now = s.now := by
  simp [State.resetCalls]
@[simp] theorem State.resetCalls_pending : (s.resetCalls).pending = s.pending := by
  simp [State.resetCalls]
@[simp] theorem State.resetCalls_coin : (s.resetCalls).coin = s.coin := by
  simp [State.resetCalls]
@[simp] theorem State.resetCalls_credit : (s.resetCalls).credit = s.credit := by
  simp [State.resetCalls]
@[simp] theorem State.resetCalls_rating : (s.resetCalls).rating = s.rating := by
  simp [State.resetCalls]
@[simp] theorem State.resetCalls_tamper : (s.resetCalls).tamper = s.tamper := by
  simp [State.resetCalls]
@[simp] theorem State.resetCalls_elapsed : (s.resetCalls).elapsed = s.elapsed := by
  simp [State.resetCalls]
@[simp] theorem State.resetCalls_modem : (s.resetCalls).modem = s.modem := by
  simp [State.resetCalls]
@[simp] theorem State.resetCalls_power : (s.resetCalls).power = s.power := by
  simp [State.resetCalls]
@[simp] theorem State.resetCalls_clock : (s.resetCalls).clock = s.clock := by
  simp [State.resetCalls]
@[simp] theorem State.resetCalls_setPort : (s.resetCalls).setPort = s.setPort := by
  simp [State.resetCalls]
@[simp] theorem State.resetCalls_service : (s.resetCalls).service = s.service := by
  simp [State.resetCalls]
@[simp] theorem State.resetCalls_ledger : (s.resetCalls).ledger = s.ledger := by
  simp [State.resetCalls]
@[simp] theorem State.resetCalls_config : (s.resetCalls).config = s.config := by
  simp [State.resetCalls]
@[simp] theorem State.resetCalls_image0 : (s.resetCalls).image0 = s.image0 := by
  simp [State.resetCalls]
@[simp] theorem State.resetCalls_image1 : (s.resetCalls).image1 = s.image1 := by
  simp [State.resetCalls]
@[simp] theorem State.resetCalls_lifetime : (s.resetCalls).lifetime = s.lifetime := by
  simp [State.resetCalls]
@[simp] theorem State.resetCalls_period : (s.resetCalls).period = s.period := by
  simp [State.resetCalls]
@[simp] theorem State.resetCalls_history : (s.resetCalls).history = s.history := by
  simp [State.resetCalls]
@[simp] theorem State.resetCalls_call : (s.resetCalls).call = s.call := by
  simp [State.resetCalls]
@[simp] theorem State.resetCalls_events : (s.resetCalls).events = s.events := by
  simp [State.resetCalls]
@[simp] theorem State.resetCalls_nv : (s.resetCalls).nv = s.nv := by
  simp [State.resetCalls]
@[simp] theorem State.resetCalls_restores : (s.resetCalls).restores = s.restores := by
  simp [State.resetCalls]

end Sys2Proof.Machine
end

