-- ==== Sys2Proof/Laws/TamperOps.lean ====
section
/-!
SUPPORT. What each operation of Machine/TamperOps.lean leaves alone: one lemma for each field of `State` that it never
touches.  What it does to the fields it touches stands in its definition.
-/

set_option linter.unusedTactic false
set_option linter.unnecessarySeqFocus false
set_option linter.unreachableTactic false

namespace Sys2Proof.Machine

variable (s : State)

@[simp] theorem State.takeEdge_now (i : Input) (l : Level) : (s.takeEdge i l).now = s.now := by
  unfold State.takeEdge; (try dsimp only); (repeat' split) <;> simp
@[simp] theorem State.takeEdge_pending (i : Input) (l : Level) : (s.takeEdge i l).pending = s.pending := by
  unfold State.takeEdge; (try dsimp only); (repeat' split) <;> simp
@[simp] theorem State.takeEdge_coin (i : Input) (l : Level) : (s.takeEdge i l).coin = s.coin := by
  unfold State.takeEdge; (try dsimp only); (repeat' split) <;> simp
@[simp] theorem State.takeEdge_credit (i : Input) (l : Level) : (s.takeEdge i l).credit = s.credit := by
  unfold State.takeEdge; (try dsimp only); (repeat' split) <;> simp
@[simp] theorem State.takeEdge_rating (i : Input) (l : Level) : (s.takeEdge i l).rating = s.rating := by
  unfold State.takeEdge; (try dsimp only); (repeat' split) <;> simp
@[simp] theorem State.takeEdge_line (i : Input) (l : Level) : (s.takeEdge i l).line = s.line := by
  unfold State.takeEdge; (try dsimp only); (repeat' split) <;> simp
@[simp] theorem State.takeEdge_arbiter (i : Input) (l : Level) : (s.takeEdge i l).arbiter = s.arbiter := by
  unfold State.takeEdge; (try dsimp only); (repeat' split) <;> simp
@[simp] theorem State.takeEdge_tamper (i : Input) (l : Level) : (s.takeEdge i l).tamper = s.tamper := by
  unfold State.takeEdge; (try dsimp only); (repeat' split) <;> simp
@[simp] theorem State.takeEdge_elapsed (i : Input) (l : Level) : (s.takeEdge i l).elapsed = s.elapsed := by
  unfold State.takeEdge; (try dsimp only); (repeat' split) <;> simp
@[simp] theorem State.takeEdge_centre (i : Input) (l : Level) : (s.takeEdge i l).centre = s.centre := by
  unfold State.takeEdge; (try dsimp only); (repeat' split) <;> simp
@[simp] theorem State.takeEdge_modem (i : Input) (l : Level) : (s.takeEdge i l).modem = s.modem := by
  unfold State.takeEdge; (try dsimp only); (repeat' split) <;> simp
@[simp] theorem State.takeEdge_power (i : Input) (l : Level) : (s.takeEdge i l).power = s.power := by
  unfold State.takeEdge; (try dsimp only); (repeat' split) <;> simp
@[simp] theorem State.takeEdge_clock (i : Input) (l : Level) : (s.takeEdge i l).clock = s.clock := by
  unfold State.takeEdge; (try dsimp only); (repeat' split) <;> simp
@[simp] theorem State.takeEdge_service (i : Input) (l : Level) : (s.takeEdge i l).service = s.service := by
  unfold State.takeEdge; (try dsimp only); (repeat' split) <;> simp
@[simp] theorem State.takeEdge_config (i : Input) (l : Level) : (s.takeEdge i l).config = s.config := by
  unfold State.takeEdge; (try dsimp only); (repeat' split) <;> simp
@[simp] theorem State.takeEdge_image0 (i : Input) (l : Level) : (s.takeEdge i l).image0 = s.image0 := by
  unfold State.takeEdge; (try dsimp only); (repeat' split) <;> simp
@[simp] theorem State.takeEdge_image1 (i : Input) (l : Level) : (s.takeEdge i l).image1 = s.image1 := by
  unfold State.takeEdge; (try dsimp only); (repeat' split) <;> simp
@[simp] theorem State.takeEdge_lifetime (i : Input) (l : Level) : (s.takeEdge i l).lifetime = s.lifetime := by
  unfold State.takeEdge; (try dsimp only); (repeat' split) <;> simp
@[simp] theorem State.takeEdge_period (i : Input) (l : Level) : (s.takeEdge i l).period = s.period := by
  unfold State.takeEdge; (try dsimp only); (repeat' split) <;> simp
@[simp] theorem State.takeEdge_history (i : Input) (l : Level) : (s.takeEdge i l).history = s.history := by
  unfold State.takeEdge; (try dsimp only); (repeat' split) <;> simp
@[simp] theorem State.takeEdge_call (i : Input) (l : Level) : (s.takeEdge i l).call = s.call := by
  unfold State.takeEdge; (try dsimp only); (repeat' split) <;> simp
@[simp] theorem State.takeEdge_nv (i : Input) (l : Level) : (s.takeEdge i l).nv = s.nv := by
  unfold State.takeEdge; (try dsimp only); (repeat' split) <;> simp
@[simp] theorem State.takeEdge_restores (i : Input) (l : Level) : (s.takeEdge i l).restores = s.restores := by
  unfold State.takeEdge; (try dsimp only); (repeat' split) <;> simp

@[simp] theorem State.takeExemptEdge_now (i : Input) (l : Level) : (s.takeExemptEdge i l).now = s.now := by
  unfold State.takeExemptEdge; (try dsimp only); (repeat' split) <;> simp
@[simp] theorem State.takeExemptEdge_pending (i : Input) (l : Level) : (s.takeExemptEdge i l).pending = s.pending := by
  unfold State.takeExemptEdge; (try dsimp only); (repeat' split) <;> simp
@[simp] theorem State.takeExemptEdge_coin (i : Input) (l : Level) : (s.takeExemptEdge i l).coin = s.coin := by
  unfold State.takeExemptEdge; (try dsimp only); (repeat' split) <;> simp
@[simp] theorem State.takeExemptEdge_credit (i : Input) (l : Level) : (s.takeExemptEdge i l).credit = s.credit := by
  unfold State.takeExemptEdge; (try dsimp only); (repeat' split) <;> simp
@[simp] theorem State.takeExemptEdge_rating (i : Input) (l : Level) : (s.takeExemptEdge i l).rating = s.rating := by
  unfold State.takeExemptEdge; (try dsimp only); (repeat' split) <;> simp
@[simp] theorem State.takeExemptEdge_line (i : Input) (l : Level) : (s.takeExemptEdge i l).line = s.line := by
  unfold State.takeExemptEdge; (try dsimp only); (repeat' split) <;> simp
@[simp] theorem State.takeExemptEdge_arbiter (i : Input) (l : Level) : (s.takeExemptEdge i l).arbiter = s.arbiter := by
  unfold State.takeExemptEdge; (try dsimp only); (repeat' split) <;> simp
@[simp] theorem State.takeExemptEdge_tamper (i : Input) (l : Level) : (s.takeExemptEdge i l).tamper = s.tamper := by
  unfold State.takeExemptEdge; (try dsimp only); (repeat' split) <;> simp
@[simp] theorem State.takeExemptEdge_elapsed (i : Input) (l : Level) : (s.takeExemptEdge i l).elapsed = s.elapsed := by
  unfold State.takeExemptEdge; (try dsimp only); (repeat' split) <;> simp
@[simp] theorem State.takeExemptEdge_centre (i : Input) (l : Level) : (s.takeExemptEdge i l).centre = s.centre := by
  unfold State.takeExemptEdge; (try dsimp only); (repeat' split) <;> simp
@[simp] theorem State.takeExemptEdge_modem (i : Input) (l : Level) : (s.takeExemptEdge i l).modem = s.modem := by
  unfold State.takeExemptEdge; (try dsimp only); (repeat' split) <;> simp
@[simp] theorem State.takeExemptEdge_power (i : Input) (l : Level) : (s.takeExemptEdge i l).power = s.power := by
  unfold State.takeExemptEdge; (try dsimp only); (repeat' split) <;> simp
@[simp] theorem State.takeExemptEdge_clock (i : Input) (l : Level) : (s.takeExemptEdge i l).clock = s.clock := by
  unfold State.takeExemptEdge; (try dsimp only); (repeat' split) <;> simp
@[simp] theorem State.takeExemptEdge_service (i : Input) (l : Level) : (s.takeExemptEdge i l).service = s.service := by
  unfold State.takeExemptEdge; (try dsimp only); (repeat' split) <;> simp
@[simp] theorem State.takeExemptEdge_config (i : Input) (l : Level) : (s.takeExemptEdge i l).config = s.config := by
  unfold State.takeExemptEdge; (try dsimp only); (repeat' split) <;> simp
@[simp] theorem State.takeExemptEdge_image0 (i : Input) (l : Level) : (s.takeExemptEdge i l).image0 = s.image0 := by
  unfold State.takeExemptEdge; (try dsimp only); (repeat' split) <;> simp
@[simp] theorem State.takeExemptEdge_image1 (i : Input) (l : Level) : (s.takeExemptEdge i l).image1 = s.image1 := by
  unfold State.takeExemptEdge; (try dsimp only); (repeat' split) <;> simp
@[simp] theorem State.takeExemptEdge_lifetime (i : Input) (l : Level) : (s.takeExemptEdge i l).lifetime = s.lifetime := by
  unfold State.takeExemptEdge; (try dsimp only); (repeat' split) <;> simp
@[simp] theorem State.takeExemptEdge_period (i : Input) (l : Level) : (s.takeExemptEdge i l).period = s.period := by
  unfold State.takeExemptEdge; (try dsimp only); (repeat' split) <;> simp
@[simp] theorem State.takeExemptEdge_history (i : Input) (l : Level) : (s.takeExemptEdge i l).history = s.history := by
  unfold State.takeExemptEdge; (try dsimp only); (repeat' split) <;> simp
@[simp] theorem State.takeExemptEdge_call (i : Input) (l : Level) : (s.takeExemptEdge i l).call = s.call := by
  unfold State.takeExemptEdge; (try dsimp only); (repeat' split) <;> simp
@[simp] theorem State.takeExemptEdge_nv (i : Input) (l : Level) : (s.takeExemptEdge i l).nv = s.nv := by
  unfold State.takeExemptEdge; (try dsimp only); (repeat' split) <;> simp
@[simp] theorem State.takeExemptEdge_restores (i : Input) (l : Level) : (s.takeExemptEdge i l).restores = s.restores := by
  unfold State.takeExemptEdge; (try dsimp only); (repeat' split) <;> simp

@[simp] theorem State.collectorEnds_now : (s.collectorEnds).now = s.now := by
  unfold State.collectorEnds; (try dsimp only); (repeat' split) <;> simp
@[simp] theorem State.collectorEnds_pending : (s.collectorEnds).pending = s.pending := by
  unfold State.collectorEnds; (try dsimp only); (repeat' split) <;> simp
@[simp] theorem State.collectorEnds_coin : (s.collectorEnds).coin = s.coin := by
  unfold State.collectorEnds; (try dsimp only); (repeat' split) <;> simp
@[simp] theorem State.collectorEnds_credit : (s.collectorEnds).credit = s.credit := by
  unfold State.collectorEnds; (try dsimp only); (repeat' split) <;> simp
@[simp] theorem State.collectorEnds_rating : (s.collectorEnds).rating = s.rating := by
  unfold State.collectorEnds; (try dsimp only); (repeat' split) <;> simp
@[simp] theorem State.collectorEnds_line : (s.collectorEnds).line = s.line := by
  unfold State.collectorEnds; (try dsimp only); (repeat' split) <;> simp
@[simp] theorem State.collectorEnds_arbiter : (s.collectorEnds).arbiter = s.arbiter := by
  unfold State.collectorEnds; (try dsimp only); (repeat' split) <;> simp
@[simp] theorem State.collectorEnds_elapsed : (s.collectorEnds).elapsed = s.elapsed := by
  unfold State.collectorEnds; (try dsimp only); (repeat' split) <;> simp
@[simp] theorem State.collectorEnds_centre : (s.collectorEnds).centre = s.centre := by
  unfold State.collectorEnds; (try dsimp only); (repeat' split) <;> simp
@[simp] theorem State.collectorEnds_modem : (s.collectorEnds).modem = s.modem := by
  unfold State.collectorEnds; (try dsimp only); (repeat' split) <;> simp
@[simp] theorem State.collectorEnds_power : (s.collectorEnds).power = s.power := by
  unfold State.collectorEnds; (try dsimp only); (repeat' split) <;> simp
@[simp] theorem State.collectorEnds_clock : (s.collectorEnds).clock = s.clock := by
  unfold State.collectorEnds; (try dsimp only); (repeat' split) <;> simp
@[simp] theorem State.collectorEnds_service : (s.collectorEnds).service = s.service := by
  unfold State.collectorEnds; (try dsimp only); (repeat' split) <;> simp
@[simp] theorem State.collectorEnds_config : (s.collectorEnds).config = s.config := by
  unfold State.collectorEnds; (try dsimp only); (repeat' split) <;> simp
@[simp] theorem State.collectorEnds_image0 : (s.collectorEnds).image0 = s.image0 := by
  unfold State.collectorEnds; (try dsimp only); (repeat' split) <;> simp
@[simp] theorem State.collectorEnds_image1 : (s.collectorEnds).image1 = s.image1 := by
  unfold State.collectorEnds; (try dsimp only); (repeat' split) <;> simp
@[simp] theorem State.collectorEnds_lifetime : (s.collectorEnds).lifetime = s.lifetime := by
  unfold State.collectorEnds; (try dsimp only); (repeat' split) <;> simp
@[simp] theorem State.collectorEnds_period : (s.collectorEnds).period = s.period := by
  unfold State.collectorEnds; (try dsimp only); (repeat' split) <;> simp
@[simp] theorem State.collectorEnds_history : (s.collectorEnds).history = s.history := by
  unfold State.collectorEnds; (try dsimp only); (repeat' split) <;> simp
@[simp] theorem State.collectorEnds_call : (s.collectorEnds).call = s.call := by
  unfold State.collectorEnds; (try dsimp only); (repeat' split) <;> simp
@[simp] theorem State.collectorEnds_nv : (s.collectorEnds).nv = s.nv := by
  unfold State.collectorEnds; (try dsimp only); (repeat' split) <;> simp
@[simp] theorem State.collectorEnds_restores : (s.collectorEnds).restores = s.restores := by
  unfold State.collectorEnds; (try dsimp only); (repeat' split) <;> simp

end Sys2Proof.Machine
end

