-- ==== Sys2Proof/Laws/LedgerOps.lean ====
section
/-!
SUPPORT. What each operation of Machine/LedgerOps.lean leaves alone: one lemma for each field of `State` that it never
touches.  What it does to the fields it touches stands in its definition.
-/

set_option linter.unusedTactic false
set_option linter.unnecessarySeqFocus false
set_option linter.unreachableTactic false

namespace Sys2Proof.Machine

variable (s : State)

@[simp] theorem State.startDrain_now : (s.startDrain).now = s.now := by
  unfold State.startDrain; (try dsimp only); (repeat' split) <;> simp
@[simp] theorem State.startDrain_pending : (s.startDrain).pending = s.pending := by
  unfold State.startDrain; (try dsimp only); (repeat' split) <;> simp
@[simp] theorem State.startDrain_coin : (s.startDrain).coin = s.coin := by
  unfold State.startDrain; (try dsimp only); (repeat' split) <;> simp
@[simp] theorem State.startDrain_credit : (s.startDrain).credit = s.credit := by
  unfold State.startDrain; (try dsimp only); (repeat' split) <;> simp
@[simp] theorem State.startDrain_rating : (s.startDrain).rating = s.rating := by
  unfold State.startDrain; (try dsimp only); (repeat' split) <;> simp
@[simp] theorem State.startDrain_line : (s.startDrain).line = s.line := by
  unfold State.startDrain; (try dsimp only); (repeat' split) <;> simp
@[simp] theorem State.startDrain_arbiter : (s.startDrain).arbiter = s.arbiter := by
  unfold State.startDrain; (try dsimp only); (repeat' split) <;> simp
@[simp] theorem State.startDrain_tamper : (s.startDrain).tamper = s.tamper := by
  unfold State.startDrain; (try dsimp only); (repeat' split) <;> simp
@[simp] theorem State.startDrain_elapsed : (s.startDrain).elapsed = s.elapsed := by
  unfold State.startDrain; (try dsimp only); (repeat' split) <;> simp
@[simp] theorem State.startDrain_centre : (s.startDrain).centre = s.centre := by
  unfold State.startDrain; (try dsimp only); (repeat' split) <;> simp
@[simp] theorem State.startDrain_modem : (s.startDrain).modem = s.modem := by
  unfold State.startDrain; (try dsimp only); (repeat' split) <;> simp
@[simp] theorem State.startDrain_power : (s.startDrain).power = s.power := by
  unfold State.startDrain; (try dsimp only); (repeat' split) <;> simp
@[simp] theorem State.startDrain_clock : (s.startDrain).clock = s.clock := by
  unfold State.startDrain; (try dsimp only); (repeat' split) <;> simp
@[simp] theorem State.startDrain_setPort : (s.startDrain).setPort = s.setPort := by
  unfold State.startDrain; (try dsimp only); (repeat' split) <;> simp
@[simp] theorem State.startDrain_service : (s.startDrain).service = s.service := by
  unfold State.startDrain; (try dsimp only); (repeat' split) <;> simp
@[simp] theorem State.startDrain_config : (s.startDrain).config = s.config := by
  unfold State.startDrain; (try dsimp only); (repeat' split) <;> simp
@[simp] theorem State.startDrain_image0 : (s.startDrain).image0 = s.image0 := by
  unfold State.startDrain; (try dsimp only); (repeat' split) <;> simp
@[simp] theorem State.startDrain_image1 : (s.startDrain).image1 = s.image1 := by
  unfold State.startDrain; (try dsimp only); (repeat' split) <;> simp
@[simp] theorem State.startDrain_lifetime : (s.startDrain).lifetime = s.lifetime := by
  unfold State.startDrain; (try dsimp only); (repeat' split) <;> simp
@[simp] theorem State.startDrain_period : (s.startDrain).period = s.period := by
  unfold State.startDrain; (try dsimp only); (repeat' split) <;> simp
@[simp] theorem State.startDrain_history : (s.startDrain).history = s.history := by
  unfold State.startDrain; (try dsimp only); (repeat' split) <;> simp
@[simp] theorem State.startDrain_call : (s.startDrain).call = s.call := by
  unfold State.startDrain; (try dsimp only); (repeat' split) <;> simp
@[simp] theorem State.startDrain_events : (s.startDrain).events = s.events := by
  unfold State.startDrain; (try dsimp only); (repeat' split) <;> simp
@[simp] theorem State.startDrain_restores : (s.startDrain).restores = s.restores := by
  unfold State.startDrain; (try dsimp only); (repeat' split) <;> simp

@[simp] theorem State.completeWrite_now (w : SectionWrite) : (s.completeWrite w).now = s.now := by
  unfold State.completeWrite; (try dsimp only); (repeat' split) <;> simp
@[simp] theorem State.completeWrite_pending (w : SectionWrite) : (s.completeWrite w).pending = s.pending := by
  unfold State.completeWrite; (try dsimp only); (repeat' split) <;> simp
@[simp] theorem State.completeWrite_coin (w : SectionWrite) : (s.completeWrite w).coin = s.coin := by
  unfold State.completeWrite; (try dsimp only); (repeat' split) <;> simp
@[simp] theorem State.completeWrite_credit (w : SectionWrite) : (s.completeWrite w).credit = s.credit := by
  unfold State.completeWrite; (try dsimp only); (repeat' split) <;> simp
@[simp] theorem State.completeWrite_rating (w : SectionWrite) : (s.completeWrite w).rating = s.rating := by
  unfold State.completeWrite; (try dsimp only); (repeat' split) <;> simp
@[simp] theorem State.completeWrite_line (w : SectionWrite) : (s.completeWrite w).line = s.line := by
  unfold State.completeWrite; (try dsimp only); (repeat' split) <;> simp
@[simp] theorem State.completeWrite_arbiter (w : SectionWrite) : (s.completeWrite w).arbiter = s.arbiter := by
  unfold State.completeWrite; (try dsimp only); (repeat' split) <;> simp
@[simp] theorem State.completeWrite_tamper (w : SectionWrite) : (s.completeWrite w).tamper = s.tamper := by
  unfold State.completeWrite; (try dsimp only); (repeat' split) <;> simp
@[simp] theorem State.completeWrite_elapsed (w : SectionWrite) : (s.completeWrite w).elapsed = s.elapsed := by
  unfold State.completeWrite; (try dsimp only); (repeat' split) <;> simp
@[simp] theorem State.completeWrite_centre (w : SectionWrite) : (s.completeWrite w).centre = s.centre := by
  unfold State.completeWrite; (try dsimp only); (repeat' split) <;> simp
@[simp] theorem State.completeWrite_modem (w : SectionWrite) : (s.completeWrite w).modem = s.modem := by
  unfold State.completeWrite; (try dsimp only); (repeat' split) <;> simp
@[simp] theorem State.completeWrite_power (w : SectionWrite) : (s.completeWrite w).power = s.power := by
  unfold State.completeWrite; (try dsimp only); (repeat' split) <;> simp
@[simp] theorem State.completeWrite_clock (w : SectionWrite) : (s.completeWrite w).clock = s.clock := by
  unfold State.completeWrite; (try dsimp only); (repeat' split) <;> simp
@[simp] theorem State.completeWrite_setPort (w : SectionWrite) : (s.completeWrite w).setPort = s.setPort := by
  unfold State.completeWrite; (try dsimp only); (repeat' split) <;> simp
@[simp] theorem State.completeWrite_service (w : SectionWrite) : (s.completeWrite w).service = s.service := by
  unfold State.completeWrite; (try dsimp only); (repeat' split) <;> simp
@[simp] theorem State.completeWrite_config (w : SectionWrite) : (s.completeWrite w).config = s.config := by
  unfold State.completeWrite; (try dsimp only); (repeat' split) <;> simp
@[simp] theorem State.completeWrite_image0 (w : SectionWrite) : (s.completeWrite w).image0 = s.image0 := by
  unfold State.completeWrite; (try dsimp only); (repeat' split) <;> simp
@[simp] theorem State.completeWrite_image1 (w : SectionWrite) : (s.completeWrite w).image1 = s.image1 := by
  unfold State.completeWrite; (try dsimp only); (repeat' split) <;> simp
@[simp] theorem State.completeWrite_lifetime (w : SectionWrite) : (s.completeWrite w).lifetime = s.lifetime := by
  unfold State.completeWrite; (try dsimp only); (repeat' split) <;> simp
@[simp] theorem State.completeWrite_period (w : SectionWrite) : (s.completeWrite w).period = s.period := by
  unfold State.completeWrite; (try dsimp only); (repeat' split) <;> simp
@[simp] theorem State.completeWrite_history (w : SectionWrite) : (s.completeWrite w).history = s.history := by
  unfold State.completeWrite; (try dsimp only); (repeat' split) <;> simp
@[simp] theorem State.completeWrite_call (w : SectionWrite) : (s.completeWrite w).call = s.call := by
  unfold State.completeWrite; (try dsimp only); (repeat' split) <;> simp
@[simp] theorem State.completeWrite_events (w : SectionWrite) : (s.completeWrite w).events = s.events := by
  unfold State.completeWrite; (try dsimp only); (repeat' split) <;> simp
@[simp] theorem State.completeWrite_restores (w : SectionWrite) : (s.completeWrite w).restores = s.restores := by
  unfold State.completeWrite; (try dsimp only); (repeat' split) <;> simp

end Sys2Proof.Machine
end

