-- ==== Sys2Proof/Laws/ServiceOps.lean ====
section
/-!
SUPPORT. What each operation of Machine/ServiceOps.lean leaves alone: one lemma for each field of `State` that it never
touches.  What it does to the fields it touches stands in its definition.
-/

set_option linter.unusedTactic false
set_option linter.unnecessarySeqFocus false
set_option linter.unreachableTactic false

namespace Sys2Proof.Machine

variable (s : State)

@[simp] theorem State.putReply_now (r : ServiceReply) : (s.putReply r).now = s.now := by
  unfold State.putReply; (try dsimp only); (repeat' split) <;> simp
@[simp] theorem State.putReply_pending (r : ServiceReply) : (s.putReply r).pending = s.pending := by
  unfold State.putReply; (try dsimp only); (repeat' split) <;> simp
@[simp] theorem State.putReply_coin (r : ServiceReply) : (s.putReply r).coin = s.coin := by
  unfold State.putReply; (try dsimp only); (repeat' split) <;> simp
@[simp] theorem State.putReply_credit (r : ServiceReply) : (s.putReply r).credit = s.credit := by
  unfold State.putReply; (try dsimp only); (repeat' split) <;> simp
@[simp] theorem State.putReply_rating (r : ServiceReply) : (s.putReply r).rating = s.rating := by
  unfold State.putReply; (try dsimp only); (repeat' split) <;> simp
@[simp] theorem State.putReply_line (r : ServiceReply) : (s.putReply r).line = s.line := by
  unfold State.putReply; (try dsimp only); (repeat' split) <;> simp
@[simp] theorem State.putReply_arbiter (r : ServiceReply) : (s.putReply r).arbiter = s.arbiter := by
  unfold State.putReply; (try dsimp only); (repeat' split) <;> simp
@[simp] theorem State.putReply_tamper (r : ServiceReply) : (s.putReply r).tamper = s.tamper := by
  unfold State.putReply; (try dsimp only); (repeat' split) <;> simp
@[simp] theorem State.putReply_elapsed (r : ServiceReply) : (s.putReply r).elapsed = s.elapsed := by
  unfold State.putReply; (try dsimp only); (repeat' split) <;> simp
@[simp] theorem State.putReply_centre (r : ServiceReply) : (s.putReply r).centre = s.centre := by
  unfold State.putReply; (try dsimp only); (repeat' split) <;> simp
@[simp] theorem State.putReply_modem (r : ServiceReply) : (s.putReply r).modem = s.modem := by
  unfold State.putReply; (try dsimp only); (repeat' split) <;> simp
@[simp] theorem State.putReply_ledger (r : ServiceReply) : (s.putReply r).ledger = s.ledger := by
  unfold State.putReply; (try dsimp only); (repeat' split) <;> simp
@[simp] theorem State.putReply_power (r : ServiceReply) : (s.putReply r).power = s.power := by
  unfold State.putReply; (try dsimp only); (repeat' split) <;> simp
@[simp] theorem State.putReply_clock (r : ServiceReply) : (s.putReply r).clock = s.clock := by
  unfold State.putReply; (try dsimp only); (repeat' split) <;> simp
@[simp] theorem State.putReply_setPort (r : ServiceReply) : (s.putReply r).setPort = s.setPort := by
  unfold State.putReply; (try dsimp only); (repeat' split) <;> simp
@[simp] theorem State.putReply_config (r : ServiceReply) : (s.putReply r).config = s.config := by
  unfold State.putReply; (try dsimp only); (repeat' split) <;> simp
@[simp] theorem State.putReply_image0 (r : ServiceReply) : (s.putReply r).image0 = s.image0 := by
  unfold State.putReply; (try dsimp only); (repeat' split) <;> simp
@[simp] theorem State.putReply_image1 (r : ServiceReply) : (s.putReply r).image1 = s.image1 := by
  unfold State.putReply; (try dsimp only); (repeat' split) <;> simp
@[simp] theorem State.putReply_lifetime (r : ServiceReply) : (s.putReply r).lifetime = s.lifetime := by
  unfold State.putReply; (try dsimp only); (repeat' split) <;> simp
@[simp] theorem State.putReply_period (r : ServiceReply) : (s.putReply r).period = s.period := by
  unfold State.putReply; (try dsimp only); (repeat' split) <;> simp
@[simp] theorem State.putReply_history (r : ServiceReply) : (s.putReply r).history = s.history := by
  unfold State.putReply; (try dsimp only); (repeat' split) <;> simp
@[simp] theorem State.putReply_call (r : ServiceReply) : (s.putReply r).call = s.call := by
  unfold State.putReply; (try dsimp only); (repeat' split) <;> simp
@[simp] theorem State.putReply_events (r : ServiceReply) : (s.putReply r).events = s.events := by
  unfold State.putReply; (try dsimp only); (repeat' split) <;> simp
@[simp] theorem State.putReply_nv (r : ServiceReply) : (s.putReply r).nv = s.nv := by
  unfold State.putReply; (try dsimp only); (repeat' split) <;> simp
@[simp] theorem State.putReply_restores (r : ServiceReply) : (s.putReply r).restores = s.restores := by
  unfold State.putReply; (try dsimp only); (repeat' split) <;> simp

@[simp] theorem State.answer_now (t : Byte) (c : ServiceCode) (p : List Byte) : (s.answer t c p).now = s.now := by
  unfold State.answer; (try dsimp only); (repeat' split) <;> simp
@[simp] theorem State.answer_pending (t : Byte) (c : ServiceCode) (p : List Byte) : (s.answer t c p).pending = s.pending := by
  unfold State.answer; (try dsimp only); (repeat' split) <;> simp
@[simp] theorem State.answer_coin (t : Byte) (c : ServiceCode) (p : List Byte) : (s.answer t c p).coin = s.coin := by
  unfold State.answer; (try dsimp only); (repeat' split) <;> simp
@[simp] theorem State.answer_credit (t : Byte) (c : ServiceCode) (p : List Byte) : (s.answer t c p).credit = s.credit := by
  unfold State.answer; (try dsimp only); (repeat' split) <;> simp
@[simp] theorem State.answer_rating (t : Byte) (c : ServiceCode) (p : List Byte) : (s.answer t c p).rating = s.rating := by
  unfold State.answer; (try dsimp only); (repeat' split) <;> simp
@[simp] theorem State.answer_line (t : Byte) (c : ServiceCode) (p : List Byte) : (s.answer t c p).line = s.line := by
  unfold State.answer; (try dsimp only); (repeat' split) <;> simp
@[simp] theorem State.answer_arbiter (t : Byte) (c : ServiceCode) (p : List Byte) : (s.answer t c p).arbiter = s.arbiter := by
  unfold State.answer; (try dsimp only); (repeat' split) <;> simp
@[simp] theorem State.answer_tamper (t : Byte) (c : ServiceCode) (p : List Byte) : (s.answer t c p).tamper = s.tamper := by
  unfold State.answer; (try dsimp only); (repeat' split) <;> simp
@[simp] theorem State.answer_elapsed (t : Byte) (c : ServiceCode) (p : List Byte) : (s.answer t c p).elapsed = s.elapsed := by
  unfold State.answer; (try dsimp only); (repeat' split) <;> simp
@[simp] theorem State.answer_centre (t : Byte) (c : ServiceCode) (p : List Byte) : (s.answer t c p).centre = s.centre := by
  unfold State.answer; (try dsimp only); (repeat' split) <;> simp
@[simp] theorem State.answer_modem (t : Byte) (c : ServiceCode) (p : List Byte) : (s.answer t c p).modem = s.modem := by
  unfold State.answer; (try dsimp only); (repeat' split) <;> simp
@[simp] theorem State.answer_ledger (t : Byte) (c : ServiceCode) (p : List Byte) : (s.answer t c p).ledger = s.ledger := by
  unfold State.answer; (try dsimp only); (repeat' split) <;> simp
@[simp] theorem State.answer_power (t : Byte) (c : ServiceCode) (p : List Byte) : (s.answer t c p).power = s.power := by
  unfold State.answer; (try dsimp only); (repeat' split) <;> simp
@[simp] theorem State.answer_clock (t : Byte) (c : ServiceCode) (p : List Byte) : (s.answer t c p).clock = s.clock := by
  unfold State.answer; (try dsimp only); (repeat' split) <;> simp
@[simp] theorem State.answer_setPort (t : Byte) (c : ServiceCode) (p : List Byte) : (s.answer t c p).setPort = s.setPort := by
  unfold State.answer; (try dsimp only); (repeat' split) <;> simp
@[simp] theorem State.answer_config (t : Byte) (c : ServiceCode) (p : List Byte) : (s.answer t c p).config = s.config := by
  unfold State.answer; (try dsimp only); (repeat' split) <;> simp
@[simp] theorem State.answer_image0 (t : Byte) (c : ServiceCode) (p : List Byte) : (s.answer t c p).image0 = s.image0 := by
  unfold State.answer; (try dsimp only); (repeat' split) <;> simp
@[simp] theorem State.answer_image1 (t : Byte) (c : ServiceCode) (p : List Byte) : (s.answer t c p).image1 = s.image1 := by
  unfold State.answer; (try dsimp only); (repeat' split) <;> simp
@[simp] theorem State.answer_lifetime (t : Byte) (c : ServiceCode) (p : List Byte) : (s.answer t c p).lifetime = s.lifetime := by
  unfold State.answer; (try dsimp only); (repeat' split) <;> simp
@[simp] theorem State.answer_period (t : Byte) (c : ServiceCode) (p : List Byte) : (s.answer t c p).period = s.period := by
  unfold State.answer; (try dsimp only); (repeat' split) <;> simp
@[simp] theorem State.answer_history (t : Byte) (c : ServiceCode) (p : List Byte) : (s.answer t c p).history = s.history := by
  unfold State.answer; (try dsimp only); (repeat' split) <;> simp
@[simp] theorem State.answer_call (t : Byte) (c : ServiceCode) (p : List Byte) : (s.answer t c p).call = s.call := by
  unfold State.answer; (try dsimp only); (repeat' split) <;> simp
@[simp] theorem State.answer_events (t : Byte) (c : ServiceCode) (p : List Byte) : (s.answer t c p).events = s.events := by
  unfold State.answer; (try dsimp only); (repeat' split) <;> simp
@[simp] theorem State.answer_nv (t : Byte) (c : ServiceCode) (p : List Byte) : (s.answer t c p).nv = s.nv := by
  unfold State.answer; (try dsimp only); (repeat' split) <;> simp
@[simp] theorem State.answer_restores (t : Byte) (c : ServiceCode) (p : List Byte) : (s.answer t c p).restores = s.restores := by
  unfold State.answer; (try dsimp only); (repeat' split) <;> simp

@[simp] theorem State.restartSession_now : (s.restartSession).now = s.now := by
  unfold State.restartSession; (try dsimp only); (repeat' split) <;> simp
@[simp] theorem State.restartSession_pending : (s.restartSession).pending = s.pending := by
  unfold State.restartSession; (try dsimp only); (repeat' split) <;> simp
@[simp] theorem State.restartSession_coin : (s.restartSession).coin = s.coin := by
  unfold State.restartSession; (try dsimp only); (repeat' split) <;> simp
@[simp] theorem State.restartSession_credit : (s.restartSession).credit = s.credit := by
  unfold State.restartSession; (try dsimp only); (repeat' split) <;> simp
@[simp] theorem State.restartSession_rating : (s.restartSession).rating = s.rating := by
  unfold State.restartSession; (try dsimp only); (repeat' split) <;> simp
@[simp] theorem State.restartSession_line : (s.restartSession).line = s.line := by
  unfold State.restartSession; (try dsimp only); (repeat' split) <;> simp
@[simp] theorem State.restartSession_arbiter : (s.restartSession).arbiter = s.arbiter := by
  unfold State.restartSession; (try dsimp only); (repeat' split) <;> simp
@[simp] theorem State.restartSession_tamper : (s.restartSession).tamper = s.tamper := by
  unfold State.restartSession; (try dsimp only); (repeat' split) <;> simp
@[simp] theorem State.restartSession_elapsed : (s.restartSession).elapsed = s.elapsed := by
  unfold State.restartSession; (try dsimp only); (repeat' split) <;> simp
@[simp] theorem State.restartSession_centre : (s.restartSession).centre = s.centre := by
  unfold State.restartSession; (try dsimp only); (repeat' split) <;> simp
@[simp] theorem State.restartSession_modem : (s.restartSession).modem = s.modem := by
  unfold State.restartSession; (try dsimp only); (repeat' split) <;> simp
@[simp] theorem State.restartSession_ledger : (s.restartSession).ledger = s.ledger := by
  unfold State.restartSession; (try dsimp only); (repeat' split) <;> simp
@[simp] theorem State.restartSession_power : (s.restartSession).power = s.power := by
  unfold State.restartSession; (try dsimp only); (repeat' split) <;> simp
@[simp] theorem State.restartSession_clock : (s.restartSession).clock = s.clock := by
  unfold State.restartSession; (try dsimp only); (repeat' split) <;> simp
@[simp] theorem State.restartSession_setPort : (s.restartSession).setPort = s.setPort := by
  unfold State.restartSession; (try dsimp only); (repeat' split) <;> simp
@[simp] theorem State.restartSession_config : (s.restartSession).config = s.config := by
  unfold State.restartSession; (try dsimp only); (repeat' split) <;> simp
@[simp] theorem State.restartSession_image0 : (s.restartSession).image0 = s.image0 := by
  unfold State.restartSession; (try dsimp only); (repeat' split) <;> simp
@[simp] theorem State.restartSession_image1 : (s.restartSession).image1 = s.image1 := by
  unfold State.restartSession; (try dsimp only); (repeat' split) <;> simp
@[simp] theorem State.restartSession_lifetime : (s.restartSession).lifetime = s.lifetime := by
  unfold State.restartSession; (try dsimp only); (repeat' split) <;> simp
@[simp] theorem State.restartSession_period : (s.restartSession).period = s.period := by
  unfold State.restartSession; (try dsimp only); (repeat' split) <;> simp
@[simp] theorem State.restartSession_history : (s.restartSession).history = s.history := by
  unfold State.restartSession; (try dsimp only); (repeat' split) <;> simp
@[simp] theorem State.restartSession_call : (s.restartSession).call = s.call := by
  unfold State.restartSession; (try dsimp only); (repeat' split) <;> simp
@[simp] theorem State.restartSession_events : (s.restartSession).events = s.events := by
  unfold State.restartSession; (try dsimp only); (repeat' split) <;> simp
@[simp] theorem State.restartSession_nv : (s.restartSession).nv = s.nv := by
  unfold State.restartSession; (try dsimp only); (repeat' split) <;> simp
@[simp] theorem State.restartSession_restores : (s.restartSession).restores = s.restores := by
  unfold State.restartSession; (try dsimp only); (repeat' split) <;> simp

@[simp] theorem State.openCollector_now (i : Fin 8) : (s.openCollector i).now = s.now := by
  unfold State.openCollector; (try dsimp only); (repeat' split) <;> simp
@[simp] theorem State.openCollector_pending (i : Fin 8) : (s.openCollector i).pending = s.pending := by
  unfold State.openCollector; (try dsimp only); (repeat' split) <;> simp
@[simp] theorem State.openCollector_coin (i : Fin 8) : (s.openCollector i).coin = s.coin := by
  unfold State.openCollector; (try dsimp only); (repeat' split) <;> simp
@[simp] theorem State.openCollector_credit (i : Fin 8) : (s.openCollector i).credit = s.credit := by
  unfold State.openCollector; (try dsimp only); (repeat' split) <;> simp
@[simp] theorem State.openCollector_rating (i : Fin 8) : (s.openCollector i).rating = s.rating := by
  unfold State.openCollector; (try dsimp only); (repeat' split) <;> simp
@[simp] theorem State.openCollector_line (i : Fin 8) : (s.openCollector i).line = s.line := by
  unfold State.openCollector; (try dsimp only); (repeat' split) <;> simp
@[simp] theorem State.openCollector_arbiter (i : Fin 8) : (s.openCollector i).arbiter = s.arbiter := by
  unfold State.openCollector; (try dsimp only); (repeat' split) <;> simp
@[simp] theorem State.openCollector_elapsed (i : Fin 8) : (s.openCollector i).elapsed = s.elapsed := by
  unfold State.openCollector; (try dsimp only); (repeat' split) <;> simp
@[simp] theorem State.openCollector_centre (i : Fin 8) : (s.openCollector i).centre = s.centre := by
  unfold State.openCollector; (try dsimp only); (repeat' split) <;> simp
@[simp] theorem State.openCollector_modem (i : Fin 8) : (s.openCollector i).modem = s.modem := by
  unfold State.openCollector; (try dsimp only); (repeat' split) <;> simp
@[simp] theorem State.openCollector_power (i : Fin 8) : (s.openCollector i).power = s.power := by
  unfold State.openCollector; (try dsimp only); (repeat' split) <;> simp
@[simp] theorem State.openCollector_clock (i : Fin 8) : (s.openCollector i).clock = s.clock := by
  unfold State.openCollector; (try dsimp only); (repeat' split) <;> simp
@[simp] theorem State.openCollector_setPort (i : Fin 8) : (s.openCollector i).setPort = s.setPort := by
  unfold State.openCollector; (try dsimp only); (repeat' split) <;> simp
@[simp] theorem State.openCollector_image0 (i : Fin 8) : (s.openCollector i).image0 = s.image0 := by
  unfold State.openCollector; (try dsimp only); (repeat' split) <;> simp
@[simp] theorem State.openCollector_image1 (i : Fin 8) : (s.openCollector i).image1 = s.image1 := by
  unfold State.openCollector; (try dsimp only); (repeat' split) <;> simp
@[simp] theorem State.openCollector_lifetime (i : Fin 8) : (s.openCollector i).lifetime = s.lifetime := by
  unfold State.openCollector; (try dsimp only); (repeat' split) <;> simp
@[simp] theorem State.openCollector_period (i : Fin 8) : (s.openCollector i).period = s.period := by
  unfold State.openCollector; (try dsimp only); (repeat' split) <;> simp
@[simp] theorem State.openCollector_history (i : Fin 8) : (s.openCollector i).history = s.history := by
  unfold State.openCollector; (try dsimp only); (repeat' split) <;> simp
@[simp] theorem State.openCollector_call (i : Fin 8) : (s.openCollector i).call = s.call := by
  unfold State.openCollector; (try dsimp only); (repeat' split) <;> simp
@[simp] theorem State.openCollector_events (i : Fin 8) : (s.openCollector i).events = s.events := by
  unfold State.openCollector; (try dsimp only); (repeat' split) <;> simp
@[simp] theorem State.openCollector_nv (i : Fin 8) : (s.openCollector i).nv = s.nv := by
  unfold State.openCollector; (try dsimp only); (repeat' split) <;> simp
@[simp] theorem State.openCollector_restores (i : Fin 8) : (s.openCollector i).restores = s.restores := by
  unfold State.openCollector; (try dsimp only); (repeat' split) <;> simp

@[simp] theorem State.failLogin_now : (s.failLogin).now = s.now := by
  unfold State.failLogin; (try dsimp only); (repeat' split) <;> simp
@[simp] theorem State.failLogin_pending : (s.failLogin).pending = s.pending := by
  unfold State.failLogin; (try dsimp only); (repeat' split) <;> simp
@[simp] theorem State.failLogin_coin : (s.failLogin).coin = s.coin := by
  unfold State.failLogin; (try dsimp only); (repeat' split) <;> simp
@[simp] theorem State.failLogin_credit : (s.failLogin).credit = s.credit := by
  unfold State.failLogin; (try dsimp only); (repeat' split) <;> simp
@[simp] theorem State.failLogin_rating : (s.failLogin).rating = s.rating := by
  unfold State.failLogin; (try dsimp only); (repeat' split) <;> simp
@[simp] theorem State.failLogin_line : (s.failLogin).line = s.line := by
  unfold State.failLogin; (try dsimp only); (repeat' split) <;> simp
@[simp] theorem State.failLogin_arbiter : (s.failLogin).arbiter = s.arbiter := by
  unfold State.failLogin; (try dsimp only); (repeat' split) <;> simp
@[simp] theorem State.failLogin_tamper : (s.failLogin).tamper = s.tamper := by
  unfold State.failLogin; (try dsimp only); (repeat' split) <;> simp
@[simp] theorem State.failLogin_elapsed : (s.failLogin).elapsed = s.elapsed := by
  unfold State.failLogin; (try dsimp only); (repeat' split) <;> simp
@[simp] theorem State.failLogin_centre : (s.failLogin).centre = s.centre := by
  unfold State.failLogin; (try dsimp only); (repeat' split) <;> simp
@[simp] theorem State.failLogin_modem : (s.failLogin).modem = s.modem := by
  unfold State.failLogin; (try dsimp only); (repeat' split) <;> simp
@[simp] theorem State.failLogin_power : (s.failLogin).power = s.power := by
  unfold State.failLogin; (try dsimp only); (repeat' split) <;> simp
@[simp] theorem State.failLogin_clock : (s.failLogin).clock = s.clock := by
  unfold State.failLogin; (try dsimp only); (repeat' split) <;> simp
@[simp] theorem State.failLogin_setPort : (s.failLogin).setPort = s.setPort := by
  unfold State.failLogin; (try dsimp only); (repeat' split) <;> simp
@[simp] theorem State.failLogin_image0 : (s.failLogin).image0 = s.image0 := by
  unfold State.failLogin; (try dsimp only); (repeat' split) <;> simp
@[simp] theorem State.failLogin_image1 : (s.failLogin).image1 = s.image1 := by
  unfold State.failLogin; (try dsimp only); (repeat' split) <;> simp
@[simp] theorem State.failLogin_lifetime : (s.failLogin).lifetime = s.lifetime := by
  unfold State.failLogin; (try dsimp only); (repeat' split) <;> simp
@[simp] theorem State.failLogin_period : (s.failLogin).period = s.period := by
  unfold State.failLogin; (try dsimp only); (repeat' split) <;> simp
@[simp] theorem State.failLogin_history : (s.failLogin).history = s.history := by
  unfold State.failLogin; (try dsimp only); (repeat' split) <;> simp
@[simp] theorem State.failLogin_call : (s.failLogin).call = s.call := by
  unfold State.failLogin; (try dsimp only); (repeat' split) <;> simp
@[simp] theorem State.failLogin_nv : (s.failLogin).nv = s.nv := by
  unfold State.failLogin; (try dsimp only); (repeat' split) <;> simp
@[simp] theorem State.failLogin_restores : (s.failLogin).restores = s.restores := by
  unfold State.failLogin; (try dsimp only); (repeat' split) <;> simp

@[simp] theorem State.login_now (i : Fin 8) (c : Code) : (s.login i c).now = s.now := by
  unfold State.login; (try dsimp only); (repeat' split) <;> simp
@[simp] theorem State.login_pending (i : Fin 8) (c : Code) : (s.login i c).pending = s.pending := by
  unfold State.login; (try dsimp only); (repeat' split) <;> simp
@[simp] theorem State.login_coin (i : Fin 8) (c : Code) : (s.login i c).coin = s.coin := by
  unfold State.login; (try dsimp only); (repeat' split) <;> simp
@[simp] theorem State.login_credit (i : Fin 8) (c : Code) : (s.login i c).credit = s.credit := by
  unfold State.login; (try dsimp only); (repeat' split) <;> simp
@[simp] theorem State.login_rating (i : Fin 8) (c : Code) : (s.login i c).rating = s.rating := by
  unfold State.login; (try dsimp only); (repeat' split) <;> simp
@[simp] theorem State.login_line (i : Fin 8) (c : Code) : (s.login i c).line = s.line := by
  unfold State.login; (try dsimp only); (repeat' split) <;> simp
@[simp] theorem State.login_arbiter (i : Fin 8) (c : Code) : (s.login i c).arbiter = s.arbiter := by
  unfold State.login; (try dsimp only); (repeat' split) <;> simp
@[simp] theorem State.login_elapsed (i : Fin 8) (c : Code) : (s.login i c).elapsed = s.elapsed := by
  unfold State.login; (try dsimp only); (repeat' split) <;> simp
@[simp] theorem State.login_centre (i : Fin 8) (c : Code) : (s.login i c).centre = s.centre := by
  unfold State.login; (try dsimp only); (repeat' split) <;> simp
@[simp] theorem State.login_modem (i : Fin 8) (c : Code) : (s.login i c).modem = s.modem := by
  unfold State.login; (try dsimp only); (repeat' split) <;> simp
@[simp] theorem State.login_power (i : Fin 8) (c : Code) : (s.login i c).power = s.power := by
  unfold State.login; (try dsimp only); (repeat' split) <;> simp
@[simp] theorem State.login_clock (i : Fin 8) (c : Code) : (s.login i c).clock = s.clock := by
  unfold State.login; (try dsimp only); (repeat' split) <;> simp
@[simp] theorem State.login_setPort (i : Fin 8) (c : Code) : (s.login i c).setPort = s.setPort := by
  unfold State.login; (try dsimp only); (repeat' split) <;> simp
@[simp] theorem State.login_image0 (i : Fin 8) (c : Code) : (s.login i c).image0 = s.image0 := by
  unfold State.login; (try dsimp only); (repeat' split) <;> simp
@[simp] theorem State.login_image1 (i : Fin 8) (c : Code) : (s.login i c).image1 = s.image1 := by
  unfold State.login; (try dsimp only); (repeat' split) <;> simp
@[simp] theorem State.login_lifetime (i : Fin 8) (c : Code) : (s.login i c).lifetime = s.lifetime := by
  unfold State.login; (try dsimp only); (repeat' split) <;> simp
@[simp] theorem State.login_period (i : Fin 8) (c : Code) : (s.login i c).period = s.period := by
  unfold State.login; (try dsimp only); (repeat' split) <;> simp
@[simp] theorem State.login_history (i : Fin 8) (c : Code) : (s.login i c).history = s.history := by
  unfold State.login; (try dsimp only); (repeat' split) <;> simp
@[simp] theorem State.login_call (i : Fin 8) (c : Code) : (s.login i c).call = s.call := by
  unfold State.login; (try dsimp only); (repeat' split) <;> simp
@[simp] theorem State.login_nv (i : Fin 8) (c : Code) : (s.login i c).nv = s.nv := by
  unfold State.login; (try dsimp only); (repeat' split) <;> simp
@[simp] theorem State.login_restores (i : Fin 8) (c : Code) : (s.login i c).restores = s.restores := by
  unfold State.login; (try dsimp only); (repeat' split) <;> simp

@[simp] theorem State.endSession_now : (s.endSession).now = s.now := by
  unfold State.endSession; (try dsimp only); (repeat' split) <;> simp
@[simp] theorem State.endSession_pending : (s.endSession).pending = s.pending := by
  unfold State.endSession; (try dsimp only); (repeat' split) <;> simp
@[simp] theorem State.endSession_coin : (s.endSession).coin = s.coin := by
  unfold State.endSession; (try dsimp only); (repeat' split) <;> simp
@[simp] theorem State.endSession_credit : (s.endSession).credit = s.credit := by
  unfold State.endSession; (try dsimp only); (repeat' split) <;> simp
@[simp] theorem State.endSession_rating : (s.endSession).rating = s.rating := by
  unfold State.endSession; (try dsimp only); (repeat' split) <;> simp
@[simp] theorem State.endSession_line : (s.endSession).line = s.line := by
  unfold State.endSession; (try dsimp only); (repeat' split) <;> simp
@[simp] theorem State.endSession_arbiter : (s.endSession).arbiter = s.arbiter := by
  unfold State.endSession; (try dsimp only); (repeat' split) <;> simp
@[simp] theorem State.endSession_elapsed : (s.endSession).elapsed = s.elapsed := by
  unfold State.endSession; (try dsimp only); (repeat' split) <;> simp
@[simp] theorem State.endSession_centre : (s.endSession).centre = s.centre := by
  unfold State.endSession; (try dsimp only); (repeat' split) <;> simp
@[simp] theorem State.endSession_modem : (s.endSession).modem = s.modem := by
  unfold State.endSession; (try dsimp only); (repeat' split) <;> simp
@[simp] theorem State.endSession_power : (s.endSession).power = s.power := by
  unfold State.endSession; (try dsimp only); (repeat' split) <;> simp
@[simp] theorem State.endSession_clock : (s.endSession).clock = s.clock := by
  unfold State.endSession; (try dsimp only); (repeat' split) <;> simp
@[simp] theorem State.endSession_config : (s.endSession).config = s.config := by
  unfold State.endSession; (try dsimp only); (repeat' split) <;> simp
@[simp] theorem State.endSession_image0 : (s.endSession).image0 = s.image0 := by
  unfold State.endSession; (try dsimp only); (repeat' split) <;> simp
@[simp] theorem State.endSession_image1 : (s.endSession).image1 = s.image1 := by
  unfold State.endSession; (try dsimp only); (repeat' split) <;> simp
@[simp] theorem State.endSession_lifetime : (s.endSession).lifetime = s.lifetime := by
  unfold State.endSession; (try dsimp only); (repeat' split) <;> simp
@[simp] theorem State.endSession_period : (s.endSession).period = s.period := by
  unfold State.endSession; (try dsimp only); (repeat' split) <;> simp
@[simp] theorem State.endSession_history : (s.endSession).history = s.history := by
  unfold State.endSession; (try dsimp only); (repeat' split) <;> simp
@[simp] theorem State.endSession_call : (s.endSession).call = s.call := by
  unfold State.endSession; (try dsimp only); (repeat' split) <;> simp
@[simp] theorem State.endSession_nv : (s.endSession).nv = s.nv := by
  unfold State.endSession; (try dsimp only); (repeat' split) <;> simp
@[simp] theorem State.endSession_restores : (s.endSession).restores = s.restores := by
  unfold State.endSession; (try dsimp only); (repeat' split) <;> simp

@[simp] theorem State.dropHeldClose_now : (s.dropHeldClose).now = s.now := by
  unfold State.dropHeldClose; (try dsimp only); (repeat' split) <;> simp
@[simp] theorem State.dropHeldClose_pending : (s.dropHeldClose).pending = s.pending := by
  unfold State.dropHeldClose; (try dsimp only); (repeat' split) <;> simp
@[simp] theorem State.dropHeldClose_coin : (s.dropHeldClose).coin = s.coin := by
  unfold State.dropHeldClose; (try dsimp only); (repeat' split) <;> simp
@[simp] theorem State.dropHeldClose_credit : (s.dropHeldClose).credit = s.credit := by
  unfold State.dropHeldClose; (try dsimp only); (repeat' split) <;> simp
@[simp] theorem State.dropHeldClose_rating : (s.dropHeldClose).rating = s.rating := by
  unfold State.dropHeldClose; (try dsimp only); (repeat' split) <;> simp
@[simp] theorem State.dropHeldClose_line : (s.dropHeldClose).line = s.line := by
  unfold State.dropHeldClose; (try dsimp only); (repeat' split) <;> simp
@[simp] theorem State.dropHeldClose_arbiter : (s.dropHeldClose).arbiter = s.arbiter := by
  unfold State.dropHeldClose; (try dsimp only); (repeat' split) <;> simp
@[simp] theorem State.dropHeldClose_tamper : (s.dropHeldClose).tamper = s.tamper := by
  unfold State.dropHeldClose; (try dsimp only); (repeat' split) <;> simp
@[simp] theorem State.dropHeldClose_elapsed : (s.dropHeldClose).elapsed = s.elapsed := by
  unfold State.dropHeldClose; (try dsimp only); (repeat' split) <;> simp
@[simp] theorem State.dropHeldClose_centre : (s.dropHeldClose).centre = s.centre := by
  unfold State.dropHeldClose; (try dsimp only); (repeat' split) <;> simp
@[simp] theorem State.dropHeldClose_modem : (s.dropHeldClose).modem = s.modem := by
  unfold State.dropHeldClose; (try dsimp only); (repeat' split) <;> simp
@[simp] theorem State.dropHeldClose_ledger : (s.dropHeldClose).ledger = s.ledger := by
  unfold State.dropHeldClose; (try dsimp only); (repeat' split) <;> simp
@[simp] theorem State.dropHeldClose_power : (s.dropHeldClose).power = s.power := by
  unfold State.dropHeldClose; (try dsimp only); (repeat' split) <;> simp
@[simp] theorem State.dropHeldClose_clock : (s.dropHeldClose).clock = s.clock := by
  unfold State.dropHeldClose; (try dsimp only); (repeat' split) <;> simp
@[simp] theorem State.dropHeldClose_setPort : (s.dropHeldClose).setPort = s.setPort := by
  unfold State.dropHeldClose; (try dsimp only); (repeat' split) <;> simp
@[simp] theorem State.dropHeldClose_config : (s.dropHeldClose).config = s.config := by
  unfold State.dropHeldClose; (try dsimp only); (repeat' split) <;> simp
@[simp] theorem State.dropHeldClose_image0 : (s.dropHeldClose).image0 = s.image0 := by
  unfold State.dropHeldClose; (try dsimp only); (repeat' split) <;> simp
@[simp] theorem State.dropHeldClose_image1 : (s.dropHeldClose).image1 = s.image1 := by
  unfold State.dropHeldClose; (try dsimp only); (repeat' split) <;> simp
@[simp] theorem State.dropHeldClose_lifetime : (s.dropHeldClose).lifetime = s.lifetime := by
  unfold State.dropHeldClose; (try dsimp only); (repeat' split) <;> simp
@[simp] theorem State.dropHeldClose_period : (s.dropHeldClose).period = s.period := by
  unfold State.dropHeldClose; (try dsimp only); (repeat' split) <;> simp
@[simp] theorem State.dropHeldClose_history : (s.dropHeldClose).history = s.history := by
  unfold State.dropHeldClose; (try dsimp only); (repeat' split) <;> simp
@[simp] theorem State.dropHeldClose_call : (s.dropHeldClose).call = s.call := by
  unfold State.dropHeldClose; (try dsimp only); (repeat' split) <;> simp
@[simp] theorem State.dropHeldClose_events : (s.dropHeldClose).events = s.events := by
  unfold State.dropHeldClose; (try dsimp only); (repeat' split) <;> simp
@[simp] theorem State.dropHeldClose_nv : (s.dropHeldClose).nv = s.nv := by
  unfold State.dropHeldClose; (try dsimp only); (repeat' split) <;> simp
@[simp] theorem State.dropHeldClose_restores : (s.dropHeldClose).restores = s.restores := by
  unfold State.dropHeldClose; (try dsimp only); (repeat' split) <;> simp

@[simp] theorem State.zeroBox_now : (s.zeroBox).now = s.now := by
  unfold State.zeroBox; (try dsimp only); (repeat' split) <;> simp
@[simp] theorem State.zeroBox_pending : (s.zeroBox).pending = s.pending := by
  unfold State.zeroBox; (try dsimp only); (repeat' split) <;> simp
@[simp] theorem State.zeroBox_coin : (s.zeroBox).coin = s.coin := by
  unfold State.zeroBox; (try dsimp only); (repeat' split) <;> simp
@[simp] theorem State.zeroBox_credit : (s.zeroBox).credit = s.credit := by
  unfold State.zeroBox; (try dsimp only); (repeat' split) <;> simp
@[simp] theorem State.zeroBox_arbiter : (s.zeroBox).arbiter = s.arbiter := by
  unfold State.zeroBox; (try dsimp only); (repeat' split) <;> simp
@[simp] theorem State.zeroBox_elapsed : (s.zeroBox).elapsed = s.elapsed := by
  unfold State.zeroBox; (try dsimp only); (repeat' split) <;> simp
@[simp] theorem State.zeroBox_centre : (s.zeroBox).centre = s.centre := by
  unfold State.zeroBox; (try dsimp only); (repeat' split) <;> simp
@[simp] theorem State.zeroBox_modem : (s.zeroBox).modem = s.modem := by
  unfold State.zeroBox; (try dsimp only); (repeat' split) <;> simp
@[simp] theorem State.zeroBox_power : (s.zeroBox).power = s.power := by
  unfold State.zeroBox; (try dsimp only); (repeat' split) <;> simp
@[simp] theorem State.zeroBox_clock : (s.zeroBox).clock = s.clock := by
  unfold State.zeroBox; (try dsimp only); (repeat' split) <;> simp
@[simp] theorem State.zeroBox_service : (s.zeroBox).service = s.service := by
  unfold State.zeroBox; (try dsimp only); (repeat' split) <;> simp
@[simp] theorem State.zeroBox_image0 : (s.zeroBox).image0 = s.image0 := by
  unfold State.zeroBox; (try dsimp only); (repeat' split) <;> simp
@[simp] theorem State.zeroBox_image1 : (s.zeroBox).image1 = s.image1 := by
  unfold State.zeroBox; (try dsimp only); (repeat' split) <;> simp
@[simp] theorem State.zeroBox_lifetime : (s.zeroBox).lifetime = s.lifetime := by
  unfold State.zeroBox; (try dsimp only); (repeat' split) <;> simp
@[simp] theorem State.zeroBox_period : (s.zeroBox).period = s.period := by
  unfold State.zeroBox; (try dsimp only); (repeat' split) <;> simp
@[simp] theorem State.zeroBox_history : (s.zeroBox).history = s.history := by
  unfold State.zeroBox; (try dsimp only); (repeat' split) <;> simp
@[simp] theorem State.zeroBox_nv : (s.zeroBox).nv = s.nv := by
  unfold State.zeroBox; (try dsimp only); (repeat' split) <;> simp
@[simp] theorem State.zeroBox_restores : (s.zeroBox).restores = s.restores := by
  unfold State.zeroBox; (try dsimp only); (repeat' split) <;> simp

@[simp] theorem State.carryOutClose_now (i : Fin 8) : (s.carryOutClose i).now = s.now := by
  unfold State.carryOutClose; (try dsimp only); (repeat' split) <;> simp
@[simp] theorem State.carryOutClose_pending (i : Fin 8) : (s.carryOutClose i).pending = s.pending := by
  unfold State.carryOutClose; (try dsimp only); (repeat' split) <;> simp
@[simp] theorem State.carryOutClose_coin (i : Fin 8) : (s.carryOutClose i).coin = s.coin := by
  unfold State.carryOutClose; (try dsimp only); (repeat' split) <;> simp
@[simp] theorem State.carryOutClose_credit (i : Fin 8) : (s.carryOutClose i).credit = s.credit := by
  unfold State.carryOutClose; (try dsimp only); (repeat' split) <;> simp
@[simp] theorem State.carryOutClose_arbiter (i : Fin 8) : (s.carryOutClose i).arbiter = s.arbiter := by
  unfold State.carryOutClose; (try dsimp only); (repeat' split) <;> simp
@[simp] theorem State.carryOutClose_elapsed (i : Fin 8) : (s.carryOutClose i).elapsed = s.elapsed := by
  unfold State.carryOutClose; (try dsimp only); (repeat' split) <;> simp
@[simp] theorem State.carryOutClose_centre (i : Fin 8) : (s.carryOutClose i).centre = s.centre := by
  unfold State.carryOutClose; (try dsimp only); (repeat' split) <;> simp
@[simp] theorem State.carryOutClose_modem (i : Fin 8) : (s.carryOutClose i).modem = s.modem := by
  unfold State.carryOutClose; (try dsimp only); (repeat' split) <;> simp
@[simp] theorem State.carryOutClose_power (i : Fin 8) : (s.carryOutClose i).power = s.power := by
  unfold State.carryOutClose; (try dsimp only); (repeat' split) <;> simp
@[simp] theorem State.carryOutClose_clock (i : Fin 8) : (s.carryOutClose i).clock = s.clock := by
  unfold State.carryOutClose; (try dsimp only); (repeat' split) <;> simp
@[simp] theorem State.carryOutClose_image0 (i : Fin 8) : (s.carryOutClose i).image0 = s.image0 := by
  unfold State.carryOutClose; (try dsimp only); (repeat' split) <;> simp
@[simp] theorem State.carryOutClose_image1 (i : Fin 8) : (s.carryOutClose i).image1 = s.image1 := by
  unfold State.carryOutClose; (try dsimp only); (repeat' split) <;> simp
@[simp] theorem State.carryOutClose_lifetime (i : Fin 8) : (s.carryOutClose i).lifetime = s.lifetime := by
  unfold State.carryOutClose; (try dsimp only); (repeat' split) <;> simp
@[simp] theorem State.carryOutClose_nv (i : Fin 8) : (s.carryOutClose i).nv = s.nv := by
  unfold State.carryOutClose; (try dsimp only); (repeat' split) <;> simp
@[simp] theorem State.carryOutClose_restores (i : Fin 8) : (s.carryOutClose i).restores = s.restores := by
  unfold State.carryOutClose; (try dsimp only); (repeat' split) <;> simp

@[simp] theorem State.tryClose_now : (s.tryClose).now = s.now := by
  unfold State.tryClose; (try dsimp only); (repeat' split) <;> simp
@[simp] theorem State.tryClose_pending : (s.tryClose).pending = s.pending := by
  unfold State.tryClose; (try dsimp only); (repeat' split) <;> simp
@[simp] theorem State.tryClose_coin : (s.tryClose).coin = s.coin := by
  unfold State.tryClose; (try dsimp only); (repeat' split) <;> simp
@[simp] theorem State.tryClose_credit : (s.tryClose).credit = s.credit := by
  unfold State.tryClose; (try dsimp only); (repeat' split) <;> simp
@[simp] theorem State.tryClose_arbiter : (s.tryClose).arbiter = s.arbiter := by
  unfold State.tryClose; (try dsimp only); (repeat' split) <;> simp
@[simp] theorem State.tryClose_elapsed : (s.tryClose).elapsed = s.elapsed := by
  unfold State.tryClose; (try dsimp only); (repeat' split) <;> simp
@[simp] theorem State.tryClose_centre : (s.tryClose).centre = s.centre := by
  unfold State.tryClose; (try dsimp only); (repeat' split) <;> simp
@[simp] theorem State.tryClose_modem : (s.tryClose).modem = s.modem := by
  unfold State.tryClose; (try dsimp only); (repeat' split) <;> simp
@[simp] theorem State.tryClose_power : (s.tryClose).power = s.power := by
  unfold State.tryClose; (try dsimp only); (repeat' split) <;> simp
@[simp] theorem State.tryClose_clock : (s.tryClose).clock = s.clock := by
  unfold State.tryClose; (try dsimp only); (repeat' split) <;> simp
@[simp] theorem State.tryClose_image0 : (s.tryClose).image0 = s.image0 := by
  unfold State.tryClose; (try dsimp only); (repeat' split) <;> simp
@[simp] theorem State.tryClose_image1 : (s.tryClose).image1 = s.image1 := by
  unfold State.tryClose; (try dsimp only); (repeat' split) <;> simp
@[simp] theorem State.tryClose_lifetime : (s.tryClose).lifetime = s.lifetime := by
  unfold State.tryClose; (try dsimp only); (repeat' split) <;> simp
@[simp] theorem State.tryClose_nv : (s.tryClose).nv = s.nv := by
  unfold State.tryClose; (try dsimp only); (repeat' split) <;> simp
@[simp] theorem State.tryClose_restores : (s.tryClose).restores = s.restores := by
  unfold State.tryClose; (try dsimp only); (repeat' split) <;> simp

@[simp] theorem State.serveClosed_now (f : ServiceFrame) : (s.serveClosed f).now = s.now := by
  unfold State.serveClosed; (try dsimp only); (repeat' split) <;> simp
@[simp] theorem State.serveClosed_pending (f : ServiceFrame) : (s.serveClosed f).pending = s.pending := by
  unfold State.serveClosed; (try dsimp only); (repeat' split) <;> simp
@[simp] theorem State.serveClosed_coin (f : ServiceFrame) : (s.serveClosed f).coin = s.coin := by
  unfold State.serveClosed; (try dsimp only); (repeat' split) <;> simp
@[simp] theorem State.serveClosed_credit (f : ServiceFrame) : (s.serveClosed f).credit = s.credit := by
  unfold State.serveClosed; (try dsimp only); (repeat' split) <;> simp
@[simp] theorem State.serveClosed_rating (f : ServiceFrame) : (s.serveClosed f).rating = s.rating := by
  unfold State.serveClosed; (try dsimp only); (repeat' split) <;> simp
@[simp] theorem State.serveClosed_line (f : ServiceFrame) : (s.serveClosed f).line = s.line := by
  unfold State.serveClosed; (try dsimp only); (repeat' split) <;> simp
@[simp] theorem State.serveClosed_arbiter (f : ServiceFrame) : (s.serveClosed f).arbiter = s.arbiter := by
  unfold State.serveClosed; (try dsimp only); (repeat' split) <;> simp
@[simp] theorem State.serveClosed_elapsed (f : ServiceFrame) : (s.serveClosed f).elapsed = s.elapsed := by
  unfold State.serveClosed; (try dsimp only); (repeat' split) <;> simp
@[simp] theorem State.serveClosed_centre (f : ServiceFrame) : (s.serveClosed f).centre = s.centre := by
  unfold State.serveClosed; (try dsimp only); (repeat' split) <;> simp
@[simp] theorem State.serveClosed_modem (f : ServiceFrame) : (s.serveClosed f).modem = s.modem := by
  unfold State.serveClosed; (try dsimp only); (repeat' split) <;> simp
@[simp] theorem State.serveClosed_power (f : ServiceFrame) : (s.serveClosed f).power = s.power := by
  unfold State.serveClosed; (try dsimp only); (repeat' split) <;> simp
@[simp] theorem State.serveClosed_clock (f : ServiceFrame) : (s.serveClosed f).clock = s.clock := by
  unfold State.serveClosed; (try dsimp only); (repeat' split) <;> simp
@[simp] theorem State.serveClosed_setPort (f : ServiceFrame) : (s.serveClosed f).setPort = s.setPort := by
  unfold State.serveClosed; (try dsimp only); (repeat' split) <;> simp
@[simp] theorem State.serveClosed_image0 (f : ServiceFrame) : (s.serveClosed f).image0 = s.image0 := by
  unfold State.serveClosed; (try dsimp only); (repeat' split) <;> simp
@[simp] theorem State.serveClosed_image1 (f : ServiceFrame) : (s.serveClosed f).image1 = s.image1 := by
  unfold State.serveClosed; (try dsimp only); (repeat' split) <;> simp
@[simp] theorem State.serveClosed_lifetime (f : ServiceFrame) : (s.serveClosed f).lifetime = s.lifetime := by
  unfold State.serveClosed; (try dsimp only); (repeat' split) <;> simp
@[simp] theorem State.serveClosed_period (f : ServiceFrame) : (s.serveClosed f).period = s.period := by
  unfold State.serveClosed; (try dsimp only); (repeat' split) <;> simp
@[simp] theorem State.serveClosed_history (f : ServiceFrame) : (s.serveClosed f).history = s.history := by
  unfold State.serveClosed; (try dsimp only); (repeat' split) <;> simp
@[simp] theorem State.serveClosed_call (f : ServiceFrame) : (s.serveClosed f).call = s.call := by
  unfold State.serveClosed; (try dsimp only); (repeat' split) <;> simp
@[simp] theorem State.serveClosed_nv (f : ServiceFrame) : (s.serveClosed f).nv = s.nv := by
  unfold State.serveClosed; (try dsimp only); (repeat' split) <;> simp
@[simp] theorem State.serveClosed_restores (f : ServiceFrame) : (s.serveClosed f).restores = s.restores := by
  unfold State.serveClosed; (try dsimp only); (repeat' split) <;> simp

@[simp] theorem State.serveOpen_now (f : ServiceFrame) : (s.serveOpen f).now = s.now := by
  unfold State.serveOpen; (try dsimp only); (repeat' split) <;> simp
@[simp] theorem State.serveOpen_pending (f : ServiceFrame) : (s.serveOpen f).pending = s.pending := by
  unfold State.serveOpen; (try dsimp only); (repeat' split) <;> simp
@[simp] theorem State.serveOpen_coin (f : ServiceFrame) : (s.serveOpen f).coin = s.coin := by
  unfold State.serveOpen; (try dsimp only); (repeat' split) <;> simp
@[simp] theorem State.serveOpen_credit (f : ServiceFrame) : (s.serveOpen f).credit = s.credit := by
  unfold State.serveOpen; (try dsimp only); (repeat' split) <;> simp
@[simp] theorem State.serveOpen_arbiter (f : ServiceFrame) : (s.serveOpen f).arbiter = s.arbiter := by
  unfold State.serveOpen; (try dsimp only); (repeat' split) <;> simp
@[simp] theorem State.serveOpen_elapsed (f : ServiceFrame) : (s.serveOpen f).elapsed = s.elapsed := by
  unfold State.serveOpen; (try dsimp only); (repeat' split) <;> simp
@[simp] theorem State.serveOpen_centre (f : ServiceFrame) : (s.serveOpen f).centre = s.centre := by
  unfold State.serveOpen; (try dsimp only); (repeat' split) <;> simp
@[simp] theorem State.serveOpen_modem (f : ServiceFrame) : (s.serveOpen f).modem = s.modem := by
  unfold State.serveOpen; (try dsimp only); (repeat' split) <;> simp
@[simp] theorem State.serveOpen_power (f : ServiceFrame) : (s.serveOpen f).power = s.power := by
  unfold State.serveOpen; (try dsimp only); (repeat' split) <;> simp
@[simp] theorem State.serveOpen_clock (f : ServiceFrame) : (s.serveOpen f).clock = s.clock := by
  unfold State.serveOpen; (try dsimp only); (repeat' split) <;> simp
@[simp] theorem State.serveOpen_image0 (f : ServiceFrame) : (s.serveOpen f).image0 = s.image0 := by
  unfold State.serveOpen; (try dsimp only); (repeat' split) <;> simp
@[simp] theorem State.serveOpen_image1 (f : ServiceFrame) : (s.serveOpen f).image1 = s.image1 := by
  unfold State.serveOpen; (try dsimp only); (repeat' split) <;> simp
@[simp] theorem State.serveOpen_lifetime (f : ServiceFrame) : (s.serveOpen f).lifetime = s.lifetime := by
  unfold State.serveOpen; (try dsimp only); (repeat' split) <;> simp
@[simp] theorem State.serveOpen_nv (f : ServiceFrame) : (s.serveOpen f).nv = s.nv := by
  unfold State.serveOpen; (try dsimp only); (repeat' split) <;> simp
@[simp] theorem State.serveOpen_restores (f : ServiceFrame) : (s.serveOpen f).restores = s.restores := by
  unfold State.serveOpen; (try dsimp only); (repeat' split) <;> simp

@[simp] theorem State.serve_now (f : ServiceFrame) : (s.serve f).now = s.now := by
  unfold State.serve; (try dsimp only); (repeat' split) <;> simp
@[simp] theorem State.serve_pending (f : ServiceFrame) : (s.serve f).pending = s.pending := by
  unfold State.serve; (try dsimp only); (repeat' split) <;> simp
@[simp] theorem State.serve_coin (f : ServiceFrame) : (s.serve f).coin = s.coin := by
  unfold State.serve; (try dsimp only); (repeat' split) <;> simp
@[simp] theorem State.serve_credit (f : ServiceFrame) : (s.serve f).credit = s.credit := by
  unfold State.serve; (try dsimp only); (repeat' split) <;> simp
@[simp] theorem State.serve_arbiter (f : ServiceFrame) : (s.serve f).arbiter = s.arbiter := by
  unfold State.serve; (try dsimp only); (repeat' split) <;> simp
@[simp] theorem State.serve_elapsed (f : ServiceFrame) : (s.serve f).elapsed = s.elapsed := by
  unfold State.serve; (try dsimp only); (repeat' split) <;> simp
@[simp] theorem State.serve_centre (f : ServiceFrame) : (s.serve f).centre = s.centre := by
  unfold State.serve; (try dsimp only); (repeat' split) <;> simp
@[simp] theorem State.serve_modem (f : ServiceFrame) : (s.serve f).modem = s.modem := by
  unfold State.serve; (try dsimp only); (repeat' split) <;> simp
@[simp] theorem State.serve_power (f : ServiceFrame) : (s.serve f).power = s.power := by
  unfold State.serve; (try dsimp only); (repeat' split) <;> simp
@[simp] theorem State.serve_clock (f : ServiceFrame) : (s.serve f).clock = s.clock := by
  unfold State.serve; (try dsimp only); (repeat' split) <;> simp
@[simp] theorem State.serve_image0 (f : ServiceFrame) : (s.serve f).image0 = s.image0 := by
  unfold State.serve; (try dsimp only); (repeat' split) <;> simp
@[simp] theorem State.serve_image1 (f : ServiceFrame) : (s.serve f).image1 = s.image1 := by
  unfold State.serve; (try dsimp only); (repeat' split) <;> simp
@[simp] theorem State.serve_lifetime (f : ServiceFrame) : (s.serve f).lifetime = s.lifetime := by
  unfold State.serve; (try dsimp only); (repeat' split) <;> simp
@[simp] theorem State.serve_nv (f : ServiceFrame) : (s.serve f).nv = s.nv := by
  unfold State.serve; (try dsimp only); (repeat' split) <;> simp
@[simp] theorem State.serve_restores (f : ServiceFrame) : (s.serve f).restores = s.restores := by
  unfold State.serve; (try dsimp only); (repeat' split) <;> simp

@[simp] theorem State.pump_now (n : Nat) : (s.pump n).now = s.now := by
  induction n generalizing s with
  | zero => rfl
  | succ _ ih => unfold State.pump; (try dsimp only); repeat' split
                 all_goals simp [*]
@[simp] theorem State.pump_pending (n : Nat) : (s.pump n).pending = s.pending := by
  induction n generalizing s with
  | zero => rfl
  | succ _ ih => unfold State.pump; (try dsimp only); repeat' split
                 all_goals simp [*]
@[simp] theorem State.pump_coin (n : Nat) : (s.pump n).coin = s.coin := by
  induction n generalizing s with
  | zero => rfl
  | succ _ ih => unfold State.pump; (try dsimp only); repeat' split
                 all_goals simp [*]
@[simp] theorem State.pump_credit (n : Nat) : (s.pump n).credit = s.credit := by
  induction n generalizing s with
  | zero => rfl
  | succ _ ih => unfold State.pump; (try dsimp only); repeat' split
                 all_goals simp [*]
@[simp] theorem State.pump_arbiter (n : Nat) : (s.pump n).arbiter = s.arbiter := by
  induction n generalizing s with
  | zero => rfl
  | succ _ ih => unfold State.pump; (try dsimp only); repeat' split
                 all_goals simp [*]
@[simp] theorem State.pump_elapsed (n : Nat) : (s.pump n).elapsed = s.elapsed := by
  induction n generalizing s with
  | zero => rfl
  | succ _ ih => unfold State.pump; (try dsimp only); repeat' split
                 all_goals simp [*]
@[simp] theorem State.pump_centre (n : Nat) : (s.pump n).centre = s.centre := by
  induction n generalizing s with
  | zero => rfl
  | succ _ ih => unfold State.pump; (try dsimp only); repeat' split
                 all_goals simp [*]
@[simp] theorem State.pump_modem (n : Nat) : (s.pump n).modem = s.modem := by
  induction n generalizing s with
  | zero => rfl
  | succ _ ih => unfold State.pump; (try dsimp only); repeat' split
                 all_goals simp [*]
@[simp] theorem State.pump_power (n : Nat) : (s.pump n).power = s.power := by
  induction n generalizing s with
  | zero => rfl
  | succ _ ih => unfold State.pump; (try dsimp only); repeat' split
                 all_goals simp [*]
@[simp] theorem State.pump_clock (n : Nat) : (s.pump n).clock = s.clock := by
  induction n generalizing s with
  | zero => rfl
  | succ _ ih => unfold State.pump; (try dsimp only); repeat' split
                 all_goals simp [*]
@[simp] theorem State.pump_image0 (n : Nat) : (s.pump n).image0 = s.image0 := by
  induction n generalizing s with
  | zero => rfl
  | succ _ ih => unfold State.pump; (try dsimp only); repeat' split
                 all_goals simp [*]
@[simp] theorem State.pump_image1 (n : Nat) : (s.pump n).image1 = s.image1 := by
  induction n generalizing s with
  | zero => rfl
  | succ _ ih => unfold State.pump; (try dsimp only); repeat' split
                 all_goals simp [*]
@[simp] theorem State.pump_lifetime (n : Nat) : (s.pump n).lifetime = s.lifetime := by
  induction n generalizing s with
  | zero => rfl
  | succ _ ih => unfold State.pump; (try dsimp only); repeat' split
                 all_goals simp [*]
@[simp] theorem State.pump_nv (n : Nat) : (s.pump n).nv = s.nv := by
  induction n generalizing s with
  | zero => rfl
  | succ _ ih => unfold State.pump; (try dsimp only); repeat' split
                 all_goals simp [*]
@[simp] theorem State.pump_restores (n : Nat) : (s.pump n).restores = s.restores := by
  induction n generalizing s with
  | zero => rfl
  | succ _ ih => unfold State.pump; (try dsimp only); repeat' split
                 all_goals simp [*]

@[simp] theorem State.pumpAll_now : (s.pumpAll).now = s.now := by
  unfold State.pumpAll; (try dsimp only); (repeat' split) <;> simp
@[simp] theorem State.pumpAll_pending : (s.pumpAll).pending = s.pending := by
  unfold State.pumpAll; (try dsimp only); (repeat' split) <;> simp
@[simp] theorem State.pumpAll_coin : (s.pumpAll).coin = s.coin := by
  unfold State.pumpAll; (try dsimp only); (repeat' split) <;> simp
@[simp] theorem State.pumpAll_credit : (s.pumpAll).credit = s.credit := by
  unfold State.pumpAll; (try dsimp only); (repeat' split) <;> simp
@[simp] theorem State.pumpAll_arbiter : (s.pumpAll).arbiter = s.arbiter := by
  unfold State.pumpAll; (try dsimp only); (repeat' split) <;> simp
@[simp] theorem State.pumpAll_elapsed : (s.pumpAll).elapsed = s.elapsed := by
  unfold State.pumpAll; (try dsimp only); (repeat' split) <;> simp
@[simp] theorem State.pumpAll_centre : (s.pumpAll).centre = s.centre := by
  unfold State.pumpAll; (try dsimp only); (repeat' split) <;> simp
@[simp] theorem State.pumpAll_modem : (s.pumpAll).modem = s.modem := by
  unfold State.pumpAll; (try dsimp only); (repeat' split) <;> simp
@[simp] theorem State.pumpAll_power : (s.pumpAll).power = s.power := by
  unfold State.pumpAll; (try dsimp only); (repeat' split) <;> simp
@[simp] theorem State.pumpAll_clock : (s.pumpAll).clock = s.clock := by
  unfold State.pumpAll; (try dsimp only); (repeat' split) <;> simp
@[simp] theorem State.pumpAll_image0 : (s.pumpAll).image0 = s.image0 := by
  unfold State.pumpAll; (try dsimp only); (repeat' split) <;> simp
@[simp] theorem State.pumpAll_image1 : (s.pumpAll).image1 = s.image1 := by
  unfold State.pumpAll; (try dsimp only); (repeat' split) <;> simp
@[simp] theorem State.pumpAll_lifetime : (s.pumpAll).lifetime = s.lifetime := by
  unfold State.pumpAll; (try dsimp only); (repeat' split) <;> simp
@[simp] theorem State.pumpAll_nv : (s.pumpAll).nv = s.nv := by
  unfold State.pumpAll; (try dsimp only); (repeat' split) <;> simp
@[simp] theorem State.pumpAll_restores : (s.pumpAll).restores = s.restores := by
  unfold State.pumpAll; (try dsimp only); (repeat' split) <;> simp

end Sys2Proof.Machine
end

