-- ==== Sys2Proof/Laws/Finish.lean ====
section
/-!
SUPPORT. What each operation of Machine/Finish.lean leaves alone: one lemma for each field of `State` that it never
touches.  What it does to the fields it touches stands in its definition.
-/

set_option linter.unusedTactic false
set_option linter.unnecessarySeqFocus false
set_option linter.unreachableTactic false

namespace Sys2Proof.Machine

variable (s : State)

@[simp] theorem State.powerReview_now : (s.powerReview).now = s.now := by
  unfold State.powerReview; (try dsimp only); (repeat' split) <;> simp
@[simp] theorem State.powerReview_pending : (s.powerReview).pending = s.pending := by
  unfold State.powerReview; (try dsimp only); (repeat' split) <;> simp
@[simp] theorem State.powerReview_credit : (s.powerReview).credit = s.credit := by
  unfold State.powerReview; (try dsimp only); (repeat' split) <;> simp
@[simp] theorem State.powerReview_rating : (s.powerReview).rating = s.rating := by
  unfold State.powerReview; (try dsimp only); (repeat' split) <;> simp
@[simp] theorem State.powerReview_line : (s.powerReview).line = s.line := by
  unfold State.powerReview; (try dsimp only); (repeat' split) <;> simp
@[simp] theorem State.powerReview_arbiter : (s.powerReview).arbiter = s.arbiter := by
  unfold State.powerReview; (try dsimp only); (repeat' split) <;> simp
@[simp] theorem State.powerReview_tamper : (s.powerReview).tamper = s.tamper := by
  unfold State.powerReview; (try dsimp only); (repeat' split) <;> simp
@[simp] theorem State.powerReview_elapsed : (s.powerReview).elapsed = s.elapsed := by
  unfold State.powerReview; (try dsimp only); (repeat' split) <;> simp
@[simp] theorem State.powerReview_centre : (s.powerReview).centre = s.centre := by
  unfold State.powerReview; (try dsimp only); (repeat' split) <;> simp
@[simp] theorem State.powerReview_modem : (s.powerReview).modem = s.modem := by
  unfold State.powerReview; (try dsimp only); (repeat' split) <;> simp
@[simp] theorem State.powerReview_ledger : (s.powerReview).ledger = s.ledger := by
  unfold State.powerReview; (try dsimp only); (repeat' split) <;> simp
@[simp] theorem State.powerReview_clock : (s.powerReview).clock = s.clock := by
  unfold State.powerReview; (try dsimp only); (repeat' split) <;> simp
@[simp] theorem State.powerReview_setPort : (s.powerReview).setPort = s.setPort := by
  unfold State.powerReview; (try dsimp only); (repeat' split) <;> simp
@[simp] theorem State.powerReview_service : (s.powerReview).service = s.service := by
  unfold State.powerReview; (try dsimp only); (repeat' split) <;> simp
@[simp] theorem State.powerReview_config : (s.powerReview).config = s.config := by
  unfold State.powerReview; (try dsimp only); (repeat' split) <;> simp
@[simp] theorem State.powerReview_image0 : (s.powerReview).image0 = s.image0 := by
  unfold State.powerReview; (try dsimp only); (repeat' split) <;> simp
@[simp] theorem State.powerReview_image1 : (s.powerReview).image1 = s.image1 := by
  unfold State.powerReview; (try dsimp only); (repeat' split) <;> simp
@[simp] theorem State.powerReview_lifetime : (s.powerReview).lifetime = s.lifetime := by
  unfold State.powerReview; (try dsimp only); (repeat' split) <;> simp
@[simp] theorem State.powerReview_period : (s.powerReview).period = s.period := by
  unfold State.powerReview; (try dsimp only); (repeat' split) <;> simp
@[simp] theorem State.powerReview_history : (s.powerReview).history = s.history := by
  unfold State.powerReview; (try dsimp only); (repeat' split) <;> simp
@[simp] theorem State.powerReview_call : (s.powerReview).call = s.call := by
  unfold State.powerReview; (try dsimp only); (repeat' split) <;> simp
@[simp] theorem State.powerReview_events : (s.powerReview).events = s.events := by
  unfold State.powerReview; (try dsimp only); (repeat' split) <;> simp
@[simp] theorem State.powerReview_nv : (s.powerReview).nv = s.nv := by
  unfold State.powerReview; (try dsimp only); (repeat' split) <;> simp
@[simp] theorem State.powerReview_restores : (s.powerReview).restores = s.restores := by
  unfold State.powerReview; (try dsimp only); (repeat' split) <;> simp

@[simp] theorem State.recheckClose_now : (s.recheckClose).now = s.now := by
  unfold State.recheckClose; (try dsimp only); (repeat' split) <;> simp
@[simp] theorem State.recheckClose_pending : (s.recheckClose).pending = s.pending := by
  unfold State.recheckClose; (try dsimp only); (repeat' split) <;> simp
@[simp] theorem State.recheckClose_coin : (s.recheckClose).coin = s.coin := by
  unfold State.recheckClose; (try dsimp only); (repeat' split) <;> simp
@[simp] theorem State.recheckClose_credit : (s.recheckClose).credit = s.credit := by
  unfold State.recheckClose; (try dsimp only); (repeat' split) <;> simp
@[simp] theorem State.recheckClose_arbiter : (s.recheckClose).arbiter = s.arbiter := by
  unfold State.recheckClose; (try dsimp only); (repeat' split) <;> simp
@[simp] theorem State.recheckClose_elapsed : (s.recheckClose).elapsed = s.elapsed := by
  unfold State.recheckClose; (try dsimp only); (repeat' split) <;> simp
@[simp] theorem State.recheckClose_centre : (s.recheckClose).centre = s.centre := by
  unfold State.recheckClose; (try dsimp only); (repeat' split) <;> simp
@[simp] theorem State.recheckClose_modem : (s.recheckClose).modem = s.modem := by
  unfold State.recheckClose; (try dsimp only); (repeat' split) <;> simp
@[simp] theorem State.recheckClose_power : (s.recheckClose).power = s.power := by
  unfold State.recheckClose; (try dsimp only); (repeat' split) <;> simp
@[simp] theorem State.recheckClose_clock : (s.recheckClose).clock = s.clock := by
  unfold State.recheckClose; (try dsimp only); (repeat' split) <;> simp
@[simp] theorem State.recheckClose_image0 : (s.recheckClose).image0 = s.image0 := by
  unfold State.recheckClose; (try dsimp only); (repeat' split) <;> simp
@[simp] theorem State.recheckClose_image1 : (s.recheckClose).image1 = s.image1 := by
  unfold State.recheckClose; (try dsimp only); (repeat' split) <;> simp
@[simp] theorem State.recheckClose_lifetime : (s.recheckClose).lifetime = s.lifetime := by
  unfold State.recheckClose; (try dsimp only); (repeat' split) <;> simp
@[simp] theorem State.recheckClose_nv : (s.recheckClose).nv = s.nv := by
  unfold State.recheckClose; (try dsimp only); (repeat' split) <;> simp
@[simp] theorem State.recheckClose_restores : (s.recheckClose).restores = s.restores := by
  unfold State.recheckClose; (try dsimp only); (repeat' split) <;> simp

@[simp] theorem State.settleBlocks_now (d : List Section) : (s.settleBlocks d).now = s.now := by
  unfold State.settleBlocks; (try dsimp only); (repeat' split) <;> simp
@[simp] theorem State.settleBlocks_pending (d : List Section) : (s.settleBlocks d).pending = s.pending := by
  unfold State.settleBlocks; (try dsimp only); (repeat' split) <;> simp
@[simp] theorem State.settleBlocks_elapsed (d : List Section) : (s.settleBlocks d).elapsed = s.elapsed := by
  unfold State.settleBlocks; (try dsimp only); (repeat' split) <;> simp
@[simp] theorem State.settleBlocks_modem (d : List Section) : (s.settleBlocks d).modem = s.modem := by
  unfold State.settleBlocks; (try dsimp only); (repeat' split) <;> simp
@[simp] theorem State.settleBlocks_clock (d : List Section) : (s.settleBlocks d).clock = s.clock := by
  unfold State.settleBlocks; (try dsimp only); (repeat' split) <;> simp
@[simp] theorem State.settleBlocks_image0 (d : List Section) : (s.settleBlocks d).image0 = s.image0 := by
  unfold State.settleBlocks; (try dsimp only); (repeat' split) <;> simp
@[simp] theorem State.settleBlocks_image1 (d : List Section) : (s.settleBlocks d).image1 = s.image1 := by
  unfold State.settleBlocks; (try dsimp only); (repeat' split) <;> simp
@[simp] theorem State.settleBlocks_lifetime (d : List Section) : (s.settleBlocks d).lifetime = s.lifetime := by
  unfold State.settleBlocks; (try dsimp only); (repeat' split) <;> simp
@[simp] theorem State.settleBlocks_nv (d : List Section) : (s.settleBlocks d).nv = s.nv := by
  unfold State.settleBlocks; (try dsimp only); (repeat' split) <;> simp
@[simp] theorem State.settleBlocks_restores (d : List Section) : (s.settleBlocks d).restores = s.restores := by
  unfold State.settleBlocks; (try dsimp only); (repeat' split) <;> simp

end Sys2Proof.Machine
end

