-- ==== Sys2Proof/Laws/Arbitration.lean ====
section
/-!
SUPPORT. What each operation of Machine/Arbitration.lean leaves alone: one lemma for each field of `State` that it never
touches.  What it does to the fields it touches stands in its definition.
-/

set_option linter.unusedTactic false
set_option linter.unnecessarySeqFocus false
set_option linter.unreachableTactic false

namespace Sys2Proof.Machine

variable (s : State)

@[simp] theorem State.windowOver_now : (s.windowOver).now = s.now := by
  unfold State.windowOver; (try dsimp only); (repeat' split) <;> simp
@[simp] theorem State.windowOver_pending : (s.windowOver).pending = s.pending := by
  unfold State.windowOver; (try dsimp only); (repeat' split) <;> simp
@[simp] theorem State.windowOver_coin : (s.windowOver).coin = s.coin := by
  unfold State.windowOver; (try dsimp only); (repeat' split) <;> simp
@[simp] theorem State.windowOver_credit : (s.windowOver).credit = s.credit := by
  unfold State.windowOver; (try dsimp only); (repeat' split) <;> simp
@[simp] theorem State.windowOver_tamper : (s.windowOver).tamper = s.tamper := by
  unfold State.windowOver; (try dsimp only); (repeat' split) <;> simp
@[simp] theorem State.windowOver_elapsed : (s.windowOver).elapsed = s.elapsed := by
  unfold State.windowOver; (try dsimp only); (repeat' split) <;> simp
@[simp] theorem State.windowOver_power : (s.windowOver).power = s.power := by
  unfold State.windowOver; (try dsimp only); (repeat' split) <;> simp
@[simp] theorem State.windowOver_clock : (s.windowOver).clock = s.clock := by
  unfold State.windowOver; (try dsimp only); (repeat' split) <;> simp
@[simp] theorem State.windowOver_service : (s.windowOver).service = s.service := by
  unfold State.windowOver; (try dsimp only); (repeat' split) <;> simp
@[simp] theorem State.windowOver_config : (s.windowOver).config = s.config := by
  unfold State.windowOver; (try dsimp only); (repeat' split) <;> simp
@[simp] theorem State.windowOver_image0 : (s.windowOver).image0 = s.image0 := by
  unfold State.windowOver; (try dsimp only); (repeat' split) <;> simp
@[simp] theorem State.windowOver_image1 : (s.windowOver).image1 = s.image1 := by
  unfold State.windowOver; (try dsimp only); (repeat' split) <;> simp
@[simp] theorem State.windowOver_lifetime : (s.windowOver).lifetime = s.lifetime := by
  unfold State.windowOver; (try dsimp only); (repeat' split) <;> simp
@[simp] theorem State.windowOver_period : (s.windowOver).period = s.period := by
  unfold State.windowOver; (try dsimp only); (repeat' split) <;> simp
@[simp] theorem State.windowOver_history : (s.windowOver).history = s.history := by
  unfold State.windowOver; (try dsimp only); (repeat' split) <;> simp
@[simp] theorem State.windowOver_call : (s.windowOver).call = s.call := by
  unfold State.windowOver; (try dsimp only); (repeat' split) <;> simp
@[simp] theorem State.windowOver_nv : (s.windowOver).nv = s.nv := by
  unfold State.windowOver; (try dsimp only); (repeat' split) <;> simp
@[simp] theorem State.windowOver_restores : (s.windowOver).restores = s.restores := by
  unfold State.windowOver; (try dsimp only); (repeat' split) <;> simp

end Sys2Proof.Machine
end

