-- ==== Sys2Proof/Laws/Images.lean ====
section
/-!
SUPPORT. What each operation of Machine/Images.lean leaves alone: one lemma for each field of `State` that it never
touches.  What it does to the fields it touches stands in its definition.
-/

set_option linter.unusedTactic false
set_option linter.unnecessarySeqFocus false
set_option linter.unreachableTactic false

namespace Sys2Proof.Machine

variable (s : State)

@[simp] theorem State.cancelActivation_now : (s.cancelActivation).now = s.now := by
  unfold State.cancelActivation; (try dsimp only); (repeat' split) <;> simp
@[simp] theorem State.cancelActivation_pending : (s.cancelActivation).pending = s.pending := by
  unfold State.cancelActivation; (try dsimp only); (repeat' split) <;> simp
@[simp] theorem State.cancelActivation_coin : (s.cancelActivation).coin = s.coin := by
  unfold State.cancelActivation; (try dsimp only); (repeat' split) <;> simp
@[simp] theorem State.cancelActivation_credit : (s.cancelActivation).credit = s.credit := by
  unfold State.cancelActivation; (try dsimp only); (repeat' split) <;> simp
@[simp] theorem State.cancelActivation_rating : (s.cancelActivation).rating = s.rating := by
  unfold State.cancelActivation; (try dsimp only); (repeat' split) <;> simp
@[simp] theorem State.cancelActivation_line : (s.cancelActivation).line = s.line := by
  unfold State.cancelActivation; (try dsimp only); (repeat' split) <;> simp
@[simp] theorem State.cancelActivation_arbiter : (s.cancelActivation).arbiter = s.arbiter := by
  unfold State.cancelActivation; (try dsimp only); (repeat' split) <;> simp
@[simp] theorem State.cancelActivation_tamper : (s.cancelActivation).tamper = s.tamper := by
  unfold State.cancelActivation; (try dsimp only); (repeat' split) <;> simp
@[simp] theorem State.cancelActivation_elapsed : (s.cancelActivation).elapsed = s.elapsed := by
  unfold State.cancelActivation; (try dsimp only); (repeat' split) <;> simp
@[simp] theorem State.cancelActivation_centre : (s.cancelActivation).centre = s.centre := by
  unfold State.cancelActivation; (try dsimp only); (repeat' split) <;> simp
@[simp] theorem State.cancelActivation_modem : (s.cancelActivation).modem = s.modem := by
  unfold State.cancelActivation; (try dsimp only); (repeat' split) <;> simp
@[simp] theorem State.cancelActivation_power : (s.cancelActivation).power = s.power := by
  unfold State.cancelActivation; (try dsimp only); (repeat' split) <;> simp
@[simp] theorem State.cancelActivation_clock : (s.cancelActivation).clock = s.clock := by
  unfold State.cancelActivation; (try dsimp only); (repeat' split) <;> simp
@[simp] theorem State.cancelActivation_setPort : (s.cancelActivation).setPort = s.setPort := by
  unfold State.cancelActivation; (try dsimp only); (repeat' split) <;> simp
@[simp] theorem State.cancelActivation_service : (s.cancelActivation).service = s.service := by
  unfold State.cancelActivation; (try dsimp only); (repeat' split) <;> simp
@[simp] theorem State.cancelActivation_image0 : (s.cancelActivation).image0 = s.image0 := by
  unfold State.cancelActivation; (try dsimp only); (repeat' split) <;> simp
@[simp] theorem State.cancelActivation_image1 : (s.cancelActivation).image1 = s.image1 := by
  unfold State.cancelActivation; (try dsimp only); (repeat' split) <;> simp
@[simp] theorem State.cancelActivation_lifetime : (s.cancelActivation).lifetime = s.lifetime := by
  unfold State.cancelActivation; (try dsimp only); (repeat' split) <;> simp
@[simp] theorem State.cancelActivation_period : (s.cancelActivation).period = s.period := by
  unfold State.cancelActivation; (try dsimp only); (repeat' split) <;> simp
@[simp] theorem State.cancelActivation_history : (s.cancelActivation).history = s.history := by
  unfold State.cancelActivation; (try dsimp only); (repeat' split) <;> simp
@[simp] theorem State.cancelActivation_call : (s.cancelActivation).call = s.call := by
  unfold State.cancelActivation; (try dsimp only); (repeat' split) <;> simp
@[simp] theorem State.cancelActivation_events : (s.cancelActivation).events = s.events := by
  unfold State.cancelActivation; (try dsimp only); (repeat' split) <;> simp
@[simp] theorem State.cancelActivation_nv : (s.cancelActivation).nv = s.nv := by
  unfold State.cancelActivation; (try dsimp only); (repeat' split) <;> simp
@[simp] theorem State.cancelActivation_restores : (s.cancelActivation).restores = s.restores := by
  unfold State.cancelActivation; (try dsimp only); (repeat' split) <;> simp

@[simp] theorem State.stageCleared_now (k : Byte) (p : List Byte) : (s.stageCleared k p).now = s.now := by
  unfold State.stageCleared; (try dsimp only); (repeat' split) <;> simp
@[simp] theorem State.stageCleared_pending (k : Byte) (p : List Byte) : (s.stageCleared k p).pending = s.pending := by
  unfold State.stageCleared; (try dsimp only); (repeat' split) <;> simp
@[simp] theorem State.stageCleared_coin (k : Byte) (p : List Byte) : (s.stageCleared k p).coin = s.coin := by
  unfold State.stageCleared; (try dsimp only); (repeat' split) <;> simp
@[simp] theorem State.stageCleared_credit (k : Byte) (p : List Byte) : (s.stageCleared k p).credit = s.credit := by
  unfold State.stageCleared; (try dsimp only); (repeat' split) <;> simp
@[simp] theorem State.stageCleared_rating (k : Byte) (p : List Byte) : (s.stageCleared k p).rating = s.rating := by
  unfold State.stageCleared; (try dsimp only); (repeat' split) <;> simp
@[simp] theorem State.stageCleared_line (k : Byte) (p : List Byte) : (s.stageCleared k p).line = s.line := by
  unfold State.stageCleared; (try dsimp only); (repeat' split) <;> simp
@[simp] theorem State.stageCleared_arbiter (k : Byte) (p : List Byte) : (s.stageCleared k p).arbiter = s.arbiter := by
  unfold State.stageCleared; (try dsimp only); (repeat' split) <;> simp
@[simp] theorem State.stageCleared_tamper (k : Byte) (p : List Byte) : (s.stageCleared k p).tamper = s.tamper := by
  unfold State.stageCleared; (try dsimp only); (repeat' split) <;> simp
@[simp] theorem State.stageCleared_elapsed (k : Byte) (p : List Byte) : (s.stageCleared k p).elapsed = s.elapsed := by
  unfold State.stageCleared; (try dsimp only); (repeat' split) <;> simp
@[simp] theorem State.stageCleared_power (k : Byte) (p : List Byte) : (s.stageCleared k p).power = s.power := by
  unfold State.stageCleared; (try dsimp only); (repeat' split) <;> simp
@[simp] theorem State.stageCleared_clock (k : Byte) (p : List Byte) : (s.stageCleared k p).clock = s.clock := by
  unfold State.stageCleared; (try dsimp only); (repeat' split) <;> simp
@[simp] theorem State.stageCleared_setPort (k : Byte) (p : List Byte) : (s.stageCleared k p).setPort = s.setPort := by
  unfold State.stageCleared; (try dsimp only); (repeat' split) <;> simp
@[simp] theorem State.stageCleared_service (k : Byte) (p : List Byte) : (s.stageCleared k p).service = s.service := by
  unfold State.stageCleared; (try dsimp only); (repeat' split) <;> simp
@[simp] theorem State.stageCleared_lifetime (k : Byte) (p : List Byte) : (s.stageCleared k p).lifetime = s.lifetime := by
  unfold State.stageCleared; (try dsimp only); (repeat' split) <;> simp
@[simp] theorem State.stageCleared_period (k : Byte) (p : List Byte) : (s.stageCleared k p).period = s.period := by
  unfold State.stageCleared; (try dsimp only); (repeat' split) <;> simp
@[simp] theorem State.stageCleared_history (k : Byte) (p : List Byte) : (s.stageCleared k p).history = s.history := by
  unfold State.stageCleared; (try dsimp only); (repeat' split) <;> simp
@[simp] theorem State.stageCleared_call (k : Byte) (p : List Byte) : (s.stageCleared k p).call = s.call := by
  unfold State.stageCleared; (try dsimp only); (repeat' split) <;> simp
@[simp] theorem State.stageCleared_events (k : Byte) (p : List Byte) : (s.stageCleared k p).events = s.events := by
  unfold State.stageCleared; (try dsimp only); (repeat' split) <;> simp
@[simp] theorem State.stageCleared_nv (k : Byte) (p : List Byte) : (s.stageCleared k p).nv = s.nv := by
  unfold State.stageCleared; (try dsimp only); (repeat' split) <;> simp
@[simp] theorem State.stageCleared_restores (k : Byte) (p : List Byte) : (s.stageCleared k p).restores = s.restores := by
  unfold State.stageCleared; (try dsimp only); (repeat' split) <;> simp

@[simp] theorem State.blockLoaded_now (k : Byte) (p : List Byte) : (s.blockLoaded k p).now = s.now := by
  unfold State.blockLoaded; (try dsimp only); (repeat' split) <;> simp
@[simp] theorem State.blockLoaded_pending (k : Byte) (p : List Byte) : (s.blockLoaded k p).pending = s.pending := by
  unfold State.blockLoaded; (try dsimp only); (repeat' split) <;> simp
@[simp] theorem State.blockLoaded_coin (k : Byte) (p : List Byte) : (s.blockLoaded k p).coin = s.coin := by
  unfold State.blockLoaded; (try dsimp only); (repeat' split) <;> simp
@[simp] theorem State.blockLoaded_credit (k : Byte) (p : List Byte) : (s.blockLoaded k p).credit = s.credit := by
  unfold State.blockLoaded; (try dsimp only); (repeat' split) <;> simp
@[simp] theorem State.blockLoaded_rating (k : Byte) (p : List Byte) : (s.blockLoaded k p).rating = s.rating := by
  unfold State.blockLoaded; (try dsimp only); (repeat' split) <;> simp
@[simp] theorem State.blockLoaded_line (k : Byte) (p : List Byte) : (s.blockLoaded k p).line = s.line := by
  unfold State.blockLoaded; (try dsimp only); (repeat' split) <;> simp
@[simp] theorem State.blockLoaded_arbiter (k : Byte) (p : List Byte) : (s.blockLoaded k p).arbiter = s.arbiter := by
  unfold State.blockLoaded; (try dsimp only); (repeat' split) <;> simp
@[simp] theorem State.blockLoaded_tamper (k : Byte) (p : List Byte) : (s.blockLoaded k p).tamper = s.tamper := by
  unfold State.blockLoaded; (try dsimp only); (repeat' split) <;> simp
@[simp] theorem State.blockLoaded_elapsed (k : Byte) (p : List Byte) : (s.blockLoaded k p).elapsed = s.elapsed := by
  unfold State.blockLoaded; (try dsimp only); (repeat' split) <;> simp
@[simp] theorem State.blockLoaded_power (k : Byte) (p : List Byte) : (s.blockLoaded k p).power = s.power := by
  unfold State.blockLoaded; (try dsimp only); (repeat' split) <;> simp
@[simp] theorem State.blockLoaded_clock (k : Byte) (p : List Byte) : (s.blockLoaded k p).clock = s.clock := by
  unfold State.blockLoaded; (try dsimp only); (repeat' split) <;> simp
@[simp] theorem State.blockLoaded_setPort (k : Byte) (p : List Byte) : (s.blockLoaded k p).setPort = s.setPort := by
  unfold State.blockLoaded; (try dsimp only); (repeat' split) <;> simp
@[simp] theorem State.blockLoaded_service (k : Byte) (p : List Byte) : (s.blockLoaded k p).service = s.service := by
  unfold State.blockLoaded; (try dsimp only); (repeat' split) <;> simp
@[simp] theorem State.blockLoaded_lifetime (k : Byte) (p : List Byte) : (s.blockLoaded k p).lifetime = s.lifetime := by
  unfold State.blockLoaded; (try dsimp only); (repeat' split) <;> simp
@[simp] theorem State.blockLoaded_period (k : Byte) (p : List Byte) : (s.blockLoaded k p).period = s.period := by
  unfold State.blockLoaded; (try dsimp only); (repeat' split) <;> simp
@[simp] theorem State.blockLoaded_history (k : Byte) (p : List Byte) : (s.blockLoaded k p).history = s.history := by
  unfold State.blockLoaded; (try dsimp only); (repeat' split) <;> simp
@[simp] theorem State.blockLoaded_call (k : Byte) (p : List Byte) : (s.blockLoaded k p).call = s.call := by
  unfold State.blockLoaded; (try dsimp only); (repeat' split) <;> simp
@[simp] theorem State.blockLoaded_events (k : Byte) (p : List Byte) : (s.blockLoaded k p).events = s.events := by
  unfold State.blockLoaded; (try dsimp only); (repeat' split) <;> simp
@[simp] theorem State.blockLoaded_nv (k : Byte) (p : List Byte) : (s.blockLoaded k p).nv = s.nv := by
  unfold State.blockLoaded; (try dsimp only); (repeat' split) <;> simp
@[simp] theorem State.blockLoaded_restores (k : Byte) (p : List Byte) : (s.blockLoaded k p).restores = s.restores := by
  unfold State.blockLoaded; (try dsimp only); (repeat' split) <;> simp

@[simp] theorem State.pendActivation_now : (s.pendActivation).now = s.now := by
  unfold State.pendActivation; (try dsimp only); (repeat' split) <;> simp
@[simp] theorem State.pendActivation_pending : (s.pendActivation).pending = s.pending := by
  unfold State.pendActivation; (try dsimp only); (repeat' split) <;> simp
@[simp] theorem State.pendActivation_coin : (s.pendActivation).coin = s.coin := by
  unfold State.pendActivation; (try dsimp only); (repeat' split) <;> simp
@[simp] theorem State.pendActivation_credit : (s.pendActivation).credit = s.credit := by
  unfold State.pendActivation; (try dsimp only); (repeat' split) <;> simp
@[simp] theorem State.pendActivation_rating : (s.pendActivation).rating = s.rating := by
  unfold State.pendActivation; (try dsimp only); (repeat' split) <;> simp
@[simp] theorem State.pendActivation_line : (s.pendActivation).line = s.line := by
  unfold State.pendActivation; (try dsimp only); (repeat' split) <;> simp
@[simp] theorem State.pendActivation_arbiter : (s.pendActivation).arbiter = s.arbiter := by
  unfold State.pendActivation; (try dsimp only); (repeat' split) <;> simp
@[simp] theorem State.pendActivation_tamper : (s.pendActivation).tamper = s.tamper := by
  unfold State.pendActivation; (try dsimp only); (repeat' split) <;> simp
@[simp] theorem State.pendActivation_elapsed : (s.pendActivation).elapsed = s.elapsed := by
  unfold State.pendActivation; (try dsimp only); (repeat' split) <;> simp
@[simp] theorem State.pendActivation_centre : (s.pendActivation).centre = s.centre := by
  unfold State.pendActivation; (try dsimp only); (repeat' split) <;> simp
@[simp] theorem State.pendActivation_modem : (s.pendActivation).modem = s.modem := by
  unfold State.pendActivation; (try dsimp only); (repeat' split) <;> simp
@[simp] theorem State.pendActivation_power : (s.pendActivation).power = s.power := by
  unfold State.pendActivation; (try dsimp only); (repeat' split) <;> simp
@[simp] theorem State.pendActivation_clock : (s.pendActivation).clock = s.clock := by
  unfold State.pendActivation; (try dsimp only); (repeat' split) <;> simp
@[simp] theorem State.pendActivation_setPort : (s.pendActivation).setPort = s.setPort := by
  unfold State.pendActivation; (try dsimp only); (repeat' split) <;> simp
@[simp] theorem State.pendActivation_service : (s.pendActivation).service = s.service := by
  unfold State.pendActivation; (try dsimp only); (repeat' split) <;> simp
@[simp] theorem State.pendActivation_image0 : (s.pendActivation).image0 = s.image0 := by
  unfold State.pendActivation; (try dsimp only); (repeat' split) <;> simp
@[simp] theorem State.pendActivation_image1 : (s.pendActivation).image1 = s.image1 := by
  unfold State.pendActivation; (try dsimp only); (repeat' split) <;> simp
@[simp] theorem State.pendActivation_lifetime : (s.pendActivation).lifetime = s.lifetime := by
  unfold State.pendActivation; (try dsimp only); (repeat' split) <;> simp
@[simp] theorem State.pendActivation_period : (s.pendActivation).period = s.period := by
  unfold State.pendActivation; (try dsimp only); (repeat' split) <;> simp
@[simp] theorem State.pendActivation_history : (s.pendActivation).history = s.history := by
  unfold State.pendActivation; (try dsimp only); (repeat' split) <;> simp
@[simp] theorem State.pendActivation_call : (s.pendActivation).call = s.call := by
  unfold State.pendActivation; (try dsimp only); (repeat' split) <;> simp
@[simp] theorem State.pendActivation_events : (s.pendActivation).events = s.events := by
  unfold State.pendActivation; (try dsimp only); (repeat' split) <;> simp
@[simp] theorem State.pendActivation_nv : (s.pendActivation).nv = s.nv := by
  unfold State.pendActivation; (try dsimp only); (repeat' split) <;> simp
@[simp] theorem State.pendActivation_restores : (s.pendActivation).restores = s.restores := by
  unfold State.pendActivation; (try dsimp only); (repeat' split) <;> simp

@[simp] theorem State.stageActivated_now (k : Byte) (p : List Byte) : (s.stageActivated k p).now = s.now := by
  unfold State.stageActivated; (try dsimp only); (repeat' split) <;> simp
@[simp] theorem State.stageActivated_pending (k : Byte) (p : List Byte) : (s.stageActivated k p).pending = s.pending := by
  unfold State.stageActivated; (try dsimp only); (repeat' split) <;> simp
@[simp] theorem State.stageActivated_coin (k : Byte) (p : List Byte) : (s.stageActivated k p).coin = s.coin := by
  unfold State.stageActivated; (try dsimp only); (repeat' split) <;> simp
@[simp] theorem State.stageActivated_credit (k : Byte) (p : List Byte) : (s.stageActivated k p).credit = s.credit := by
  unfold State.stageActivated; (try dsimp only); (repeat' split) <;> simp
@[simp] theorem State.stageActivated_arbiter (k : Byte) (p : List Byte) : (s.stageActivated k p).arbiter = s.arbiter := by
  unfold State.stageActivated; (try dsimp only); (repeat' split) <;> simp
@[simp] theorem State.stageActivated_elapsed (k : Byte) (p : List Byte) : (s.stageActivated k p).elapsed = s.elapsed := by
  unfold State.stageActivated; (try dsimp only); (repeat' split) <;> simp
@[simp] theorem State.stageActivated_power (k : Byte) (p : List Byte) : (s.stageActivated k p).power = s.power := by
  unfold State.stageActivated; (try dsimp only); (repeat' split) <;> simp
@[simp] theorem State.stageActivated_clock (k : Byte) (p : List Byte) : (s.stageActivated k p).clock = s.clock := by
  unfold State.stageActivated; (try dsimp only); (repeat' split) <;> simp
@[simp] theorem State.stageActivated_service (k : Byte) (p : List Byte) : (s.stageActivated k p).service = s.service := by
  unfold State.stageActivated; (try dsimp only); (repeat' split) <;> simp
@[simp] theorem State.stageActivated_lifetime (k : Byte) (p : List Byte) : (s.stageActivated k p).lifetime = s.lifetime := by
  unfold State.stageActivated; (try dsimp only); (repeat' split) <;> simp
@[simp] theorem State.stageActivated_period (k : Byte) (p : List Byte) : (s.stageActivated k p).period = s.period := by
  unfold State.stageActivated; (try dsimp only); (repeat' split) <;> simp
@[simp] theorem State.stageActivated_history (k : Byte) (p : List Byte) : (s.stageActivated k p).history = s.history := by
  unfold State.stageActivated; (try dsimp only); (repeat' split) <;> simp
@[simp] theorem State.stageActivated_call (k : Byte) (p : List Byte) : (s.stageActivated k p).call = s.call := by
  unfold State.stageActivated; (try dsimp only); (repeat' split) <;> simp
@[simp] theorem State.stageActivated_events (k : Byte) (p : List Byte) : (s.stageActivated k p).events = s.events := by
  unfold State.stageActivated; (try dsimp only); (repeat' split) <;> simp
@[simp] theorem State.stageActivated_nv (k : Byte) (p : List Byte) : (s.stageActivated k p).nv = s.nv := by
  unfold State.stageActivated; (try dsimp only); (repeat' split) <;> simp
@[simp] theorem State.stageActivated_restores (k : Byte) (p : List Byte) : (s.stageActivated k p).restores = s.restores := by
  unfold State.stageActivated; (try dsimp only); (repeat' split) <;> simp

end Sys2Proof.Machine
end

