-- ==== Sys2Proof/Laws/LineOps.lean ====
section
/-!
SUPPORT. What each operation of Machine/LineOps.lean leaves alone: one lemma for each field of `State` that it never
touches.  What it does to the fields it touches stands in its definition.
-/

set_option linter.unusedTactic false
set_option linter.unnecessarySeqFocus false
set_option linter.unreachableTactic false

namespace Sys2Proof.Machine

variable (s : State)

@[simp] theorem State.quitRinging_now : (s.quitRinging).now = s.now := by
  unfold State.quitRinging; (try dsimp only); (repeat' split) <;> simp
@[simp] theorem State.quitRinging_pending : (s.quitRinging).pending = s.pending := by
  unfold State.quitRinging; (try dsimp only); (repeat' split) <;> simp
@[simp] theorem State.quitRinging_coin : (s.quitRinging).coin = s.coin := by
  unfold State.quitRinging; (try dsimp only); (repeat' split) <;> simp
@[simp] theorem State.quitRinging_credit : (s.quitRinging).credit = s.credit := by
  unfold State.quitRinging; (try dsimp only); (repeat' split) <;> simp
@[simp] theorem State.quitRinging_rating : (s.quitRinging).rating = s.rating := by
  unfold State.quitRinging; (try dsimp only); (repeat' split) <;> simp
@[simp] theorem State.quitRinging_tamper : (s.quitRinging).tamper = s.tamper := by
  unfold State.quitRinging; (try dsimp only); (repeat' split) <;> simp
@[simp] theorem State.quitRinging_elapsed : (s.quitRinging).elapsed = s.elapsed := by
  unfold State.quitRinging; (try dsimp only); (repeat' split) <;> simp
@[simp] theorem State.quitRinging_centre : (s.quitRinging).centre = s.centre := by
  unfold State.quitRinging; (try dsimp only); (repeat' split) <;> simp
@[simp] theorem State.quitRinging_modem : (s.quitRinging).modem = s.modem := by
  unfold State.quitRinging; (try dsimp only); (repeat' split) <;> simp
@[simp] theorem State.quitRinging_ledger : (s.quitRinging).ledger = s.ledger := by
  unfold State.quitRinging; (try dsimp only); (repeat' split) <;> simp
@[simp] theorem State.quitRinging_power : (s.quitRinging).power = s.power := by
  unfold State.quitRinging; (try dsimp only); (repeat' split) <;> simp
@[simp] theorem State.quitRinging_clock : (s.quitRinging).clock = s.clock := by
  unfold State.quitRinging; (try dsimp only); (repeat' split) <;> simp
@[simp] theorem State.quitRinging_service : (s.quitRinging).service = s.service := by
  unfold State.quitRinging; (try dsimp only); (repeat' split) <;> simp
@[simp] theorem State.quitRinging_config : (s.quitRinging).config = s.config := by
  unfold State.quitRinging; (try dsimp only); (repeat' split) <;> simp
@[simp] theorem State.quitRinging_image0 : (s.quitRinging).image0 = s.image0 := by
  unfold State.quitRinging; (try dsimp only); (repeat' split) <;> simp
@[simp] theorem State.quitRinging_image1 : (s.quitRinging).image1 = s.image1 := by
  unfold State.quitRinging; (try dsimp only); (repeat' split) <;> simp
@[simp] theorem State.quitRinging_lifetime : (s.quitRinging).lifetime = s.lifetime := by
  unfold State.quitRinging; (try dsimp only); (repeat' split) <;> simp
@[simp] theorem State.quitRinging_period : (s.quitRinging).period = s.period := by
  unfold State.quitRinging; (try dsimp only); (repeat' split) <;> simp
@[simp] theorem State.quitRinging_history : (s.quitRinging).history = s.history := by
  unfold State.quitRinging; (try dsimp only); (repeat' split) <;> simp
@[simp] theorem State.quitRinging_call : (s.quitRinging).call = s.call := by
  unfold State.quitRinging; (try dsimp only); (repeat' split) <;> simp
@[simp] theorem State.quitRinging_events : (s.quitRinging).events = s.events := by
  unfold State.quitRinging; (try dsimp only); (repeat' split) <;> simp
@[simp] theorem State.quitRinging_nv : (s.quitRinging).nv = s.nv := by
  unfold State.quitRinging; (try dsimp only); (repeat' split) <;> simp
@[simp] theorem State.quitRinging_restores : (s.quitRinging).restores = s.restores := by
  unfold State.quitRinging; (try dsimp only); (repeat' split) <;> simp

@[simp] theorem State.openSession_now : (s.openSession).now = s.now := by
  unfold State.openSession; (try dsimp only); (repeat' split) <;> simp
@[simp] theorem State.openSession_pending : (s.openSession).pending = s.pending := by
  unfold State.openSession; (try dsimp only); (repeat' split) <;> simp
@[simp] theorem State.openSession_coin : (s.openSession).coin = s.coin := by
  unfold State.openSession; (try dsimp only); (repeat' split) <;> simp
@[simp] theorem State.openSession_credit : (s.openSession).credit = s.credit := by
  unfold State.openSession; (try dsimp only); (repeat' split) <;> simp
@[simp] theorem State.openSession_tamper : (s.openSession).tamper = s.tamper := by
  unfold State.openSession; (try dsimp only); (repeat' split) <;> simp
@[simp] theorem State.openSession_elapsed : (s.openSession).elapsed = s.elapsed := by
  unfold State.openSession; (try dsimp only); (repeat' split) <;> simp
@[simp] theorem State.openSession_power : (s.openSession).power = s.power := by
  unfold State.openSession; (try dsimp only); (repeat' split) <;> simp
@[simp] theorem State.openSession_clock : (s.openSession).clock = s.clock := by
  unfold State.openSession; (try dsimp only); (repeat' split) <;> simp
@[simp] theorem State.openSession_service : (s.openSession).service = s.service := by
  unfold State.openSession; (try dsimp only); (repeat' split) <;> simp
@[simp] theorem State.openSession_config : (s.openSession).config = s.config := by
  unfold State.openSession; (try dsimp only); (repeat' split) <;> simp
@[simp] theorem State.openSession_image0 : (s.openSession).image0 = s.image0 := by
  unfold State.openSession; (try dsimp only); (repeat' split) <;> simp
@[simp] theorem State.openSession_image1 : (s.openSession).image1 = s.image1 := by
  unfold State.openSession; (try dsimp only); (repeat' split) <;> simp
@[simp] theorem State.openSession_lifetime : (s.openSession).lifetime = s.lifetime := by
  unfold State.openSession; (try dsimp only); (repeat' split) <;> simp
@[simp] theorem State.openSession_period : (s.openSession).period = s.period := by
  unfold State.openSession; (try dsimp only); (repeat' split) <;> simp
@[simp] theorem State.openSession_history : (s.openSession).history = s.history := by
  unfold State.openSession; (try dsimp only); (repeat' split) <;> simp
@[simp] theorem State.openSession_nv : (s.openSession).nv = s.nv := by
  unfold State.openSession; (try dsimp only); (repeat' split) <;> simp
@[simp] theorem State.openSession_restores : (s.openSession).restores = s.restores := by
  unfold State.openSession; (try dsimp only); (repeat' split) <;> simp

@[simp] theorem State.liftHook_now : (s.liftHook).now = s.now := by
  unfold State.liftHook; (try dsimp only); (repeat' split) <;> simp
@[simp] theorem State.liftHook_pending : (s.liftHook).pending = s.pending := by
  unfold State.liftHook; (try dsimp only); (repeat' split) <;> simp
@[simp] theorem State.liftHook_coin : (s.liftHook).coin = s.coin := by
  unfold State.liftHook; (try dsimp only); (repeat' split) <;> simp
@[simp] theorem State.liftHook_credit : (s.liftHook).credit = s.credit := by
  unfold State.liftHook; (try dsimp only); (repeat' split) <;> simp
@[simp] theorem State.liftHook_tamper : (s.liftHook).tamper = s.tamper := by
  unfold State.liftHook; (try dsimp only); (repeat' split) <;> simp
@[simp] theorem State.liftHook_elapsed : (s.liftHook).elapsed = s.elapsed := by
  unfold State.liftHook; (try dsimp only); (repeat' split) <;> simp
@[simp] theorem State.liftHook_power : (s.liftHook).power = s.power := by
  unfold State.liftHook; (try dsimp only); (repeat' split) <;> simp
@[simp] theorem State.liftHook_clock : (s.liftHook).clock = s.clock := by
  unfold State.liftHook; (try dsimp only); (repeat' split) <;> simp
@[simp] theorem State.liftHook_service : (s.liftHook).service = s.service := by
  unfold State.liftHook; (try dsimp only); (repeat' split) <;> simp
@[simp] theorem State.liftHook_config : (s.liftHook).config = s.config := by
  unfold State.liftHook; (try dsimp only); (repeat' split) <;> simp
@[simp] theorem State.liftHook_image0 : (s.liftHook).image0 = s.image0 := by
  unfold State.liftHook; (try dsimp only); (repeat' split) <;> simp
@[simp] theorem State.liftHook_image1 : (s.liftHook).image1 = s.image1 := by
  unfold State.liftHook; (try dsimp only); (repeat' split) <;> simp
@[simp] theorem State.liftHook_lifetime : (s.liftHook).lifetime = s.lifetime := by
  unfold State.liftHook; (try dsimp only); (repeat' split) <;> simp
@[simp] theorem State.liftHook_period : (s.liftHook).period = s.period := by
  unfold State.liftHook; (try dsimp only); (repeat' split) <;> simp
@[simp] theorem State.liftHook_history : (s.liftHook).history = s.history := by
  unfold State.liftHook; (try dsimp only); (repeat' split) <;> simp
@[simp] theorem State.liftHook_nv : (s.liftHook).nv = s.nv := by
  unfold State.liftHook; (try dsimp only); (repeat' split) <;> simp
@[simp] theorem State.liftHook_restores : (s.liftHook).restores = s.restores := by
  unfold State.liftHook; (try dsimp only); (repeat' split) <;> simp

@[simp] theorem State.hangUp_now : (s.hangUp).now = s.now := by
  unfold State.hangUp; (try dsimp only); (repeat' split) <;> simp
@[simp] theorem State.hangUp_pending : (s.hangUp).pending = s.pending := by
  unfold State.hangUp; (try dsimp only); (repeat' split) <;> simp
@[simp] theorem State.hangUp_elapsed : (s.hangUp).elapsed = s.elapsed := by
  unfold State.hangUp; (try dsimp only); (repeat' split) <;> simp
@[simp] theorem State.hangUp_power : (s.hangUp).power = s.power := by
  unfold State.hangUp; (try dsimp only); (repeat' split) <;> simp
@[simp] theorem State.hangUp_clock : (s.hangUp).clock = s.clock := by
  unfold State.hangUp; (try dsimp only); (repeat' split) <;> simp
@[simp] theorem State.hangUp_service : (s.hangUp).service = s.service := by
  unfold State.hangUp; (try dsimp only); (repeat' split) <;> simp
@[simp] theorem State.hangUp_history : (s.hangUp).history = s.history := by
  unfold State.hangUp; (try dsimp only); (repeat' split) <;> simp
@[simp] theorem State.hangUp_events : (s.hangUp).events = s.events := by
  unfold State.hangUp; (try dsimp only); (repeat' split) <;> simp
@[simp] theorem State.hangUp_nv : (s.hangUp).nv = s.nv := by
  unfold State.hangUp; (try dsimp only); (repeat' split) <;> simp
@[simp] theorem State.hangUp_restores : (s.hangUp).restores = s.restores := by
  unfold State.hangUp; (try dsimp only); (repeat' split) <;> simp

@[simp] theorem State.dialToneFound_now : (s.dialToneFound).now = s.now := by
  unfold State.dialToneFound; (try dsimp only); (repeat' split) <;> simp
@[simp] theorem State.dialToneFound_pending : (s.dialToneFound).pending = s.pending := by
  unfold State.dialToneFound; (try dsimp only); (repeat' split) <;> simp
@[simp] theorem State.dialToneFound_coin : (s.dialToneFound).coin = s.coin := by
  unfold State.dialToneFound; (try dsimp only); (repeat' split) <;> simp
@[simp] theorem State.dialToneFound_credit : (s.dialToneFound).credit = s.credit := by
  unfold State.dialToneFound; (try dsimp only); (repeat' split) <;> simp
@[simp] theorem State.dialToneFound_rating : (s.dialToneFound).rating = s.rating := by
  unfold State.dialToneFound; (try dsimp only); (repeat' split) <;> simp
@[simp] theorem State.dialToneFound_arbiter : (s.dialToneFound).arbiter = s.arbiter := by
  unfold State.dialToneFound; (try dsimp only); (repeat' split) <;> simp
@[simp] theorem State.dialToneFound_tamper : (s.dialToneFound).tamper = s.tamper := by
  unfold State.dialToneFound; (try dsimp only); (repeat' split) <;> simp
@[simp] theorem State.dialToneFound_elapsed : (s.dialToneFound).elapsed = s.elapsed := by
  unfold State.dialToneFound; (try dsimp only); (repeat' split) <;> simp
@[simp] theorem State.dialToneFound_centre : (s.dialToneFound).centre = s.centre := by
  unfold State.dialToneFound; (try dsimp only); (repeat' split) <;> simp
@[simp] theorem State.dialToneFound_modem : (s.dialToneFound).modem = s.modem := by
  unfold State.dialToneFound; (try dsimp only); (repeat' split) <;> simp
@[simp] theorem State.dialToneFound_ledger : (s.dialToneFound).ledger = s.ledger := by
  unfold State.dialToneFound; (try dsimp only); (repeat' split) <;> simp
@[simp] theorem State.dialToneFound_power : (s.dialToneFound).power = s.power := by
  unfold State.dialToneFound; (try dsimp only); (repeat' split) <;> simp
@[simp] theorem State.dialToneFound_clock : (s.dialToneFound).clock = s.clock := by
  unfold State.dialToneFound; (try dsimp only); (repeat' split) <;> simp
@[simp] theorem State.dialToneFound_service : (s.dialToneFound).service = s.service := by
  unfold State.dialToneFound; (try dsimp only); (repeat' split) <;> simp
@[simp] theorem State.dialToneFound_config : (s.dialToneFound).config = s.config := by
  unfold State.dialToneFound; (try dsimp only); (repeat' split) <;> simp
@[simp] theorem State.dialToneFound_image0 : (s.dialToneFound).image0 = s.image0 := by
  unfold State.dialToneFound; (try dsimp only); (repeat' split) <;> simp
@[simp] theorem State.dialToneFound_image1 : (s.dialToneFound).image1 = s.image1 := by
  unfold State.dialToneFound; (try dsimp only); (repeat' split) <;> simp
@[simp] theorem State.dialToneFound_lifetime : (s.dialToneFound).lifetime = s.lifetime := by
  unfold State.dialToneFound; (try dsimp only); (repeat' split) <;> simp
@[simp] theorem State.dialToneFound_period : (s.dialToneFound).period = s.period := by
  unfold State.dialToneFound; (try dsimp only); (repeat' split) <;> simp
@[simp] theorem State.dialToneFound_history : (s.dialToneFound).history = s.history := by
  unfold State.dialToneFound; (try dsimp only); (repeat' split) <;> simp
@[simp] theorem State.dialToneFound_call : (s.dialToneFound).call = s.call := by
  unfold State.dialToneFound; (try dsimp only); (repeat' split) <;> simp
@[simp] theorem State.dialToneFound_events : (s.dialToneFound).events = s.events := by
  unfold State.dialToneFound; (try dsimp only); (repeat' split) <;> simp
@[simp] theorem State.dialToneFound_nv : (s.dialToneFound).nv = s.nv := by
  unfold State.dialToneFound; (try dsimp only); (repeat' split) <;> simp
@[simp] theorem State.dialToneFound_restores : (s.dialToneFound).restores = s.restores := by
  unfold State.dialToneFound; (try dsimp only); (repeat' split) <;> simp

@[simp] theorem State.countNoTone_now : (s.countNoTone).now = s.now := by
  unfold State.countNoTone; (try dsimp only); (repeat' split) <;> simp
@[simp] theorem State.countNoTone_pending : (s.countNoTone).pending = s.pending := by
  unfold State.countNoTone; (try dsimp only); (repeat' split) <;> simp
@[simp] theorem State.countNoTone_coin : (s.countNoTone).coin = s.coin := by
  unfold State.countNoTone; (try dsimp only); (repeat' split) <;> simp
@[simp] theorem State.countNoTone_credit : (s.countNoTone).credit = s.credit := by
  unfold State.countNoTone; (try dsimp only); (repeat' split) <;> simp
@[simp] theorem State.countNoTone_rating : (s.countNoTone).rating = s.rating := by
  unfold State.countNoTone; (try dsimp only); (repeat' split) <;> simp
@[simp] theorem State.countNoTone_arbiter : (s.countNoTone).arbiter = s.arbiter := by
  unfold State.countNoTone; (try dsimp only); (repeat' split) <;> simp
@[simp] theorem State.countNoTone_tamper : (s.countNoTone).tamper = s.tamper := by
  unfold State.countNoTone; (try dsimp only); (repeat' split) <;> simp
@[simp] theorem State.countNoTone_elapsed : (s.countNoTone).elapsed = s.elapsed := by
  unfold State.countNoTone; (try dsimp only); (repeat' split) <;> simp
@[simp] theorem State.countNoTone_centre : (s.countNoTone).centre = s.centre := by
  unfold State.countNoTone; (try dsimp only); (repeat' split) <;> simp
@[simp] theorem State.countNoTone_modem : (s.countNoTone).modem = s.modem := by
  unfold State.countNoTone; (try dsimp only); (repeat' split) <;> simp
@[simp] theorem State.countNoTone_power : (s.countNoTone).power = s.power := by
  unfold State.countNoTone; (try dsimp only); (repeat' split) <;> simp
@[simp] theorem State.countNoTone_clock : (s.countNoTone).clock = s.clock := by
  unfold State.countNoTone; (try dsimp only); (repeat' split) <;> simp
@[simp] theorem State.countNoTone_setPort : (s.countNoTone).setPort = s.setPort := by
  unfold State.countNoTone; (try dsimp only); (repeat' split) <;> simp
@[simp] theorem State.countNoTone_service : (s.countNoTone).service = s.service := by
  unfold State.countNoTone; (try dsimp only); (repeat' split) <;> simp
@[simp] theorem State.countNoTone_config : (s.countNoTone).config = s.config := by
  unfold State.countNoTone; (try dsimp only); (repeat' split) <;> simp
@[simp] theorem State.countNoTone_image0 : (s.countNoTone).image0 = s.image0 := by
  unfold State.countNoTone; (try dsimp only); (repeat' split) <;> simp
@[simp] theorem State.countNoTone_image1 : (s.countNoTone).image1 = s.image1 := by
  unfold State.countNoTone; (try dsimp only); (repeat' split) <;> simp
@[simp] theorem State.countNoTone_lifetime : (s.countNoTone).lifetime = s.lifetime := by
  unfold State.countNoTone; (try dsimp only); (repeat' split) <;> simp
@[simp] theorem State.countNoTone_period : (s.countNoTone).period = s.period := by
  unfold State.countNoTone; (try dsimp only); (repeat' split) <;> simp
@[simp] theorem State.countNoTone_history : (s.countNoTone).history = s.history := by
  unfold State.countNoTone; (try dsimp only); (repeat' split) <;> simp
@[simp] theorem State.countNoTone_call : (s.countNoTone).call = s.call := by
  unfold State.countNoTone; (try dsimp only); (repeat' split) <;> simp
@[simp] theorem State.countNoTone_nv : (s.countNoTone).nv = s.nv := by
  unfold State.countNoTone; (try dsimp only); (repeat' split) <;> simp
@[simp] theorem State.countNoTone_restores : (s.countNoTone).restores = s.restores := by
  unfold State.countNoTone; (try dsimp only); (repeat' split) <;> simp

@[simp] theorem State.noDialTone_now : (s.noDialTone).now = s.now := by
  unfold State.noDialTone; (try dsimp only); (repeat' split) <;> simp
@[simp] theorem State.noDialTone_pending : (s.noDialTone).pending = s.pending := by
  unfold State.noDialTone; (try dsimp only); (repeat' split) <;> simp
@[simp] theorem State.noDialTone_coin : (s.noDialTone).coin = s.coin := by
  unfold State.noDialTone; (try dsimp only); (repeat' split) <;> simp
@[simp] theorem State.noDialTone_credit : (s.noDialTone).credit = s.credit := by
  unfold State.noDialTone; (try dsimp only); (repeat' split) <;> simp
@[simp] theorem State.noDialTone_tamper : (s.noDialTone).tamper = s.tamper := by
  unfold State.noDialTone; (try dsimp only); (repeat' split) <;> simp
@[simp] theorem State.noDialTone_elapsed : (s.noDialTone).elapsed = s.elapsed := by
  unfold State.noDialTone; (try dsimp only); (repeat' split) <;> simp
@[simp] theorem State.noDialTone_power : (s.noDialTone).power = s.power := by
  unfold State.noDialTone; (try dsimp only); (repeat' split) <;> simp
@[simp] theorem State.noDialTone_clock : (s.noDialTone).clock = s.clock := by
  unfold State.noDialTone; (try dsimp only); (repeat' split) <;> simp
@[simp] theorem State.noDialTone_service : (s.noDialTone).service = s.service := by
  unfold State.noDialTone; (try dsimp only); (repeat' split) <;> simp
@[simp] theorem State.noDialTone_config : (s.noDialTone).config = s.config := by
  unfold State.noDialTone; (try dsimp only); (repeat' split) <;> simp
@[simp] theorem State.noDialTone_image0 : (s.noDialTone).image0 = s.image0 := by
  unfold State.noDialTone; (try dsimp only); (repeat' split) <;> simp
@[simp] theorem State.noDialTone_image1 : (s.noDialTone).image1 = s.image1 := by
  unfold State.noDialTone; (try dsimp only); (repeat' split) <;> simp
@[simp] theorem State.noDialTone_lifetime : (s.noDialTone).lifetime = s.lifetime := by
  unfold State.noDialTone; (try dsimp only); (repeat' split) <;> simp
@[simp] theorem State.noDialTone_period : (s.noDialTone).period = s.period := by
  unfold State.noDialTone; (try dsimp only); (repeat' split) <;> simp
@[simp] theorem State.noDialTone_history : (s.noDialTone).history = s.history := by
  unfold State.noDialTone; (try dsimp only); (repeat' split) <;> simp
@[simp] theorem State.noDialTone_call : (s.noDialTone).call = s.call := by
  unfold State.noDialTone; (try dsimp only); (repeat' split) <;> simp
@[simp] theorem State.noDialTone_nv : (s.noDialTone).nv = s.nv := by
  unfold State.noDialTone; (try dsimp only); (repeat' split) <;> simp
@[simp] theorem State.noDialTone_restores : (s.noDialTone).restores = s.restores := by
  unfold State.noDialTone; (try dsimp only); (repeat' split) <;> simp

@[simp] theorem State.guardEnd_now : (s.guardEnd).now = s.now := by
  unfold State.guardEnd; (try dsimp only); (repeat' split) <;> simp
@[simp] theorem State.guardEnd_pending : (s.guardEnd).pending = s.pending := by
  unfold State.guardEnd; (try dsimp only); (repeat' split) <;> simp
@[simp] theorem State.guardEnd_coin : (s.guardEnd).coin = s.coin := by
  unfold State.guardEnd; (try dsimp only); (repeat' split) <;> simp
@[simp] theorem State.guardEnd_credit : (s.guardEnd).credit = s.credit := by
  unfold State.guardEnd; (try dsimp only); (repeat' split) <;> simp
@[simp] theorem State.guardEnd_rating : (s.guardEnd).rating = s.rating := by
  unfold State.guardEnd; (try dsimp only); (repeat' split) <;> simp
@[simp] theorem State.guardEnd_tamper : (s.guardEnd).tamper = s.tamper := by
  unfold State.guardEnd; (try dsimp only); (repeat' split) <;> simp
@[simp] theorem State.guardEnd_elapsed : (s.guardEnd).elapsed = s.elapsed := by
  unfold State.guardEnd; (try dsimp only); (repeat' split) <;> simp
@[simp] theorem State.guardEnd_modem : (s.guardEnd).modem = s.modem := by
  unfold State.guardEnd; (try dsimp only); (repeat' split) <;> simp
@[simp] theorem State.guardEnd_ledger : (s.guardEnd).ledger = s.ledger := by
  unfold State.guardEnd; (try dsimp only); (repeat' split) <;> simp
@[simp] theorem State.guardEnd_power : (s.guardEnd).power = s.power := by
  unfold State.guardEnd; (try dsimp only); (repeat' split) <;> simp
@[simp] theorem State.guardEnd_clock : (s.guardEnd).clock = s.clock := by
  unfold State.guardEnd; (try dsimp only); (repeat' split) <;> simp
@[simp] theorem State.guardEnd_service : (s.guardEnd).service = s.service := by
  unfold State.guardEnd; (try dsimp only); (repeat' split) <;> simp
@[simp] theorem State.guardEnd_config : (s.guardEnd).config = s.config := by
  unfold State.guardEnd; (try dsimp only); (repeat' split) <;> simp
@[simp] theorem State.guardEnd_image0 : (s.guardEnd).image0 = s.image0 := by
  unfold State.guardEnd; (try dsimp only); (repeat' split) <;> simp
@[simp] theorem State.guardEnd_image1 : (s.guardEnd).image1 = s.image1 := by
  unfold State.guardEnd; (try dsimp only); (repeat' split) <;> simp
@[simp] theorem State.guardEnd_lifetime : (s.guardEnd).lifetime = s.lifetime := by
  unfold State.guardEnd; (try dsimp only); (repeat' split) <;> simp
@[simp] theorem State.guardEnd_period : (s.guardEnd).period = s.period := by
  unfold State.guardEnd; (try dsimp only); (repeat' split) <;> simp
@[simp] theorem State.guardEnd_history : (s.guardEnd).history = s.history := by
  unfold State.guardEnd; (try dsimp only); (repeat' split) <;> simp
@[simp] theorem State.guardEnd_call : (s.guardEnd).call = s.call := by
  unfold State.guardEnd; (try dsimp only); (repeat' split) <;> simp
@[simp] theorem State.guardEnd_events : (s.guardEnd).events = s.events := by
  unfold State.guardEnd; (try dsimp only); (repeat' split) <;> simp
@[simp] theorem State.guardEnd_nv : (s.guardEnd).nv = s.nv := by
  unfold State.guardEnd; (try dsimp only); (repeat' split) <;> simp
@[simp] theorem State.guardEnd_restores : (s.guardEnd).restores = s.restores := by
  unfold State.guardEnd; (try dsimp only); (repeat' split) <;> simp

@[simp] theorem State.appendDigit_now (d : Digit) : (s.appendDigit d).now = s.now := by
  unfold State.appendDigit; (try dsimp only); (repeat' split) <;> simp
@[simp] theorem State.appendDigit_pending (d : Digit) : (s.appendDigit d).pending = s.pending := by
  unfold State.appendDigit; (try dsimp only); (repeat' split) <;> simp
@[simp] theorem State.appendDigit_coin (d : Digit) : (s.appendDigit d).coin = s.coin := by
  unfold State.appendDigit; (try dsimp only); (repeat' split) <;> simp
@[simp] theorem State.appendDigit_credit (d : Digit) : (s.appendDigit d).credit = s.credit := by
  unfold State.appendDigit; (try dsimp only); (repeat' split) <;> simp
@[simp] theorem State.appendDigit_rating (d : Digit) : (s.appendDigit d).rating = s.rating := by
  unfold State.appendDigit; (try dsimp only); (repeat' split) <;> simp
@[simp] theorem State.appendDigit_arbiter (d : Digit) : (s.appendDigit d).arbiter = s.arbiter := by
  unfold State.appendDigit; (try dsimp only); (repeat' split) <;> simp
@[simp] theorem State.appendDigit_tamper (d : Digit) : (s.appendDigit d).tamper = s.tamper := by
  unfold State.appendDigit; (try dsimp only); (repeat' split) <;> simp
@[simp] theorem State.appendDigit_elapsed (d : Digit) : (s.appendDigit d).elapsed = s.elapsed := by
  unfold State.appendDigit; (try dsimp only); (repeat' split) <;> simp
@[simp] theorem State.appendDigit_centre (d : Digit) : (s.appendDigit d).centre = s.centre := by
  unfold State.appendDigit; (try dsimp only); (repeat' split) <;> simp
@[simp] theorem State.appendDigit_modem (d : Digit) : (s.appendDigit d).modem = s.modem := by
  unfold State.appendDigit; (try dsimp only); (repeat' split) <;> simp
@[simp] theorem State.appendDigit_ledger (d : Digit) : (s.appendDigit d).ledger = s.ledger := by
  unfold State.appendDigit; (try dsimp only); (repeat' split) <;> simp
@[simp] theorem State.appendDigit_power (d : Digit) : (s.appendDigit d).power = s.power := by
  unfold State.appendDigit; (try dsimp only); (repeat' split) <;> simp
@[simp] theorem State.appendDigit_clock (d : Digit) : (s.appendDigit d).clock = s.clock := by
  unfold State.appendDigit; (try dsimp only); (repeat' split) <;> simp
@[simp] theorem State.appendDigit_setPort (d : Digit) : (s.appendDigit d).setPort = s.setPort := by
  unfold State.appendDigit; (try dsimp only); (repeat' split) <;> simp
@[simp] theorem State.appendDigit_service (d : Digit) : (s.appendDigit d).service = s.service := by
  unfold State.appendDigit; (try dsimp only); (repeat' split) <;> simp
@[simp] theorem State.appendDigit_config (d : Digit) : (s.appendDigit d).config = s.config := by
  unfold State.appendDigit; (try dsimp only); (repeat' split) <;> simp
@[simp] theorem State.appendDigit_image0 (d : Digit) : (s.appendDigit d).image0 = s.image0 := by
  unfold State.appendDigit; (try dsimp only); (repeat' split) <;> simp
@[simp] theorem State.appendDigit_image1 (d : Digit) : (s.appendDigit d).image1 = s.image1 := by
  unfold State.appendDigit; (try dsimp only); (repeat' split) <;> simp
@[simp] theorem State.appendDigit_lifetime (d : Digit) : (s.appendDigit d).lifetime = s.lifetime := by
  unfold State.appendDigit; (try dsimp only); (repeat' split) <;> simp
@[simp] theorem State.appendDigit_period (d : Digit) : (s.appendDigit d).period = s.period := by
  unfold State.appendDigit; (try dsimp only); (repeat' split) <;> simp
@[simp] theorem State.appendDigit_history (d : Digit) : (s.appendDigit d).history = s.history := by
  unfold State.appendDigit; (try dsimp only); (repeat' split) <;> simp
@[simp] theorem State.appendDigit_call (d : Digit) : (s.appendDigit d).call = s.call := by
  unfold State.appendDigit; (try dsimp only); (repeat' split) <;> simp
@[simp] theorem State.appendDigit_events (d : Digit) : (s.appendDigit d).events = s.events := by
  unfold State.appendDigit; (try dsimp only); (repeat' split) <;> simp
@[simp] theorem State.appendDigit_nv (d : Digit) : (s.appendDigit d).nv = s.nv := by
  unfold State.appendDigit; (try dsimp only); (repeat' split) <;> simp
@[simp] theorem State.appendDigit_restores (d : Digit) : (s.appendDigit d).restores = s.restores := by
  unfold State.appendDigit; (try dsimp only); (repeat' split) <;> simp

@[simp] theorem State.afterAppend_now : (s.afterAppend).2.now = s.now := by
  have h := State.resolveBuffer_now s (s.resolveDigit s.line.buffer)
  unfold State.afterAppend; split <;> (dsimp only; split <;> simp_all) <;> split <;> simp_all
@[simp] theorem State.afterAppend_pending : (s.afterAppend).2.pending = s.pending := by
  have h := State.resolveBuffer_pending s (s.resolveDigit s.line.buffer)
  unfold State.afterAppend; split <;> (dsimp only; split <;> simp_all) <;> split <;> simp_all
@[simp] theorem State.afterAppend_elapsed : (s.afterAppend).2.elapsed = s.elapsed := by
  have h := State.resolveBuffer_elapsed s (s.resolveDigit s.line.buffer)
  unfold State.afterAppend; split <;> (dsimp only; split <;> simp_all) <;> split <;> simp_all
@[simp] theorem State.afterAppend_power : (s.afterAppend).2.power = s.power := by
  have h := State.resolveBuffer_power s (s.resolveDigit s.line.buffer)
  unfold State.afterAppend; split <;> (dsimp only; split <;> simp_all) <;> split <;> simp_all
@[simp] theorem State.afterAppend_clock : (s.afterAppend).2.clock = s.clock := by
  have h := State.resolveBuffer_clock s (s.resolveDigit s.line.buffer)
  unfold State.afterAppend; split <;> (dsimp only; split <;> simp_all) <;> split <;> simp_all
@[simp] theorem State.afterAppend_service : (s.afterAppend).2.service = s.service := by
  have h := State.resolveBuffer_service s (s.resolveDigit s.line.buffer)
  unfold State.afterAppend; split <;> (dsimp only; split <;> simp_all) <;> split <;> simp_all
@[simp] theorem State.afterAppend_history : (s.afterAppend).2.history = s.history := by
  have h := State.resolveBuffer_history s (s.resolveDigit s.line.buffer)
  unfold State.afterAppend; split <;> (dsimp only; split <;> simp_all) <;> split <;> simp_all
@[simp] theorem State.afterAppend_nv : (s.afterAppend).2.nv = s.nv := by
  have h := State.resolveBuffer_nv s (s.resolveDigit s.line.buffer)
  unfold State.afterAppend; split <;> (dsimp only; split <;> simp_all) <;> split <;> simp_all
@[simp] theorem State.afterAppend_restores : (s.afterAppend).2.restores = s.restores := by
  have h := State.resolveBuffer_restores s (s.resolveDigit s.line.buffer)
  unfold State.afterAppend; split <;> (dsimp only; split <;> simp_all) <;> split <;> simp_all

@[simp] theorem State.takeKey_now (k : Key) : (s.takeKey k).2.now = s.now := by
  unfold State.takeKey; (try dsimp only); (repeat' split) <;> simp
@[simp] theorem State.takeKey_pending (k : Key) : (s.takeKey k).2.pending = s.pending := by
  unfold State.takeKey; (try dsimp only); (repeat' split) <;> simp
@[simp] theorem State.takeKey_elapsed (k : Key) : (s.takeKey k).2.elapsed = s.elapsed := by
  unfold State.takeKey; (try dsimp only); (repeat' split) <;> simp
@[simp] theorem State.takeKey_power (k : Key) : (s.takeKey k).2.power = s.power := by
  unfold State.takeKey; (try dsimp only); (repeat' split) <;> simp
@[simp] theorem State.takeKey_clock (k : Key) : (s.takeKey k).2.clock = s.clock := by
  unfold State.takeKey; (try dsimp only); (repeat' split) <;> simp
@[simp] theorem State.takeKey_service (k : Key) : (s.takeKey k).2.service = s.service := by
  unfold State.takeKey; (try dsimp only); (repeat' split) <;> simp
@[simp] theorem State.takeKey_history (k : Key) : (s.takeKey k).2.history = s.history := by
  unfold State.takeKey; (try dsimp only); (repeat' split) <;> simp
@[simp] theorem State.takeKey_nv (k : Key) : (s.takeKey k).2.nv = s.nv := by
  unfold State.takeKey; (try dsimp only); (repeat' split) <;> simp
@[simp] theorem State.takeKey_restores (k : Key) : (s.takeKey k).2.restores = s.restores := by
  unfold State.takeKey; (try dsimp only); (repeat' split) <;> simp

@[simp] theorem State.keyDigit_now (k : Key) : (s.keyDigit k).2.now = s.now := by
  unfold State.keyDigit; (try dsimp only); (repeat' split) <;> simp
@[simp] theorem State.keyDigit_pending (k : Key) : (s.keyDigit k).2.pending = s.pending := by
  unfold State.keyDigit; (try dsimp only); (repeat' split) <;> simp
@[simp] theorem State.keyDigit_elapsed (k : Key) : (s.keyDigit k).2.elapsed = s.elapsed := by
  unfold State.keyDigit; (try dsimp only); (repeat' split) <;> simp
@[simp] theorem State.keyDigit_power (k : Key) : (s.keyDigit k).2.power = s.power := by
  unfold State.keyDigit; (try dsimp only); (repeat' split) <;> simp
@[simp] theorem State.keyDigit_clock (k : Key) : (s.keyDigit k).2.clock = s.clock := by
  unfold State.keyDigit; (try dsimp only); (repeat' split) <;> simp
@[simp] theorem State.keyDigit_service (k : Key) : (s.keyDigit k).2.service = s.service := by
  unfold State.keyDigit; (try dsimp only); (repeat' split) <;> simp
@[simp] theorem State.keyDigit_history (k : Key) : (s.keyDigit k).2.history = s.history := by
  unfold State.keyDigit; (try dsimp only); (repeat' split) <;> simp
@[simp] theorem State.keyDigit_nv (k : Key) : (s.keyDigit k).2.nv = s.nv := by
  unfold State.keyDigit; (try dsimp only); (repeat' split) <;> simp
@[simp] theorem State.keyDigit_restores (k : Key) : (s.keyDigit k).2.restores = s.restores := by
  unfold State.keyDigit; (try dsimp only); (repeat' split) <;> simp

@[simp] theorem State.clearDial_now : (s.clearDial).2.now = s.now := by
  unfold State.clearDial; (try dsimp only); (repeat' split) <;> simp
@[simp] theorem State.clearDial_pending : (s.clearDial).2.pending = s.pending := by
  unfold State.clearDial; (try dsimp only); (repeat' split) <;> simp
@[simp] theorem State.clearDial_coin : (s.clearDial).2.coin = s.coin := by
  unfold State.clearDial; (try dsimp only); (repeat' split) <;> simp
@[simp] theorem State.clearDial_credit : (s.clearDial).2.credit = s.credit := by
  unfold State.clearDial; (try dsimp only); (repeat' split) <;> simp
@[simp] theorem State.clearDial_arbiter : (s.clearDial).2.arbiter = s.arbiter := by
  unfold State.clearDial; (try dsimp only); (repeat' split) <;> simp
@[simp] theorem State.clearDial_tamper : (s.clearDial).2.tamper = s.tamper := by
  unfold State.clearDial; (try dsimp only); (repeat' split) <;> simp
@[simp] theorem State.clearDial_elapsed : (s.clearDial).2.elapsed = s.elapsed := by
  unfold State.clearDial; (try dsimp only); (repeat' split) <;> simp
@[simp] theorem State.clearDial_centre : (s.clearDial).2.centre = s.centre := by
  unfold State.clearDial; (try dsimp only); (repeat' split) <;> simp
@[simp] theorem State.clearDial_modem : (s.clearDial).2.modem = s.modem := by
  unfold State.clearDial; (try dsimp only); (repeat' split) <;> simp
@[simp] theorem State.clearDial_ledger : (s.clearDial).2.ledger = s.ledger := by
  unfold State.clearDial; (try dsimp only); (repeat' split) <;> simp
@[simp] theorem State.clearDial_power : (s.clearDial).2.power = s.power := by
  unfold State.clearDial; (try dsimp only); (repeat' split) <;> simp
@[simp] theorem State.clearDial_clock : (s.clearDial).2.clock = s.clock := by
  unfold State.clearDial; (try dsimp only); (repeat' split) <;> simp
@[simp] theorem State.clearDial_setPort : (s.clearDial).2.setPort = s.setPort := by
  unfold State.clearDial; (try dsimp only); (repeat' split) <;> simp
@[simp] theorem State.clearDial_service : (s.clearDial).2.service = s.service := by
  unfold State.clearDial; (try dsimp only); (repeat' split) <;> simp
@[simp] theorem State.clearDial_config : (s.clearDial).2.config = s.config := by
  unfold State.clearDial; (try dsimp only); (repeat' split) <;> simp
@[simp] theorem State.clearDial_image0 : (s.clearDial).2.image0 = s.image0 := by
  unfold State.clearDial; (try dsimp only); (repeat' split) <;> simp
@[simp] theorem State.clearDial_image1 : (s.clearDial).2.image1 = s.image1 := by
  unfold State.clearDial; (try dsimp only); (repeat' split) <;> simp
@[simp] theorem State.clearDial_lifetime : (s.clearDial).2.lifetime = s.lifetime := by
  unfold State.clearDial; (try dsimp only); (repeat' split) <;> simp
@[simp] theorem State.clearDial_period : (s.clearDial).2.period = s.period := by
  unfold State.clearDial; (try dsimp only); (repeat' split) <;> simp
@[simp] theorem State.clearDial_history : (s.clearDial).2.history = s.history := by
  unfold State.clearDial; (try dsimp only); (repeat' split) <;> simp
@[simp] theorem State.clearDial_call : (s.clearDial).2.call = s.call := by
  unfold State.clearDial; (try dsimp only); (repeat' split) <;> simp
@[simp] theorem State.clearDial_events : (s.clearDial).2.events = s.events := by
  unfold State.clearDial; (try dsimp only); (repeat' split) <;> simp
@[simp] theorem State.clearDial_nv : (s.clearDial).2.nv = s.nv := by
  unfold State.clearDial; (try dsimp only); (repeat' split) <;> simp
@[simp] theorem State.clearDial_restores : (s.clearDial).2.restores = s.restores := by
  unfold State.clearDial; (try dsimp only); (repeat' split) <;> simp

@[simp] theorem State.startRecall_now : (s.startRecall).now = s.now := by
  unfold State.startRecall; (try dsimp only); (repeat' split) <;> simp
@[simp] theorem State.startRecall_pending : (s.startRecall).pending = s.pending := by
  unfold State.startRecall; (try dsimp only); (repeat' split) <;> simp
@[simp] theorem State.startRecall_coin : (s.startRecall).coin = s.coin := by
  unfold State.startRecall; (try dsimp only); (repeat' split) <;> simp
@[simp] theorem State.startRecall_credit : (s.startRecall).credit = s.credit := by
  unfold State.startRecall; (try dsimp only); (repeat' split) <;> simp
@[simp] theorem State.startRecall_arbiter : (s.startRecall).arbiter = s.arbiter := by
  unfold State.startRecall; (try dsimp only); (repeat' split) <;> simp
@[simp] theorem State.startRecall_tamper : (s.startRecall).tamper = s.tamper := by
  unfold State.startRecall; (try dsimp only); (repeat' split) <;> simp
@[simp] theorem State.startRecall_elapsed : (s.startRecall).elapsed = s.elapsed := by
  unfold State.startRecall; (try dsimp only); (repeat' split) <;> simp
@[simp] theorem State.startRecall_centre : (s.startRecall).centre = s.centre := by
  unfold State.startRecall; (try dsimp only); (repeat' split) <;> simp
@[simp] theorem State.startRecall_modem : (s.startRecall).modem = s.modem := by
  unfold State.startRecall; (try dsimp only); (repeat' split) <;> simp
@[simp] theorem State.startRecall_ledger : (s.startRecall).ledger = s.ledger := by
  unfold State.startRecall; (try dsimp only); (repeat' split) <;> simp
@[simp] theorem State.startRecall_power : (s.startRecall).power = s.power := by
  unfold State.startRecall; (try dsimp only); (repeat' split) <;> simp
@[simp] theorem State.startRecall_clock : (s.startRecall).clock = s.clock := by
  unfold State.startRecall; (try dsimp only); (repeat' split) <;> simp
@[simp] theorem State.startRecall_service : (s.startRecall).service = s.service := by
  unfold State.startRecall; (try dsimp only); (repeat' split) <;> simp
@[simp] theorem State.startRecall_config : (s.startRecall).config = s.config := by
  unfold State.startRecall; (try dsimp only); (repeat' split) <;> simp
@[simp] theorem State.startRecall_image0 : (s.startRecall).image0 = s.image0 := by
  unfold State.startRecall; (try dsimp only); (repeat' split) <;> simp
@[simp] theorem State.startRecall_image1 : (s.startRecall).image1 = s.image1 := by
  unfold State.startRecall; (try dsimp only); (repeat' split) <;> simp
@[simp] theorem State.startRecall_lifetime : (s.startRecall).lifetime = s.lifetime := by
  unfold State.startRecall; (try dsimp only); (repeat' split) <;> simp
@[simp] theorem State.startRecall_period : (s.startRecall).period = s.period := by
  unfold State.startRecall; (try dsimp only); (repeat' split) <;> simp
@[simp] theorem State.startRecall_history : (s.startRecall).history = s.history := by
  unfold State.startRecall; (try dsimp only); (repeat' split) <;> simp
@[simp] theorem State.startRecall_call : (s.startRecall).call = s.call := by
  unfold State.startRecall; (try dsimp only); (repeat' split) <;> simp
@[simp] theorem State.startRecall_events : (s.startRecall).events = s.events := by
  unfold State.startRecall; (try dsimp only); (repeat' split) <;> simp
@[simp] theorem State.startRecall_nv : (s.startRecall).nv = s.nv := by
  unfold State.startRecall; (try dsimp only); (repeat' split) <;> simp
@[simp] theorem State.startRecall_restores : (s.startRecall).restores = s.restores := by
  unfold State.startRecall; (try dsimp only); (repeat' split) <;> simp

@[simp] theorem State.followOn_now : (s.followOn).2.now = s.now := by
  unfold State.followOn; (try dsimp only); (repeat' split) <;> simp
@[simp] theorem State.followOn_pending : (s.followOn).2.pending = s.pending := by
  unfold State.followOn; (try dsimp only); (repeat' split) <;> simp
@[simp] theorem State.followOn_coin : (s.followOn).2.coin = s.coin := by
  unfold State.followOn; (try dsimp only); (repeat' split) <;> simp
@[simp] theorem State.followOn_credit : (s.followOn).2.credit = s.credit := by
  unfold State.followOn; (try dsimp only); (repeat' split) <;> simp
@[simp] theorem State.followOn_arbiter : (s.followOn).2.arbiter = s.arbiter := by
  unfold State.followOn; (try dsimp only); (repeat' split) <;> simp
@[simp] theorem State.followOn_tamper : (s.followOn).2.tamper = s.tamper := by
  unfold State.followOn; (try dsimp only); (repeat' split) <;> simp
@[simp] theorem State.followOn_elapsed : (s.followOn).2.elapsed = s.elapsed := by
  unfold State.followOn; (try dsimp only); (repeat' split) <;> simp
@[simp] theorem State.followOn_centre : (s.followOn).2.centre = s.centre := by
  unfold State.followOn; (try dsimp only); (repeat' split) <;> simp
@[simp] theorem State.followOn_modem : (s.followOn).2.modem = s.modem := by
  unfold State.followOn; (try dsimp only); (repeat' split) <;> simp
@[simp] theorem State.followOn_ledger : (s.followOn).2.ledger = s.ledger := by
  unfold State.followOn; (try dsimp only); (repeat' split) <;> simp
@[simp] theorem State.followOn_power : (s.followOn).2.power = s.power := by
  unfold State.followOn; (try dsimp only); (repeat' split) <;> simp
@[simp] theorem State.followOn_clock : (s.followOn).2.clock = s.clock := by
  unfold State.followOn; (try dsimp only); (repeat' split) <;> simp
@[simp] theorem State.followOn_service : (s.followOn).2.service = s.service := by
  unfold State.followOn; (try dsimp only); (repeat' split) <;> simp
@[simp] theorem State.followOn_config : (s.followOn).2.config = s.config := by
  unfold State.followOn; (try dsimp only); (repeat' split) <;> simp
@[simp] theorem State.followOn_image0 : (s.followOn).2.image0 = s.image0 := by
  unfold State.followOn; (try dsimp only); (repeat' split) <;> simp
@[simp] theorem State.followOn_image1 : (s.followOn).2.image1 = s.image1 := by
  unfold State.followOn; (try dsimp only); (repeat' split) <;> simp
@[simp] theorem State.followOn_lifetime : (s.followOn).2.lifetime = s.lifetime := by
  unfold State.followOn; (try dsimp only); (repeat' split) <;> simp
@[simp] theorem State.followOn_period : (s.followOn).2.period = s.period := by
  unfold State.followOn; (try dsimp only); (repeat' split) <;> simp
@[simp] theorem State.followOn_history : (s.followOn).2.history = s.history := by
  unfold State.followOn; (try dsimp only); (repeat' split) <;> simp
@[simp] theorem State.followOn_call : (s.followOn).2.call = s.call := by
  unfold State.followOn; (try dsimp only); (repeat' split) <;> simp
@[simp] theorem State.followOn_events : (s.followOn).2.events = s.events := by
  unfold State.followOn; (try dsimp only); (repeat' split) <;> simp
@[simp] theorem State.followOn_nv : (s.followOn).2.nv = s.nv := by
  unfold State.followOn; (try dsimp only); (repeat' split) <;> simp
@[simp] theorem State.followOn_restores : (s.followOn).2.restores = s.restores := by
  unfold State.followOn; (try dsimp only); (repeat' split) <;> simp

@[simp] theorem State.digitSent_now : (s.digitSent).now = s.now := by
  unfold State.digitSent; (try dsimp only); (repeat' split) <;> simp
@[simp] theorem State.digitSent_pending : (s.digitSent).pending = s.pending := by
  unfold State.digitSent; (try dsimp only); (repeat' split) <;> simp
@[simp] theorem State.digitSent_elapsed : (s.digitSent).elapsed = s.elapsed := by
  unfold State.digitSent; (try dsimp only); (repeat' split) <;> simp
@[simp] theorem State.digitSent_power : (s.digitSent).power = s.power := by
  unfold State.digitSent; (try dsimp only); (repeat' split) <;> simp
@[simp] theorem State.digitSent_clock : (s.digitSent).clock = s.clock := by
  unfold State.digitSent; (try dsimp only); (repeat' split) <;> simp
@[simp] theorem State.digitSent_service : (s.digitSent).service = s.service := by
  unfold State.digitSent; (try dsimp only); (repeat' split) <;> simp
@[simp] theorem State.digitSent_history : (s.digitSent).history = s.history := by
  unfold State.digitSent; (try dsimp only); (repeat' split) <;> simp
@[simp] theorem State.digitSent_nv : (s.digitSent).nv = s.nv := by
  unfold State.digitSent; (try dsimp only); (repeat' split) <;> simp
@[simp] theorem State.digitSent_restores : (s.digitSent).restores = s.restores := by
  unfold State.digitSent; (try dsimp only); (repeat' split) <;> simp

@[simp] theorem State.pauseEnded_now : (s.pauseEnded).now = s.now := by
  unfold State.pauseEnded; (try dsimp only); (repeat' split) <;> simp
@[simp] theorem State.pauseEnded_pending : (s.pauseEnded).pending = s.pending := by
  unfold State.pauseEnded; (try dsimp only); (repeat' split) <;> simp
@[simp] theorem State.pauseEnded_coin : (s.pauseEnded).coin = s.coin := by
  unfold State.pauseEnded; (try dsimp only); (repeat' split) <;> simp
@[simp] theorem State.pauseEnded_credit : (s.pauseEnded).credit = s.credit := by
  unfold State.pauseEnded; (try dsimp only); (repeat' split) <;> simp
@[simp] theorem State.pauseEnded_rating : (s.pauseEnded).rating = s.rating := by
  unfold State.pauseEnded; (try dsimp only); (repeat' split) <;> simp
@[simp] theorem State.pauseEnded_arbiter : (s.pauseEnded).arbiter = s.arbiter := by
  unfold State.pauseEnded; (try dsimp only); (repeat' split) <;> simp
@[simp] theorem State.pauseEnded_tamper : (s.pauseEnded).tamper = s.tamper := by
  unfold State.pauseEnded; (try dsimp only); (repeat' split) <;> simp
@[simp] theorem State.pauseEnded_elapsed : (s.pauseEnded).elapsed = s.elapsed := by
  unfold State.pauseEnded; (try dsimp only); (repeat' split) <;> simp
@[simp] theorem State.pauseEnded_centre : (s.pauseEnded).centre = s.centre := by
  unfold State.pauseEnded; (try dsimp only); (repeat' split) <;> simp
@[simp] theorem State.pauseEnded_modem : (s.pauseEnded).modem = s.modem := by
  unfold State.pauseEnded; (try dsimp only); (repeat' split) <;> simp
@[simp] theorem State.pauseEnded_ledger : (s.pauseEnded).ledger = s.ledger := by
  unfold State.pauseEnded; (try dsimp only); (repeat' split) <;> simp
@[simp] theorem State.pauseEnded_power : (s.pauseEnded).power = s.power := by
  unfold State.pauseEnded; (try dsimp only); (repeat' split) <;> simp
@[simp] theorem State.pauseEnded_clock : (s.pauseEnded).clock = s.clock := by
  unfold State.pauseEnded; (try dsimp only); (repeat' split) <;> simp
@[simp] theorem State.pauseEnded_setPort : (s.pauseEnded).setPort = s.setPort := by
  unfold State.pauseEnded; (try dsimp only); (repeat' split) <;> simp
@[simp] theorem State.pauseEnded_service : (s.pauseEnded).service = s.service := by
  unfold State.pauseEnded; (try dsimp only); (repeat' split) <;> simp
@[simp] theorem State.pauseEnded_config : (s.pauseEnded).config = s.config := by
  unfold State.pauseEnded; (try dsimp only); (repeat' split) <;> simp
@[simp] theorem State.pauseEnded_image0 : (s.pauseEnded).image0 = s.image0 := by
  unfold State.pauseEnded; (try dsimp only); (repeat' split) <;> simp
@[simp] theorem State.pauseEnded_image1 : (s.pauseEnded).image1 = s.image1 := by
  unfold State.pauseEnded; (try dsimp only); (repeat' split) <;> simp
@[simp] theorem State.pauseEnded_lifetime : (s.pauseEnded).lifetime = s.lifetime := by
  unfold State.pauseEnded; (try dsimp only); (repeat' split) <;> simp
@[simp] theorem State.pauseEnded_period : (s.pauseEnded).period = s.period := by
  unfold State.pauseEnded; (try dsimp only); (repeat' split) <;> simp
@[simp] theorem State.pauseEnded_history : (s.pauseEnded).history = s.history := by
  unfold State.pauseEnded; (try dsimp only); (repeat' split) <;> simp
@[simp] theorem State.pauseEnded_call : (s.pauseEnded).call = s.call := by
  unfold State.pauseEnded; (try dsimp only); (repeat' split) <;> simp
@[simp] theorem State.pauseEnded_events : (s.pauseEnded).events = s.events := by
  unfold State.pauseEnded; (try dsimp only); (repeat' split) <;> simp
@[simp] theorem State.pauseEnded_nv : (s.pauseEnded).nv = s.nv := by
  unfold State.pauseEnded; (try dsimp only); (repeat' split) <;> simp
@[simp] theorem State.pauseEnded_restores : (s.pauseEnded).restores = s.restores := by
  unfold State.pauseEnded; (try dsimp only); (repeat' split) <;> simp

@[simp] theorem State.polarityReversed_now : (s.polarityReversed).now = s.now := by
  unfold State.polarityReversed; (try dsimp only); (repeat' split) <;> simp
@[simp] theorem State.polarityReversed_pending : (s.polarityReversed).pending = s.pending := by
  unfold State.polarityReversed; (try dsimp only); (repeat' split) <;> simp
@[simp] theorem State.polarityReversed_elapsed : (s.polarityReversed).elapsed = s.elapsed := by
  unfold State.polarityReversed; (try dsimp only); (repeat' split) <;> simp
@[simp] theorem State.polarityReversed_power : (s.polarityReversed).power = s.power := by
  unfold State.polarityReversed; (try dsimp only); (repeat' split) <;> simp
@[simp] theorem State.polarityReversed_clock : (s.polarityReversed).clock = s.clock := by
  unfold State.polarityReversed; (try dsimp only); (repeat' split) <;> simp
@[simp] theorem State.polarityReversed_service : (s.polarityReversed).service = s.service := by
  unfold State.polarityReversed; (try dsimp only); (repeat' split) <;> simp
@[simp] theorem State.polarityReversed_history : (s.polarityReversed).history = s.history := by
  unfold State.polarityReversed; (try dsimp only); (repeat' split) <;> simp
@[simp] theorem State.polarityReversed_nv : (s.polarityReversed).nv = s.nv := by
  unfold State.polarityReversed; (try dsimp only); (repeat' split) <;> simp
@[simp] theorem State.polarityReversed_restores : (s.polarityReversed).restores = s.restores := by
  unfold State.polarityReversed; (try dsimp only); (repeat' split) <;> simp

@[simp] theorem State.farEndClear_now : (s.farEndClear).now = s.now := by
  unfold State.farEndClear; (try dsimp only); (repeat' split) <;> simp
@[simp] theorem State.farEndClear_pending : (s.farEndClear).pending = s.pending := by
  unfold State.farEndClear; (try dsimp only); (repeat' split) <;> simp
@[simp] theorem State.farEndClear_coin : (s.farEndClear).coin = s.coin := by
  unfold State.farEndClear; (try dsimp only); (repeat' split) <;> simp
@[simp] theorem State.farEndClear_credit : (s.farEndClear).credit = s.credit := by
  unfold State.farEndClear; (try dsimp only); (repeat' split) <;> simp
@[simp] theorem State.farEndClear_arbiter : (s.farEndClear).arbiter = s.arbiter := by
  unfold State.farEndClear; (try dsimp only); (repeat' split) <;> simp
@[simp] theorem State.farEndClear_tamper : (s.farEndClear).tamper = s.tamper := by
  unfold State.farEndClear; (try dsimp only); (repeat' split) <;> simp
@[simp] theorem State.farEndClear_elapsed : (s.farEndClear).elapsed = s.elapsed := by
  unfold State.farEndClear; (try dsimp only); (repeat' split) <;> simp
@[simp] theorem State.farEndClear_centre : (s.farEndClear).centre = s.centre := by
  unfold State.farEndClear; (try dsimp only); (repeat' split) <;> simp
@[simp] theorem State.farEndClear_modem : (s.farEndClear).modem = s.modem := by
  unfold State.farEndClear; (try dsimp only); (repeat' split) <;> simp
@[simp] theorem State.farEndClear_ledger : (s.farEndClear).ledger = s.ledger := by
  unfold State.farEndClear; (try dsimp only); (repeat' split) <;> simp
@[simp] theorem State.farEndClear_power : (s.farEndClear).power = s.power := by
  unfold State.farEndClear; (try dsimp only); (repeat' split) <;> simp
@[simp] theorem State.farEndClear_clock : (s.farEndClear).clock = s.clock := by
  unfold State.farEndClear; (try dsimp only); (repeat' split) <;> simp
@[simp] theorem State.farEndClear_service : (s.farEndClear).service = s.service := by
  unfold State.farEndClear; (try dsimp only); (repeat' split) <;> simp
@[simp] theorem State.farEndClear_config : (s.farEndClear).config = s.config := by
  unfold State.farEndClear; (try dsimp only); (repeat' split) <;> simp
@[simp] theorem State.farEndClear_image0 : (s.farEndClear).image0 = s.image0 := by
  unfold State.farEndClear; (try dsimp only); (repeat' split) <;> simp
@[simp] theorem State.farEndClear_image1 : (s.farEndClear).image1 = s.image1 := by
  unfold State.farEndClear; (try dsimp only); (repeat' split) <;> simp
@[simp] theorem State.farEndClear_lifetime : (s.farEndClear).lifetime = s.lifetime := by
  unfold State.farEndClear; (try dsimp only); (repeat' split) <;> simp
@[simp] theorem State.farEndClear_period : (s.farEndClear).period = s.period := by
  unfold State.farEndClear; (try dsimp only); (repeat' split) <;> simp
@[simp] theorem State.farEndClear_history : (s.farEndClear).history = s.history := by
  unfold State.farEndClear; (try dsimp only); (repeat' split) <;> simp
@[simp] theorem State.farEndClear_call : (s.farEndClear).call = s.call := by
  unfold State.farEndClear; (try dsimp only); (repeat' split) <;> simp
@[simp] theorem State.farEndClear_events : (s.farEndClear).events = s.events := by
  unfold State.farEndClear; (try dsimp only); (repeat' split) <;> simp
@[simp] theorem State.farEndClear_nv : (s.farEndClear).nv = s.nv := by
  unfold State.farEndClear; (try dsimp only); (repeat' split) <;> simp
@[simp] theorem State.farEndClear_restores : (s.farEndClear).restores = s.restores := by
  unfold State.farEndClear; (try dsimp only); (repeat' split) <;> simp

@[simp] theorem State.clearBack_now : (s.clearBack).now = s.now := by
  unfold State.clearBack; (try dsimp only); (repeat' split) <;> simp
@[simp] theorem State.clearBack_pending : (s.clearBack).pending = s.pending := by
  unfold State.clearBack; (try dsimp only); (repeat' split) <;> simp
@[simp] theorem State.clearBack_coin : (s.clearBack).coin = s.coin := by
  unfold State.clearBack; (try dsimp only); (repeat' split) <;> simp
@[simp] theorem State.clearBack_credit : (s.clearBack).credit = s.credit := by
  unfold State.clearBack; (try dsimp only); (repeat' split) <;> simp
@[simp] theorem State.clearBack_tamper : (s.clearBack).tamper = s.tamper := by
  unfold State.clearBack; (try dsimp only); (repeat' split) <;> simp
@[simp] theorem State.clearBack_elapsed : (s.clearBack).elapsed = s.elapsed := by
  unfold State.clearBack; (try dsimp only); (repeat' split) <;> simp
@[simp] theorem State.clearBack_power : (s.clearBack).power = s.power := by
  unfold State.clearBack; (try dsimp only); (repeat' split) <;> simp
@[simp] theorem State.clearBack_clock : (s.clearBack).clock = s.clock := by
  unfold State.clearBack; (try dsimp only); (repeat' split) <;> simp
@[simp] theorem State.clearBack_service : (s.clearBack).service = s.service := by
  unfold State.clearBack; (try dsimp only); (repeat' split) <;> simp
@[simp] theorem State.clearBack_config : (s.clearBack).config = s.config := by
  unfold State.clearBack; (try dsimp only); (repeat' split) <;> simp
@[simp] theorem State.clearBack_image0 : (s.clearBack).image0 = s.image0 := by
  unfold State.clearBack; (try dsimp only); (repeat' split) <;> simp
@[simp] theorem State.clearBack_image1 : (s.clearBack).image1 = s.image1 := by
  unfold State.clearBack; (try dsimp only); (repeat' split) <;> simp
@[simp] theorem State.clearBack_lifetime : (s.clearBack).lifetime = s.lifetime := by
  unfold State.clearBack; (try dsimp only); (repeat' split) <;> simp
@[simp] theorem State.clearBack_period : (s.clearBack).period = s.period := by
  unfold State.clearBack; (try dsimp only); (repeat' split) <;> simp
@[simp] theorem State.clearBack_history : (s.clearBack).history = s.history := by
  unfold State.clearBack; (try dsimp only); (repeat' split) <;> simp
@[simp] theorem State.clearBack_call : (s.clearBack).call = s.call := by
  unfold State.clearBack; (try dsimp only); (repeat' split) <;> simp
@[simp] theorem State.clearBack_nv : (s.clearBack).nv = s.nv := by
  unfold State.clearBack; (try dsimp only); (repeat' split) <;> simp
@[simp] theorem State.clearBack_restores : (s.clearBack).restores = s.restores := by
  unfold State.clearBack; (try dsimp only); (repeat' split) <;> simp

@[simp] theorem State.polarityReturned_now : (s.polarityReturned).now = s.now := by
  unfold State.polarityReturned; (try dsimp only); (repeat' split) <;> simp
@[simp] theorem State.polarityReturned_pending : (s.polarityReturned).pending = s.pending := by
  unfold State.polarityReturned; (try dsimp only); (repeat' split) <;> simp
@[simp] theorem State.polarityReturned_coin : (s.polarityReturned).coin = s.coin := by
  unfold State.polarityReturned; (try dsimp only); (repeat' split) <;> simp
@[simp] theorem State.polarityReturned_credit : (s.polarityReturned).credit = s.credit := by
  unfold State.polarityReturned; (try dsimp only); (repeat' split) <;> simp
@[simp] theorem State.polarityReturned_tamper : (s.polarityReturned).tamper = s.tamper := by
  unfold State.polarityReturned; (try dsimp only); (repeat' split) <;> simp
@[simp] theorem State.polarityReturned_elapsed : (s.polarityReturned).elapsed = s.elapsed := by
  unfold State.polarityReturned; (try dsimp only); (repeat' split) <;> simp
@[simp] theorem State.polarityReturned_power : (s.polarityReturned).power = s.power := by
  unfold State.polarityReturned; (try dsimp only); (repeat' split) <;> simp
@[simp] theorem State.polarityReturned_clock : (s.polarityReturned).clock = s.clock := by
  unfold State.polarityReturned; (try dsimp only); (repeat' split) <;> simp
@[simp] theorem State.polarityReturned_service : (s.polarityReturned).service = s.service := by
  unfold State.polarityReturned; (try dsimp only); (repeat' split) <;> simp
@[simp] theorem State.polarityReturned_config : (s.polarityReturned).config = s.config := by
  unfold State.polarityReturned; (try dsimp only); (repeat' split) <;> simp
@[simp] theorem State.polarityReturned_image0 : (s.polarityReturned).image0 = s.image0 := by
  unfold State.polarityReturned; (try dsimp only); (repeat' split) <;> simp
@[simp] theorem State.polarityReturned_image1 : (s.polarityReturned).image1 = s.image1 := by
  unfold State.polarityReturned; (try dsimp only); (repeat' split) <;> simp
@[simp] theorem State.polarityReturned_lifetime : (s.polarityReturned).lifetime = s.lifetime := by
  unfold State.polarityReturned; (try dsimp only); (repeat' split) <;> simp
@[simp] theorem State.polarityReturned_period : (s.polarityReturned).period = s.period := by
  unfold State.polarityReturned; (try dsimp only); (repeat' split) <;> simp
@[simp] theorem State.polarityReturned_history : (s.polarityReturned).history = s.history := by
  unfold State.polarityReturned; (try dsimp only); (repeat' split) <;> simp
@[simp] theorem State.polarityReturned_call : (s.polarityReturned).call = s.call := by
  unfold State.polarityReturned; (try dsimp only); (repeat' split) <;> simp
@[simp] theorem State.polarityReturned_nv : (s.polarityReturned).nv = s.nv := by
  unfold State.polarityReturned; (try dsimp only); (repeat' split) <;> simp
@[simp] theorem State.polarityReturned_restores : (s.polarityReturned).restores = s.restores := by
  unfold State.polarityReturned; (try dsimp only); (repeat' split) <;> simp

@[simp] theorem State.currentLost_now : (s.currentLost).now = s.now := by
  unfold State.currentLost; (try dsimp only); (repeat' split) <;> simp
@[simp] theorem State.currentLost_pending : (s.currentLost).pending = s.pending := by
  unfold State.currentLost; (try dsimp only); (repeat' split) <;> simp
@[simp] theorem State.currentLost_coin : (s.currentLost).coin = s.coin := by
  unfold State.currentLost; (try dsimp only); (repeat' split) <;> simp
@[simp] theorem State.currentLost_credit : (s.currentLost).credit = s.credit := by
  unfold State.currentLost; (try dsimp only); (repeat' split) <;> simp
@[simp] theorem State.currentLost_tamper : (s.currentLost).tamper = s.tamper := by
  unfold State.currentLost; (try dsimp only); (repeat' split) <;> simp
@[simp] theorem State.currentLost_elapsed : (s.currentLost).elapsed = s.elapsed := by
  unfold State.currentLost; (try dsimp only); (repeat' split) <;> simp
@[simp] theorem State.currentLost_power : (s.currentLost).power = s.power := by
  unfold State.currentLost; (try dsimp only); (repeat' split) <;> simp
@[simp] theorem State.currentLost_clock : (s.currentLost).clock = s.clock := by
  unfold State.currentLost; (try dsimp only); (repeat' split) <;> simp
@[simp] theorem State.currentLost_service : (s.currentLost).service = s.service := by
  unfold State.currentLost; (try dsimp only); (repeat' split) <;> simp
@[simp] theorem State.currentLost_config : (s.currentLost).config = s.config := by
  unfold State.currentLost; (try dsimp only); (repeat' split) <;> simp
@[simp] theorem State.currentLost_image0 : (s.currentLost).image0 = s.image0 := by
  unfold State.currentLost; (try dsimp only); (repeat' split) <;> simp
@[simp] theorem State.currentLost_image1 : (s.currentLost).image1 = s.image1 := by
  unfold State.currentLost; (try dsimp only); (repeat' split) <;> simp
@[simp] theorem State.currentLost_lifetime : (s.currentLost).lifetime = s.lifetime := by
  unfold State.currentLost; (try dsimp only); (repeat' split) <;> simp
@[simp] theorem State.currentLost_period : (s.currentLost).period = s.period := by
  unfold State.currentLost; (try dsimp only); (repeat' split) <;> simp
@[simp] theorem State.currentLost_history : (s.currentLost).history = s.history := by
  unfold State.currentLost; (try dsimp only); (repeat' split) <;> simp
@[simp] theorem State.currentLost_call : (s.currentLost).call = s.call := by
  unfold State.currentLost; (try dsimp only); (repeat' split) <;> simp
@[simp] theorem State.currentLost_nv : (s.currentLost).nv = s.nv := by
  unfold State.currentLost; (try dsimp only); (repeat' split) <;> simp
@[simp] theorem State.currentLost_restores : (s.currentLost).restores = s.restores := by
  unfold State.currentLost; (try dsimp only); (repeat' split) <;> simp

@[simp] theorem State.ringOnce_now : (s.ringOnce).now = s.now := by
  unfold State.ringOnce; (try dsimp only); (repeat' split) <;> simp
@[simp] theorem State.ringOnce_pending : (s.ringOnce).pending = s.pending := by
  unfold State.ringOnce; (try dsimp only); (repeat' split) <;> simp
@[simp] theorem State.ringOnce_coin : (s.ringOnce).coin = s.coin := by
  unfold State.ringOnce; (try dsimp only); (repeat' split) <;> simp
@[simp] theorem State.ringOnce_credit : (s.ringOnce).credit = s.credit := by
  unfold State.ringOnce; (try dsimp only); (repeat' split) <;> simp
@[simp] theorem State.ringOnce_rating : (s.ringOnce).rating = s.rating := by
  unfold State.ringOnce; (try dsimp only); (repeat' split) <;> simp
@[simp] theorem State.ringOnce_tamper : (s.ringOnce).tamper = s.tamper := by
  unfold State.ringOnce; (try dsimp only); (repeat' split) <;> simp
@[simp] theorem State.ringOnce_elapsed : (s.ringOnce).elapsed = s.elapsed := by
  unfold State.ringOnce; (try dsimp only); (repeat' split) <;> simp
@[simp] theorem State.ringOnce_centre : (s.ringOnce).centre = s.centre := by
  unfold State.ringOnce; (try dsimp only); (repeat' split) <;> simp
@[simp] theorem State.ringOnce_modem : (s.ringOnce).modem = s.modem := by
  unfold State.ringOnce; (try dsimp only); (repeat' split) <;> simp
@[simp] theorem State.ringOnce_ledger : (s.ringOnce).ledger = s.ledger := by
  unfold State.ringOnce; (try dsimp only); (repeat' split) <;> simp
@[simp] theorem State.ringOnce_power : (s.ringOnce).power = s.power := by
  unfold State.ringOnce; (try dsimp only); (repeat' split) <;> simp
@[simp] theorem State.ringOnce_clock : (s.ringOnce).clock = s.clock := by
  unfold State.ringOnce; (try dsimp only); (repeat' split) <;> simp
@[simp] theorem State.ringOnce_service : (s.ringOnce).service = s.service := by
  unfold State.ringOnce; (try dsimp only); (repeat' split) <;> simp
@[simp] theorem State.ringOnce_config : (s.ringOnce).config = s.config := by
  unfold State.ringOnce; (try dsimp only); (repeat' split) <;> simp
@[simp] theorem State.ringOnce_image0 : (s.ringOnce).image0 = s.image0 := by
  unfold State.ringOnce; (try dsimp only); (repeat' split) <;> simp
@[simp] theorem State.ringOnce_image1 : (s.ringOnce).image1 = s.image1 := by
  unfold State.ringOnce; (try dsimp only); (repeat' split) <;> simp
@[simp] theorem State.ringOnce_lifetime : (s.ringOnce).lifetime = s.lifetime := by
  unfold State.ringOnce; (try dsimp only); (repeat' split) <;> simp
@[simp] theorem State.ringOnce_period : (s.ringOnce).period = s.period := by
  unfold State.ringOnce; (try dsimp only); (repeat' split) <;> simp
@[simp] theorem State.ringOnce_history : (s.ringOnce).history = s.history := by
  unfold State.ringOnce; (try dsimp only); (repeat' split) <;> simp
@[simp] theorem State.ringOnce_call : (s.ringOnce).call = s.call := by
  unfold State.ringOnce; (try dsimp only); (repeat' split) <;> simp
@[simp] theorem State.ringOnce_events : (s.ringOnce).events = s.events := by
  unfold State.ringOnce; (try dsimp only); (repeat' split) <;> simp
@[simp] theorem State.ringOnce_nv : (s.ringOnce).nv = s.nv := by
  unfold State.ringOnce; (try dsimp only); (repeat' split) <;> simp
@[simp] theorem State.ringOnce_restores : (s.ringOnce).restores = s.restores := by
  unfold State.ringOnce; (try dsimp only); (repeat' split) <;> simp

@[simp] theorem State.ringsOver_now : (s.ringsOver).now = s.now := by
  unfold State.ringsOver; (try dsimp only); (repeat' split) <;> simp
@[simp] theorem State.ringsOver_pending : (s.ringsOver).pending = s.pending := by
  unfold State.ringsOver; (try dsimp only); (repeat' split) <;> simp
@[simp] theorem State.ringsOver_coin : (s.ringsOver).coin = s.coin := by
  unfold State.ringsOver; (try dsimp only); (repeat' split) <;> simp
@[simp] theorem State.ringsOver_credit : (s.ringsOver).credit = s.credit := by
  unfold State.ringsOver; (try dsimp only); (repeat' split) <;> simp
@[simp] theorem State.ringsOver_rating : (s.ringsOver).rating = s.rating := by
  unfold State.ringsOver; (try dsimp only); (repeat' split) <;> simp
@[simp] theorem State.ringsOver_tamper : (s.ringsOver).tamper = s.tamper := by
  unfold State.ringsOver; (try dsimp only); (repeat' split) <;> simp
@[simp] theorem State.ringsOver_elapsed : (s.ringsOver).elapsed = s.elapsed := by
  unfold State.ringsOver; (try dsimp only); (repeat' split) <;> simp
@[simp] theorem State.ringsOver_centre : (s.ringsOver).centre = s.centre := by
  unfold State.ringsOver; (try dsimp only); (repeat' split) <;> simp
@[simp] theorem State.ringsOver_modem : (s.ringsOver).modem = s.modem := by
  unfold State.ringsOver; (try dsimp only); (repeat' split) <;> simp
@[simp] theorem State.ringsOver_ledger : (s.ringsOver).ledger = s.ledger := by
  unfold State.ringsOver; (try dsimp only); (repeat' split) <;> simp
@[simp] theorem State.ringsOver_power : (s.ringsOver).power = s.power := by
  unfold State.ringsOver; (try dsimp only); (repeat' split) <;> simp
@[simp] theorem State.ringsOver_clock : (s.ringsOver).clock = s.clock := by
  unfold State.ringsOver; (try dsimp only); (repeat' split) <;> simp
@[simp] theorem State.ringsOver_service : (s.ringsOver).service = s.service := by
  unfold State.ringsOver; (try dsimp only); (repeat' split) <;> simp
@[simp] theorem State.ringsOver_config : (s.ringsOver).config = s.config := by
  unfold State.ringsOver; (try dsimp only); (repeat' split) <;> simp
@[simp] theorem State.ringsOver_image0 : (s.ringsOver).image0 = s.image0 := by
  unfold State.ringsOver; (try dsimp only); (repeat' split) <;> simp
@[simp] theorem State.ringsOver_image1 : (s.ringsOver).image1 = s.image1 := by
  unfold State.ringsOver; (try dsimp only); (repeat' split) <;> simp
@[simp] theorem State.ringsOver_lifetime : (s.ringsOver).lifetime = s.lifetime := by
  unfold State.ringsOver; (try dsimp only); (repeat' split) <;> simp
@[simp] theorem State.ringsOver_period : (s.ringsOver).period = s.period := by
  unfold State.ringsOver; (try dsimp only); (repeat' split) <;> simp
@[simp] theorem State.ringsOver_history : (s.ringsOver).history = s.history := by
  unfold State.ringsOver; (try dsimp only); (repeat' split) <;> simp
@[simp] theorem State.ringsOver_call : (s.ringsOver).call = s.call := by
  unfold State.ringsOver; (try dsimp only); (repeat' split) <;> simp
@[simp] theorem State.ringsOver_events : (s.ringsOver).events = s.events := by
  unfold State.ringsOver; (try dsimp only); (repeat' split) <;> simp
@[simp] theorem State.ringsOver_nv : (s.ringsOver).nv = s.nv := by
  unfold State.ringsOver; (try dsimp only); (repeat' split) <;> simp
@[simp] theorem State.ringsOver_restores : (s.ringsOver).restores = s.restores := by
  unfold State.ringsOver; (try dsimp only); (repeat' split) <;> simp

@[simp] theorem State.voltageLost_now : (s.voltageLost).now = s.now := by
  unfold State.voltageLost; (try dsimp only); (repeat' split) <;> simp
@[simp] theorem State.voltageLost_pending : (s.voltageLost).pending = s.pending := by
  unfold State.voltageLost; (try dsimp only); (repeat' split) <;> simp
@[simp] theorem State.voltageLost_coin : (s.voltageLost).coin = s.coin := by
  unfold State.voltageLost; (try dsimp only); (repeat' split) <;> simp
@[simp] theorem State.voltageLost_credit : (s.voltageLost).credit = s.credit := by
  unfold State.voltageLost; (try dsimp only); (repeat' split) <;> simp
@[simp] theorem State.voltageLost_arbiter : (s.voltageLost).arbiter = s.arbiter := by
  unfold State.voltageLost; (try dsimp only); (repeat' split) <;> simp
@[simp] theorem State.voltageLost_elapsed : (s.voltageLost).elapsed = s.elapsed := by
  unfold State.voltageLost; (try dsimp only); (repeat' split) <;> simp
@[simp] theorem State.voltageLost_centre : (s.voltageLost).centre = s.centre := by
  unfold State.voltageLost; (try dsimp only); (repeat' split) <;> simp
@[simp] theorem State.voltageLost_modem : (s.voltageLost).modem = s.modem := by
  unfold State.voltageLost; (try dsimp only); (repeat' split) <;> simp
@[simp] theorem State.voltageLost_power : (s.voltageLost).power = s.power := by
  unfold State.voltageLost; (try dsimp only); (repeat' split) <;> simp
@[simp] theorem State.voltageLost_clock : (s.voltageLost).clock = s.clock := by
  unfold State.voltageLost; (try dsimp only); (repeat' split) <;> simp
@[simp] theorem State.voltageLost_service : (s.voltageLost).service = s.service := by
  unfold State.voltageLost; (try dsimp only); (repeat' split) <;> simp
@[simp] theorem State.voltageLost_image0 : (s.voltageLost).image0 = s.image0 := by
  unfold State.voltageLost; (try dsimp only); (repeat' split) <;> simp
@[simp] theorem State.voltageLost_image1 : (s.voltageLost).image1 = s.image1 := by
  unfold State.voltageLost; (try dsimp only); (repeat' split) <;> simp
@[simp] theorem State.voltageLost_lifetime : (s.voltageLost).lifetime = s.lifetime := by
  unfold State.voltageLost; (try dsimp only); (repeat' split) <;> simp
@[simp] theorem State.voltageLost_period : (s.voltageLost).period = s.period := by
  unfold State.voltageLost; (try dsimp only); (repeat' split) <;> simp
@[simp] theorem State.voltageLost_history : (s.voltageLost).history = s.history := by
  unfold State.voltageLost; (try dsimp only); (repeat' split) <;> simp
@[simp] theorem State.voltageLost_call : (s.voltageLost).call = s.call := by
  unfold State.voltageLost; (try dsimp only); (repeat' split) <;> simp
@[simp] theorem State.voltageLost_nv : (s.voltageLost).nv = s.nv := by
  unfold State.voltageLost; (try dsimp only); (repeat' split) <;> simp
@[simp] theorem State.voltageLost_restores : (s.voltageLost).restores = s.restores := by
  unfold State.voltageLost; (try dsimp only); (repeat' split) <;> simp

@[simp] theorem State.voltageBack_now : (s.voltageBack).now = s.now := by
  unfold State.voltageBack; (try dsimp only); (repeat' split) <;> simp
@[simp] theorem State.voltageBack_pending : (s.voltageBack).pending = s.pending := by
  unfold State.voltageBack; (try dsimp only); (repeat' split) <;> simp
@[simp] theorem State.voltageBack_coin : (s.voltageBack).coin = s.coin := by
  unfold State.voltageBack; (try dsimp only); (repeat' split) <;> simp
@[simp] theorem State.voltageBack_credit : (s.voltageBack).credit = s.credit := by
  unfold State.voltageBack; (try dsimp only); (repeat' split) <;> simp
@[simp] theorem State.voltageBack_arbiter : (s.voltageBack).arbiter = s.arbiter := by
  unfold State.voltageBack; (try dsimp only); (repeat' split) <;> simp
@[simp] theorem State.voltageBack_elapsed : (s.voltageBack).elapsed = s.elapsed := by
  unfold State.voltageBack; (try dsimp only); (repeat' split) <;> simp
@[simp] theorem State.voltageBack_centre : (s.voltageBack).centre = s.centre := by
  unfold State.voltageBack; (try dsimp only); (repeat' split) <;> simp
@[simp] theorem State.voltageBack_modem : (s.voltageBack).modem = s.modem := by
  unfold State.voltageBack; (try dsimp only); (repeat' split) <;> simp
@[simp] theorem State.voltageBack_power : (s.voltageBack).power = s.power := by
  unfold State.voltageBack; (try dsimp only); (repeat' split) <;> simp
@[simp] theorem State.voltageBack_clock : (s.voltageBack).clock = s.clock := by
  unfold State.voltageBack; (try dsimp only); (repeat' split) <;> simp
@[simp] theorem State.voltageBack_service : (s.voltageBack).service = s.service := by
  unfold State.voltageBack; (try dsimp only); (repeat' split) <;> simp
@[simp] theorem State.voltageBack_image0 : (s.voltageBack).image0 = s.image0 := by
  unfold State.voltageBack; (try dsimp only); (repeat' split) <;> simp
@[simp] theorem State.voltageBack_image1 : (s.voltageBack).image1 = s.image1 := by
  unfold State.voltageBack; (try dsimp only); (repeat' split) <;> simp
@[simp] theorem State.voltageBack_lifetime : (s.voltageBack).lifetime = s.lifetime := by
  unfold State.voltageBack; (try dsimp only); (repeat' split) <;> simp
@[simp] theorem State.voltageBack_period : (s.voltageBack).period = s.period := by
  unfold State.voltageBack; (try dsimp only); (repeat' split) <;> simp
@[simp] theorem State.voltageBack_history : (s.voltageBack).history = s.history := by
  unfold State.voltageBack; (try dsimp only); (repeat' split) <;> simp
@[simp] theorem State.voltageBack_call : (s.voltageBack).call = s.call := by
  unfold State.voltageBack; (try dsimp only); (repeat' split) <;> simp
@[simp] theorem State.voltageBack_events : (s.voltageBack).events = s.events := by
  unfold State.voltageBack; (try dsimp only); (repeat' split) <;> simp
@[simp] theorem State.voltageBack_nv : (s.voltageBack).nv = s.nv := by
  unfold State.voltageBack; (try dsimp only); (repeat' split) <;> simp
@[simp] theorem State.voltageBack_restores : (s.voltageBack).restores = s.restores := by
  unfold State.voltageBack; (try dsimp only); (repeat' split) <;> simp

end Sys2Proof.Machine
end

