-- ==== Sys2Proof/Laws/SetOps.lean ====
section
/-!
SUPPORT. What each operation of Machine/SetOps.lean leaves alone: one lemma for each field of `State` that it never
touches.  What it does to the fields it touches stands in its definition.
-/

set_option linter.unusedTactic false
set_option linter.unnecessarySeqFocus false
set_option linter.unreachableTactic false

namespace Sys2Proof.Machine

variable (s : State)

@[simp] theorem State.shifts_now (o : ShiftedOut) : (s.shifts o).now = s.now := by
  unfold State.shifts; (try dsimp only); (repeat' split) <;> simp
@[simp] theorem State.shifts_pending (o : ShiftedOut) : (s.shifts o).pending = s.pending := by
  unfold State.shifts; (try dsimp only); (repeat' split) <;> simp
@[simp] theorem State.shifts_coin (o : ShiftedOut) : (s.shifts o).coin = s.coin := by
  unfold State.shifts; (try dsimp only); (repeat' split) <;> simp
@[simp] theorem State.shifts_credit (o : ShiftedOut) : (s.shifts o).credit = s.credit := by
  unfold State.shifts; (try dsimp only); (repeat' split) <;> simp
@[simp] theorem State.shifts_rating (o : ShiftedOut) : (s.shifts o).rating = s.rating := by
  unfold State.shifts; (try dsimp only); (repeat' split) <;> simp
@[simp] theorem State.shifts_line (o : ShiftedOut) : (s.shifts o).line = s.line := by
  unfold State.shifts; (try dsimp only); (repeat' split) <;> simp
@[simp] theorem State.shifts_arbiter (o : ShiftedOut) : (s.shifts o).arbiter = s.arbiter := by
  unfold State.shifts; (try dsimp only); (repeat' split) <;> simp
@[simp] theorem State.shifts_tamper (o : ShiftedOut) : (s.shifts o).tamper = s.tamper := by
  unfold State.shifts; (try dsimp only); (repeat' split) <;> simp
@[simp] theorem State.shifts_elapsed (o : ShiftedOut) : (s.shifts o).elapsed = s.elapsed := by
  unfold State.shifts; (try dsimp only); (repeat' split) <;> simp
@[simp] theorem State.shifts_centre (o : ShiftedOut) : (s.shifts o).centre = s.centre := by
  unfold State.shifts; (try dsimp only); (repeat' split) <;> simp
@[simp] theorem State.shifts_modem (o : ShiftedOut) : (s.shifts o).modem = s.modem := by
  unfold State.shifts; (try dsimp only); (repeat' split) <;> simp
@[simp] theorem State.shifts_ledger (o : ShiftedOut) : (s.shifts o).ledger = s.ledger := by
  unfold State.shifts; (try dsimp only); (repeat' split) <;> simp
@[simp] theorem State.shifts_power (o : ShiftedOut) : (s.shifts o).power = s.power := by
  unfold State.shifts; (try dsimp only); (repeat' split) <;> simp
@[simp] theorem State.shifts_clock (o : ShiftedOut) : (s.shifts o).clock = s.clock := by
  unfold State.shifts; (try dsimp only); (repeat' split) <;> simp
@[simp] theorem State.shifts_service (o : ShiftedOut) : (s.shifts o).service = s.service := by
  unfold State.shifts; (try dsimp only); (repeat' split) <;> simp
@[simp] theorem State.shifts_config (o : ShiftedOut) : (s.shifts o).config = s.config := by
  unfold State.shifts; (try dsimp only); (repeat' split) <;> simp
@[simp] theorem State.shifts_image0 (o : ShiftedOut) : (s.shifts o).image0 = s.image0 := by
  unfold State.shifts; (try dsimp only); (repeat' split) <;> simp
@[simp] theorem State.shifts_image1 (o : ShiftedOut) : (s.shifts o).image1 = s.image1 := by
  unfold State.shifts; (try dsimp only); (repeat' split) <;> simp
@[simp] theorem State.shifts_lifetime (o : ShiftedOut) : (s.shifts o).lifetime = s.lifetime := by
  unfold State.shifts; (try dsimp only); (repeat' split) <;> simp
@[simp] theorem State.shifts_period (o : ShiftedOut) : (s.shifts o).period = s.period := by
  unfold State.shifts; (try dsimp only); (repeat' split) <;> simp
@[simp] theorem State.shifts_history (o : ShiftedOut) : (s.shifts o).history = s.history := by
  unfold State.shifts; (try dsimp only); (repeat' split) <;> simp
@[simp] theorem State.shifts_call (o : ShiftedOut) : (s.shifts o).call = s.call := by
  unfold State.shifts; (try dsimp only); (repeat' split) <;> simp
@[simp] theorem State.shifts_events (o : ShiftedOut) : (s.shifts o).events = s.events := by
  unfold State.shifts; (try dsimp only); (repeat' split) <;> simp
@[simp] theorem State.shifts_nv (o : ShiftedOut) : (s.shifts o).nv = s.nv := by
  unfold State.shifts; (try dsimp only); (repeat' split) <;> simp
@[simp] theorem State.shifts_restores (o : ShiftedOut) : (s.shifts o).restores = s.restores := by
  unfold State.shifts; (try dsimp only); (repeat' split) <;> simp

@[simp] theorem State.clearNotices_now (m : Half) : (s.clearNotices m).now = s.now := by
  unfold State.clearNotices; (try dsimp only); (repeat' split) <;> simp
@[simp] theorem State.clearNotices_pending (m : Half) : (s.clearNotices m).pending = s.pending := by
  unfold State.clearNotices; (try dsimp only); (repeat' split) <;> simp
@[simp] theorem State.clearNotices_coin (m : Half) : (s.clearNotices m).coin = s.coin := by
  unfold State.clearNotices; (try dsimp only); (repeat' split) <;> simp
@[simp] theorem State.clearNotices_credit (m : Half) : (s.clearNotices m).credit = s.credit := by
  unfold State.clearNotices; (try dsimp only); (repeat' split) <;> simp
@[simp] theorem State.clearNotices_rating (m : Half) : (s.clearNotices m).rating = s.rating := by
  unfold State.clearNotices; (try dsimp only); (repeat' split) <;> simp
@[simp] theorem State.clearNotices_line (m : Half) : (s.clearNotices m).line = s.line := by
  unfold State.clearNotices; (try dsimp only); (repeat' split) <;> simp
@[simp] theorem State.clearNotices_arbiter (m : Half) : (s.clearNotices m).arbiter = s.arbiter := by
  unfold State.clearNotices; (try dsimp only); (repeat' split) <;> simp
@[simp] theorem State.clearNotices_tamper (m : Half) : (s.clearNotices m).tamper = s.tamper := by
  unfold State.clearNotices; (try dsimp only); (repeat' split) <;> simp
@[simp] theorem State.clearNotices_elapsed (m : Half) : (s.clearNotices m).elapsed = s.elapsed := by
  unfold State.clearNotices; (try dsimp only); (repeat' split) <;> simp
@[simp] theorem State.clearNotices_centre (m : Half) : (s.clearNotices m).centre = s.centre := by
  unfold State.clearNotices; (try dsimp only); (repeat' split) <;> simp
@[simp] theorem State.clearNotices_modem (m : Half) : (s.clearNotices m).modem = s.modem := by
  unfold State.clearNotices; (try dsimp only); (repeat' split) <;> simp
@[simp] theorem State.clearNotices_power (m : Half) : (s.clearNotices m).power = s.power := by
  unfold State.clearNotices; (try dsimp only); (repeat' split) <;> simp
@[simp] theorem State.clearNotices_clock (m : Half) : (s.clearNotices m).clock = s.clock := by
  unfold State.clearNotices; (try dsimp only); (repeat' split) <;> simp
@[simp] theorem State.clearNotices_service (m : Half) : (s.clearNotices m).service = s.service := by
  unfold State.clearNotices; (try dsimp only); (repeat' split) <;> simp
@[simp] theorem State.clearNotices_config (m : Half) : (s.clearNotices m).config = s.config := by
  unfold State.clearNotices; (try dsimp only); (repeat' split) <;> simp
@[simp] theorem State.clearNotices_image0 (m : Half) : (s.clearNotices m).image0 = s.image0 := by
  unfold State.clearNotices; (try dsimp only); (repeat' split) <;> simp
@[simp] theorem State.clearNotices_image1 (m : Half) : (s.clearNotices m).image1 = s.image1 := by
  unfold State.clearNotices; (try dsimp only); (repeat' split) <;> simp
@[simp] theorem State.clearNotices_lifetime (m : Half) : (s.clearNotices m).lifetime = s.lifetime := by
  unfold State.clearNotices; (try dsimp only); (repeat' split) <;> simp
@[simp] theorem State.clearNotices_period (m : Half) : (s.clearNotices m).period = s.period := by
  unfold State.clearNotices; (try dsimp only); (repeat' split) <;> simp
@[simp] theorem State.clearNotices_history (m : Half) : (s.clearNotices m).history = s.history := by
  unfold State.clearNotices; (try dsimp only); (repeat' split) <;> simp
@[simp] theorem State.clearNotices_call (m : Half) : (s.clearNotices m).call = s.call := by
  unfold State.clearNotices; (try dsimp only); (repeat' split) <;> simp
@[simp] theorem State.clearNotices_nv (m : Half) : (s.clearNotices m).nv = s.nv := by
  unfold State.clearNotices; (try dsimp only); (repeat' split) <;> simp
@[simp] theorem State.clearNotices_restores (m : Half) : (s.clearNotices m).restores = s.restores := by
  unfold State.clearNotices; (try dsimp only); (repeat' split) <;> simp

@[simp] theorem State.setClock_now (v : ClockValues) : (s.setClock v).now = s.now := by
  unfold State.setClock; (try dsimp only); (repeat' split) <;> simp
@[simp] theorem State.setClock_pending (v : ClockValues) : (s.setClock v).pending = s.pending := by
  unfold State.setClock; (try dsimp only); (repeat' split) <;> simp
@[simp] theorem State.setClock_coin (v : ClockValues) : (s.setClock v).coin = s.coin := by
  unfold State.setClock; (try dsimp only); (repeat' split) <;> simp
@[simp] theorem State.setClock_credit (v : ClockValues) : (s.setClock v).credit = s.credit := by
  unfold State.setClock; (try dsimp only); (repeat' split) <;> simp
@[simp] theorem State.setClock_rating (v : ClockValues) : (s.setClock v).rating = s.rating := by
  unfold State.setClock; (try dsimp only); (repeat' split) <;> simp
@[simp] theorem State.setClock_line (v : ClockValues) : (s.setClock v).line = s.line := by
  unfold State.setClock; (try dsimp only); (repeat' split) <;> simp
@[simp] theorem State.setClock_arbiter (v : ClockValues) : (s.setClock v).arbiter = s.arbiter := by
  unfold State.setClock; (try dsimp only); (repeat' split) <;> simp
@[simp] theorem State.setClock_tamper (v : ClockValues) : (s.setClock v).tamper = s.tamper := by
  unfold State.setClock; (try dsimp only); (repeat' split) <;> simp
@[simp] theorem State.setClock_elapsed (v : ClockValues) : (s.setClock v).elapsed = s.elapsed := by
  unfold State.setClock; (try dsimp only); (repeat' split) <;> simp
@[simp] theorem State.setClock_centre (v : ClockValues) : (s.setClock v).centre = s.centre := by
  unfold State.setClock; (try dsimp only); (repeat' split) <;> simp
@[simp] theorem State.setClock_modem (v : ClockValues) : (s.setClock v).modem = s.modem := by
  unfold State.setClock; (try dsimp only); (repeat' split) <;> simp
@[simp] theorem State.setClock_ledger (v : ClockValues) : (s.setClock v).ledger = s.ledger := by
  unfold State.setClock; (try dsimp only); (repeat' split) <;> simp
@[simp] theorem State.setClock_power (v : ClockValues) : (s.setClock v).power = s.power := by
  unfold State.setClock; (try dsimp only); (repeat' split) <;> simp
@[simp] theorem State.setClock_setPort (v : ClockValues) : (s.setClock v).setPort = s.setPort := by
  unfold State.setClock; (try dsimp only); (repeat' split) <;> simp
@[simp] theorem State.setClock_service (v : ClockValues) : (s.setClock v).service = s.service := by
  unfold State.setClock; (try dsimp only); (repeat' split) <;> simp
@[simp] theorem State.setClock_config (v : ClockValues) : (s.setClock v).config = s.config := by
  unfold State.setClock; (try dsimp only); (repeat' split) <;> simp
@[simp] theorem State.setClock_image0 (v : ClockValues) : (s.setClock v).image0 = s.image0 := by
  unfold State.setClock; (try dsimp only); (repeat' split) <;> simp
@[simp] theorem State.setClock_image1 (v : ClockValues) : (s.setClock v).image1 = s.image1 := by
  unfold State.setClock; (try dsimp only); (repeat' split) <;> simp
@[simp] theorem State.setClock_lifetime (v : ClockValues) : (s.setClock v).lifetime = s.lifetime := by
  unfold State.setClock; (try dsimp only); (repeat' split) <;> simp
@[simp] theorem State.setClock_period (v : ClockValues) : (s.setClock v).period = s.period := by
  unfold State.setClock; (try dsimp only); (repeat' split) <;> simp
@[simp] theorem State.setClock_history (v : ClockValues) : (s.setClock v).history = s.history := by
  unfold State.setClock; (try dsimp only); (repeat' split) <;> simp
@[simp] theorem State.setClock_call (v : ClockValues) : (s.setClock v).call = s.call := by
  unfold State.setClock; (try dsimp only); (repeat' split) <;> simp
@[simp] theorem State.setClock_events (v : ClockValues) : (s.setClock v).events = s.events := by
  unfold State.setClock; (try dsimp only); (repeat' split) <;> simp
@[simp] theorem State.setClock_nv (v : ClockValues) : (s.setClock v).nv = s.nv := by
  unfold State.setClock; (try dsimp only); (repeat' split) <;> simp
@[simp] theorem State.setClock_restores (v : ClockValues) : (s.setClock v).restores = s.restores := by
  unfold State.setClock; (try dsimp only); (repeat' split) <;> simp

@[simp] theorem State.offerClock_now (v : ClockValues) : (s.offerClock v).2.now = s.now := by
  unfold State.offerClock; (try dsimp only); (repeat' split) <;> simp
@[simp] theorem State.offerClock_pending (v : ClockValues) : (s.offerClock v).2.pending = s.pending := by
  unfold State.offerClock; (try dsimp only); (repeat' split) <;> simp
@[simp] theorem State.offerClock_coin (v : ClockValues) : (s.offerClock v).2.coin = s.coin := by
  unfold State.offerClock; (try dsimp only); (repeat' split) <;> simp
@[simp] theorem State.offerClock_credit (v : ClockValues) : (s.offerClock v).2.credit = s.credit := by
  unfold State.offerClock; (try dsimp only); (repeat' split) <;> simp
@[simp] theorem State.offerClock_rating (v : ClockValues) : (s.offerClock v).2.rating = s.rating := by
  unfold State.offerClock; (try dsimp only); (repeat' split) <;> simp
@[simp] theorem State.offerClock_line (v : ClockValues) : (s.offerClock v).2.line = s.line := by
  unfold State.offerClock; (try dsimp only); (repeat' split) <;> simp
@[simp] theorem State.offerClock_arbiter (v : ClockValues) : (s.offerClock v).2.arbiter = s.arbiter := by
  unfold State.offerClock; (try dsimp only); (repeat' split) <;> simp
@[simp] theorem State.offerClock_tamper (v : ClockValues) : (s.offerClock v).2.tamper = s.tamper := by
  unfold State.offerClock; (try dsimp only); (repeat' split) <;> simp
@[simp] theorem State.offerClock_elapsed (v : ClockValues) : (s.offerClock v).2.elapsed = s.elapsed := by
  unfold State.offerClock; (try dsimp only); (repeat' split) <;> simp
@[simp] theorem State.offerClock_centre (v : ClockValues) : (s.offerClock v).2.centre = s.centre := by
  unfold State.offerClock; (try dsimp only); (repeat' split) <;> simp
@[simp] theorem State.offerClock_modem (v : ClockValues) : (s.offerClock v).2.modem = s.modem := by
  unfold State.offerClock; (try dsimp only); (repeat' split) <;> simp
@[simp] theorem State.offerClock_ledger (v : ClockValues) : (s.offerClock v).2.ledger = s.ledger := by
  unfold State.offerClock; (try dsimp only); (repeat' split) <;> simp
@[simp] theorem State.offerClock_power (v : ClockValues) : (s.offerClock v).2.power = s.power := by
  unfold State.offerClock; (try dsimp only); (repeat' split) <;> simp
@[simp] theorem State.offerClock_setPort (v : ClockValues) : (s.offerClock v).2.setPort = s.setPort := by
  unfold State.offerClock; (try dsimp only); (repeat' split) <;> simp
@[simp] theorem State.offerClock_service (v : ClockValues) : (s.offerClock v).2.service = s.service := by
  unfold State.offerClock; (try dsimp only); (repeat' split) <;> simp
@[simp] theorem State.offerClock_config (v : ClockValues) : (s.offerClock v).2.config = s.config := by
  unfold State.offerClock; (try dsimp only); (repeat' split) <;> simp
@[simp] theorem State.offerClock_image0 (v : ClockValues) : (s.offerClock v).2.image0 = s.image0 := by
  unfold State.offerClock; (try dsimp only); (repeat' split) <;> simp
@[simp] theorem State.offerClock_image1 (v : ClockValues) : (s.offerClock v).2.image1 = s.image1 := by
  unfold State.offerClock; (try dsimp only); (repeat' split) <;> simp
@[simp] theorem State.offerClock_lifetime (v : ClockValues) : (s.offerClock v).2.lifetime = s.lifetime := by
  unfold State.offerClock; (try dsimp only); (repeat' split) <;> simp
@[simp] theorem State.offerClock_period (v : ClockValues) : (s.offerClock v).2.period = s.period := by
  unfold State.offerClock; (try dsimp only); (repeat' split) <;> simp
@[simp] theorem State.offerClock_history (v : ClockValues) : (s.offerClock v).2.history = s.history := by
  unfold State.offerClock; (try dsimp only); (repeat' split) <;> simp
@[simp] theorem State.offerClock_call (v : ClockValues) : (s.offerClock v).2.call = s.call := by
  unfold State.offerClock; (try dsimp only); (repeat' split) <;> simp
@[simp] theorem State.offerClock_events (v : ClockValues) : (s.offerClock v).2.events = s.events := by
  unfold State.offerClock; (try dsimp only); (repeat' split) <;> simp
@[simp] theorem State.offerClock_nv (v : ClockValues) : (s.offerClock v).2.nv = s.nv := by
  unfold State.offerClock; (try dsimp only); (repeat' split) <;> simp
@[simp] theorem State.offerClock_restores (v : ClockValues) : (s.offerClock v).2.restores = s.restores := by
  unfold State.offerClock; (try dsimp only); (repeat' split) <;> simp

@[simp] theorem State.resetService_now : (s.resetService).now = s.now := by
  unfold State.resetService; (try dsimp only); (repeat' split) <;> simp
@[simp] theorem State.resetService_pending : (s.resetService).pending = s.pending := by
  unfold State.resetService; (try dsimp only); (repeat' split) <;> simp
@[simp] theorem State.resetService_coin : (s.resetService).coin = s.coin := by
  unfold State.resetService; (try dsimp only); (repeat' split) <;> simp
@[simp] theorem State.resetService_credit : (s.resetService).credit = s.credit := by
  unfold State.resetService; (try dsimp only); (repeat' split) <;> simp
@[simp] theorem State.resetService_arbiter : (s.resetService).arbiter = s.arbiter := by
  unfold State.resetService; (try dsimp only); (repeat' split) <;> simp
@[simp] theorem State.resetService_elapsed : (s.resetService).elapsed = s.elapsed := by
  unfold State.resetService; (try dsimp only); (repeat' split) <;> simp
@[simp] theorem State.resetService_centre : (s.resetService).centre = s.centre := by
  unfold State.resetService; (try dsimp only); (repeat' split) <;> simp
@[simp] theorem State.resetService_modem : (s.resetService).modem = s.modem := by
  unfold State.resetService; (try dsimp only); (repeat' split) <;> simp
@[simp] theorem State.resetService_power : (s.resetService).power = s.power := by
  unfold State.resetService; (try dsimp only); (repeat' split) <;> simp
@[simp] theorem State.resetService_clock : (s.resetService).clock = s.clock := by
  unfold State.resetService; (try dsimp only); (repeat' split) <;> simp
@[simp] theorem State.resetService_image0 : (s.resetService).image0 = s.image0 := by
  unfold State.resetService; (try dsimp only); (repeat' split) <;> simp
@[simp] theorem State.resetService_image1 : (s.resetService).image1 = s.image1 := by
  unfold State.resetService; (try dsimp only); (repeat' split) <;> simp
@[simp] theorem State.resetService_lifetime : (s.resetService).lifetime = s.lifetime := by
  unfold State.resetService; (try dsimp only); (repeat' split) <;> simp
@[simp] theorem State.resetService_nv : (s.resetService).nv = s.nv := by
  unfold State.resetService; (try dsimp only); (repeat' split) <;> simp
@[simp] theorem State.resetService_restores : (s.resetService).restores = s.restores := by
  unfold State.resetService; (try dsimp only); (repeat' split) <;> simp

@[simp] theorem State.resetEffects_now : (s.resetEffects).now = s.now := by
  unfold State.resetEffects; (try dsimp only); (repeat' split) <;> simp
@[simp] theorem State.resetEffects_pending : (s.resetEffects).pending = s.pending := by
  unfold State.resetEffects; (try dsimp only); (repeat' split) <;> simp
@[simp] theorem State.resetEffects_elapsed : (s.resetEffects).elapsed = s.elapsed := by
  unfold State.resetEffects; (try dsimp only); (repeat' split) <;> simp
@[simp] theorem State.resetEffects_power : (s.resetEffects).power = s.power := by
  unfold State.resetEffects; (try dsimp only); (repeat' split) <;> simp
@[simp] theorem State.resetEffects_clock : (s.resetEffects).clock = s.clock := by
  unfold State.resetEffects; (try dsimp only); (repeat' split) <;> simp
@[simp] theorem State.resetEffects_nv : (s.resetEffects).nv = s.nv := by
  unfold State.resetEffects; (try dsimp only); (repeat' split) <;> simp
@[simp] theorem State.resetEffects_restores : (s.resetEffects).restores = s.restores := by
  unfold State.resetEffects; (try dsimp only); (repeat' split) <;> simp

end Sys2Proof.Machine
end

