-- ==== Sys2Proof/Laws/Centre.lean ====
section
/-!
SUPPORT. What each operation of Machine/Centre.lean leaves alone: one lemma for each field of `State` that it never
touches.  What it does to the fields it touches stands in its definition.
-/

set_option linter.unusedTactic false
set_option linter.unnecessarySeqFocus false
set_option linter.unreachableTactic false

namespace Sys2Proof.Machine

variable (s : State)

@[simp] theorem State.greeted_now : (s.greeted).now = s.now := by
  unfold State.greeted; (try dsimp only); (repeat' split) <;> simp
@[simp] theorem State.greeted_pending : (s.greeted).pending = s.pending := by
  unfold State.greeted; (try dsimp only); (repeat' split) <;> simp
@[simp] theorem State.greeted_coin : (s.greeted).coin = s.coin := by
  unfold State.greeted; (try dsimp only); (repeat' split) <;> simp
@[simp] theorem State.greeted_credit : (s.greeted).credit = s.credit := by
  unfold State.greeted; (try dsimp only); (repeat' split) <;> simp
@[simp] theorem State.greeted_tamper : (s.greeted).tamper = s.tamper := by
  unfold State.greeted; (try dsimp only); (repeat' split) <;> simp
@[simp] theorem State.greeted_elapsed : (s.greeted).elapsed = s.elapsed := by
  unfold State.greeted; (try dsimp only); (repeat' split) <;> simp
@[simp] theorem State.greeted_power : (s.greeted).power = s.power := by
  unfold State.greeted; (try dsimp only); (repeat' split) <;> simp
@[simp] theorem State.greeted_clock : (s.greeted).clock = s.clock := by
  unfold State.greeted; (try dsimp only); (repeat' split) <;> simp
@[simp] theorem State.greeted_service : (s.greeted).service = s.service := by
  unfold State.greeted; (try dsimp only); (repeat' split) <;> simp
@[simp] theorem State.greeted_config : (s.greeted).config = s.config := by
  unfold State.greeted; (try dsimp only); (repeat' split) <;> simp
@[simp] theorem State.greeted_image0 : (s.greeted).image0 = s.image0 := by
  unfold State.greeted; (try dsimp only); (repeat' split) <;> simp
@[simp] theorem State.greeted_image1 : (s.greeted).image1 = s.image1 := by
  unfold State.greeted; (try dsimp only); (repeat' split) <;> simp
@[simp] theorem State.greeted_lifetime : (s.greeted).lifetime = s.lifetime := by
  unfold State.greeted; (try dsimp only); (repeat' split) <;> simp
@[simp] theorem State.greeted_period : (s.greeted).period = s.period := by
  unfold State.greeted; (try dsimp only); (repeat' split) <;> simp
@[simp] theorem State.greeted_history : (s.greeted).history = s.history := by
  unfold State.greeted; (try dsimp only); (repeat' split) <;> simp
@[simp] theorem State.greeted_call : (s.greeted).call = s.call := by
  unfold State.greeted; (try dsimp only); (repeat' split) <;> simp
@[simp] theorem State.greeted_nv : (s.greeted).nv = s.nv := by
  unfold State.greeted; (try dsimp only); (repeat' split) <;> simp
@[simp] theorem State.greeted_restores : (s.greeted).restores = s.restores := by
  unfold State.greeted; (try dsimp only); (repeat' split) <;> simp

@[simp] theorem State.acknowledged_now (p : List Byte) : (s.acknowledged p).now = s.now := by
  unfold State.acknowledged; (try dsimp only); (repeat' split) <;> simp
@[simp] theorem State.acknowledged_pending (p : List Byte) : (s.acknowledged p).pending = s.pending := by
  unfold State.acknowledged; (try dsimp only); (repeat' split) <;> simp
@[simp] theorem State.acknowledged_coin (p : List Byte) : (s.acknowledged p).coin = s.coin := by
  unfold State.acknowledged; (try dsimp only); (repeat' split) <;> simp
@[simp] theorem State.acknowledged_credit (p : List Byte) : (s.acknowledged p).credit = s.credit := by
  unfold State.acknowledged; (try dsimp only); (repeat' split) <;> simp
@[simp] theorem State.acknowledged_rating (p : List Byte) : (s.acknowledged p).rating = s.rating := by
  unfold State.acknowledged; (try dsimp only); (repeat' split) <;> simp
@[simp] theorem State.acknowledged_line (p : List Byte) : (s.acknowledged p).line = s.line := by
  unfold State.acknowledged; (try dsimp only); (repeat' split) <;> simp
@[simp] theorem State.acknowledged_arbiter (p : List Byte) : (s.acknowledged p).arbiter = s.arbiter := by
  unfold State.acknowledged; (try dsimp only); (repeat' split) <;> simp
@[simp] theorem State.acknowledged_tamper (p : List Byte) : (s.acknowledged p).tamper = s.tamper := by
  unfold State.acknowledged; (try dsimp only); (repeat' split) <;> simp
@[simp] theorem State.acknowledged_elapsed (p : List Byte) : (s.acknowledged p).elapsed = s.elapsed := by
  unfold State.acknowledged; (try dsimp only); (repeat' split) <;> simp
@[simp] theorem State.acknowledged_power (p : List Byte) : (s.acknowledged p).power = s.power := by
  unfold State.acknowledged; (try dsimp only); (repeat' split) <;> simp
@[simp] theorem State.acknowledged_clock (p : List Byte) : (s.acknowledged p).clock = s.clock := by
  unfold State.acknowledged; (try dsimp only); (repeat' split) <;> simp
@[simp] theorem State.acknowledged_setPort (p : List Byte) : (s.acknowledged p).setPort = s.setPort := by
  unfold State.acknowledged; (try dsimp only); (repeat' split) <;> simp
@[simp] theorem State.acknowledged_service (p : List Byte) : (s.acknowledged p).service = s.service := by
  unfold State.acknowledged; (try dsimp only); (repeat' split) <;> simp
@[simp] theorem State.acknowledged_config (p : List Byte) : (s.acknowledged p).config = s.config := by
  unfold State.acknowledged; (try dsimp only); (repeat' split) <;> simp
@[simp] theorem State.acknowledged_image0 (p : List Byte) : (s.acknowledged p).image0 = s.image0 := by
  unfold State.acknowledged; (try dsimp only); (repeat' split) <;> simp
@[simp] theorem State.acknowledged_image1 (p : List Byte) : (s.acknowledged p).image1 = s.image1 := by
  unfold State.acknowledged; (try dsimp only); (repeat' split) <;> simp
@[simp] theorem State.acknowledged_lifetime (p : List Byte) : (s.acknowledged p).lifetime = s.lifetime := by
  unfold State.acknowledged; (try dsimp only); (repeat' split) <;> simp
@[simp] theorem State.acknowledged_period (p : List Byte) : (s.acknowledged p).period = s.period := by
  unfold State.acknowledged; (try dsimp only); (repeat' split) <;> simp
@[simp] theorem State.acknowledged_history (p : List Byte) : (s.acknowledged p).history = s.history := by
  unfold State.acknowledged; (try dsimp only); (repeat' split) <;> simp
@[simp] theorem State.acknowledged_call (p : List Byte) : (s.acknowledged p).call = s.call := by
  unfold State.acknowledged; (try dsimp only); (repeat' split) <;> simp
@[simp] theorem State.acknowledged_nv (p : List Byte) : (s.acknowledged p).nv = s.nv := by
  unfold State.acknowledged; (try dsimp only); (repeat' split) <;> simp
@[simp] theorem State.acknowledged_restores (p : List Byte) : (s.acknowledged p).restores = s.restores := by
  unfold State.acknowledged; (try dsimp only); (repeat' split) <;> simp

@[simp] theorem State.rejected_now : (s.rejected).now = s.now := by
  unfold State.rejected; (try dsimp only); (repeat' split) <;> simp
@[simp] theorem State.rejected_pending : (s.rejected).pending = s.pending := by
  unfold State.rejected; (try dsimp only); (repeat' split) <;> simp
@[simp] theorem State.rejected_coin : (s.rejected).coin = s.coin := by
  unfold State.rejected; (try dsimp only); (repeat' split) <;> simp
@[simp] theorem State.rejected_credit : (s.rejected).credit = s.credit := by
  unfold State.rejected; (try dsimp only); (repeat' split) <;> simp
@[simp] theorem State.rejected_tamper : (s.rejected).tamper = s.tamper := by
  unfold State.rejected; (try dsimp only); (repeat' split) <;> simp
@[simp] theorem State.rejected_elapsed : (s.rejected).elapsed = s.elapsed := by
  unfold State.rejected; (try dsimp only); (repeat' split) <;> simp
@[simp] theorem State.rejected_power : (s.rejected).power = s.power := by
  unfold State.rejected; (try dsimp only); (repeat' split) <;> simp
@[simp] theorem State.rejected_clock : (s.rejected).clock = s.clock := by
  unfold State.rejected; (try dsimp only); (repeat' split) <;> simp
@[simp] theorem State.rejected_service : (s.rejected).service = s.service := by
  unfold State.rejected; (try dsimp only); (repeat' split) <;> simp
@[simp] theorem State.rejected_config : (s.rejected).config = s.config := by
  unfold State.rejected; (try dsimp only); (repeat' split) <;> simp
@[simp] theorem State.rejected_image0 : (s.rejected).image0 = s.image0 := by
  unfold State.rejected; (try dsimp only); (repeat' split) <;> simp
@[simp] theorem State.rejected_image1 : (s.rejected).image1 = s.image1 := by
  unfold State.rejected; (try dsimp only); (repeat' split) <;> simp
@[simp] theorem State.rejected_lifetime : (s.rejected).lifetime = s.lifetime := by
  unfold State.rejected; (try dsimp only); (repeat' split) <;> simp
@[simp] theorem State.rejected_period : (s.rejected).period = s.period := by
  unfold State.rejected; (try dsimp only); (repeat' split) <;> simp
@[simp] theorem State.rejected_history : (s.rejected).history = s.history := by
  unfold State.rejected; (try dsimp only); (repeat' split) <;> simp
@[simp] theorem State.rejected_call : (s.rejected).call = s.call := by
  unfold State.rejected; (try dsimp only); (repeat' split) <;> simp
@[simp] theorem State.rejected_nv : (s.rejected).nv = s.nv := by
  unfold State.rejected; (try dsimp only); (repeat' split) <;> simp
@[simp] theorem State.rejected_restores : (s.rejected).restores = s.restores := by
  unfold State.rejected; (try dsimp only); (repeat' split) <;> simp

@[simp] theorem State.frameDiscarded_now : (s.frameDiscarded).now = s.now := by
  unfold State.frameDiscarded; (try dsimp only); (repeat' split) <;> simp
@[simp] theorem State.frameDiscarded_pending : (s.frameDiscarded).pending = s.pending := by
  unfold State.frameDiscarded; (try dsimp only); (repeat' split) <;> simp
@[simp] theorem State.frameDiscarded_coin : (s.frameDiscarded).coin = s.coin := by
  unfold State.frameDiscarded; (try dsimp only); (repeat' split) <;> simp
@[simp] theorem State.frameDiscarded_credit : (s.frameDiscarded).credit = s.credit := by
  unfold State.frameDiscarded; (try dsimp only); (repeat' split) <;> simp
@[simp] theorem State.frameDiscarded_rating : (s.frameDiscarded).rating = s.rating := by
  unfold State.frameDiscarded; (try dsimp only); (repeat' split) <;> simp
@[simp] theorem State.frameDiscarded_line : (s.frameDiscarded).line = s.line := by
  unfold State.frameDiscarded; (try dsimp only); (repeat' split) <;> simp
@[simp] theorem State.frameDiscarded_arbiter : (s.frameDiscarded).arbiter = s.arbiter := by
  unfold State.frameDiscarded; (try dsimp only); (repeat' split) <;> simp
@[simp] theorem State.frameDiscarded_tamper : (s.frameDiscarded).tamper = s.tamper := by
  unfold State.frameDiscarded; (try dsimp only); (repeat' split) <;> simp
@[simp] theorem State.frameDiscarded_elapsed : (s.frameDiscarded).elapsed = s.elapsed := by
  unfold State.frameDiscarded; (try dsimp only); (repeat' split) <;> simp
@[simp] theorem State.frameDiscarded_ledger : (s.frameDiscarded).ledger = s.ledger := by
  unfold State.frameDiscarded; (try dsimp only); (repeat' split) <;> simp
@[simp] theorem State.frameDiscarded_power : (s.frameDiscarded).power = s.power := by
  unfold State.frameDiscarded; (try dsimp only); (repeat' split) <;> simp
@[simp] theorem State.frameDiscarded_clock : (s.frameDiscarded).clock = s.clock := by
  unfold State.frameDiscarded; (try dsimp only); (repeat' split) <;> simp
@[simp] theorem State.frameDiscarded_setPort : (s.frameDiscarded).setPort = s.setPort := by
  unfold State.frameDiscarded; (try dsimp only); (repeat' split) <;> simp
@[simp] theorem State.frameDiscarded_service : (s.frameDiscarded).service = s.service := by
  unfold State.frameDiscarded; (try dsimp only); (repeat' split) <;> simp
@[simp] theorem State.frameDiscarded_config : (s.frameDiscarded).config = s.config := by
  unfold State.frameDiscarded; (try dsimp only); (repeat' split) <;> simp
@[simp] theorem State.frameDiscarded_image0 : (s.frameDiscarded).image0 = s.image0 := by
  unfold State.frameDiscarded; (try dsimp only); (repeat' split) <;> simp
@[simp] theorem State.frameDiscarded_image1 : (s.frameDiscarded).image1 = s.image1 := by
  unfold State.frameDiscarded; (try dsimp only); (repeat' split) <;> simp
@[simp] theorem State.frameDiscarded_lifetime : (s.frameDiscarded).lifetime = s.lifetime := by
  unfold State.frameDiscarded; (try dsimp only); (repeat' split) <;> simp
@[simp] theorem State.frameDiscarded_period : (s.frameDiscarded).period = s.period := by
  unfold State.frameDiscarded; (try dsimp only); (repeat' split) <;> simp
@[simp] theorem State.frameDiscarded_history : (s.frameDiscarded).history = s.history := by
  unfold State.frameDiscarded; (try dsimp only); (repeat' split) <;> simp
@[simp] theorem State.frameDiscarded_call : (s.frameDiscarded).call = s.call := by
  unfold State.frameDiscarded; (try dsimp only); (repeat' split) <;> simp
@[simp] theorem State.frameDiscarded_events : (s.frameDiscarded).events = s.events := by
  unfold State.frameDiscarded; (try dsimp only); (repeat' split) <;> simp
@[simp] theorem State.frameDiscarded_nv : (s.frameDiscarded).nv = s.nv := by
  unfold State.frameDiscarded; (try dsimp only); (repeat' split) <;> simp
@[simp] theorem State.frameDiscarded_restores : (s.frameDiscarded).restores = s.restores := by
  unfold State.frameDiscarded; (try dsimp only); (repeat' split) <;> simp

@[simp] theorem State.frameSentEffect_now (f : Frame) : (s.frameSentEffect f).now = s.now := by
  unfold State.frameSentEffect; (try dsimp only); (repeat' split) <;> simp
@[simp] theorem State.frameSentEffect_pending (f : Frame) : (s.frameSentEffect f).pending = s.pending := by
  unfold State.frameSentEffect; (try dsimp only); (repeat' split) <;> simp
@[simp] theorem State.frameSentEffect_coin (f : Frame) : (s.frameSentEffect f).coin = s.coin := by
  unfold State.frameSentEffect; (try dsimp only); (repeat' split) <;> simp
@[simp] theorem State.frameSentEffect_credit (f : Frame) : (s.frameSentEffect f).credit = s.credit := by
  unfold State.frameSentEffect; (try dsimp only); (repeat' split) <;> simp
@[simp] theorem State.frameSentEffect_tamper (f : Frame) : (s.frameSentEffect f).tamper = s.tamper := by
  unfold State.frameSentEffect; (try dsimp only); (repeat' split) <;> simp
@[simp] theorem State.frameSentEffect_elapsed (f : Frame) : (s.frameSentEffect f).elapsed = s.elapsed := by
  unfold State.frameSentEffect; (try dsimp only); (repeat' split) <;> simp
@[simp] theorem State.frameSentEffect_ledger (f : Frame) : (s.frameSentEffect f).ledger = s.ledger := by
  unfold State.frameSentEffect; (try dsimp only); (repeat' split) <;> simp
@[simp] theorem State.frameSentEffect_power (f : Frame) : (s.frameSentEffect f).power = s.power := by
  unfold State.frameSentEffect; (try dsimp only); (repeat' split) <;> simp
@[simp] theorem State.frameSentEffect_clock (f : Frame) : (s.frameSentEffect f).clock = s.clock := by
  unfold State.frameSentEffect; (try dsimp only); (repeat' split) <;> simp
@[simp] theorem State.frameSentEffect_service (f : Frame) : (s.frameSentEffect f).service = s.service := by
  unfold State.frameSentEffect; (try dsimp only); (repeat' split) <;> simp
@[simp] theorem State.frameSentEffect_config (f : Frame) : (s.frameSentEffect f).config = s.config := by
  unfold State.frameSentEffect; (try dsimp only); (repeat' split) <;> simp
@[simp] theorem State.frameSentEffect_image0 (f : Frame) : (s.frameSentEffect f).image0 = s.image0 := by
  unfold State.frameSentEffect; (try dsimp only); (repeat' split) <;> simp
@[simp] theorem State.frameSentEffect_image1 (f : Frame) : (s.frameSentEffect f).image1 = s.image1 := by
  unfold State.frameSentEffect; (try dsimp only); (repeat' split) <;> simp
@[simp] theorem State.frameSentEffect_lifetime (f : Frame) : (s.frameSentEffect f).lifetime = s.lifetime := by
  unfold State.frameSentEffect; (try dsimp only); (repeat' split) <;> simp
@[simp] theorem State.frameSentEffect_period (f : Frame) : (s.frameSentEffect f).period = s.period := by
  unfold State.frameSentEffect; (try dsimp only); (repeat' split) <;> simp
@[simp] theorem State.frameSentEffect_history (f : Frame) : (s.frameSentEffect f).history = s.history := by
  unfold State.frameSentEffect; (try dsimp only); (repeat' split) <;> simp
@[simp] theorem State.frameSentEffect_call (f : Frame) : (s.frameSentEffect f).call = s.call := by
  unfold State.frameSentEffect; (try dsimp only); (repeat' split) <;> simp
@[simp] theorem State.frameSentEffect_events (f : Frame) : (s.frameSentEffect f).events = s.events := by
  unfold State.frameSentEffect; (try dsimp only); (repeat' split) <;> simp
@[simp] theorem State.frameSentEffect_nv (f : Frame) : (s.frameSentEffect f).nv = s.nv := by
  unfold State.frameSentEffect; (try dsimp only); (repeat' split) <;> simp
@[simp] theorem State.frameSentEffect_restores (f : Frame) : (s.frameSentEffect f).restores = s.restores := by
  unfold State.frameSentEffect; (try dsimp only); (repeat' split) <;> simp

@[simp] theorem State.sent_now (f : Frame) : (s.sent f).now = s.now := by
  unfold State.sent; (try dsimp only); (repeat' split) <;> simp
@[simp] theorem State.sent_pending (f : Frame) : (s.sent f).pending = s.pending := by
  unfold State.sent; (try dsimp only); (repeat' split) <;> simp
@[simp] theorem State.sent_coin (f : Frame) : (s.sent f).coin = s.coin := by
  unfold State.sent; (try dsimp only); (repeat' split) <;> simp
@[simp] theorem State.sent_credit (f : Frame) : (s.sent f).credit = s.credit := by
  unfold State.sent; (try dsimp only); (repeat' split) <;> simp
@[simp] theorem State.sent_tamper (f : Frame) : (s.sent f).tamper = s.tamper := by
  unfold State.sent; (try dsimp only); (repeat' split) <;> simp
@[simp] theorem State.sent_elapsed (f : Frame) : (s.sent f).elapsed = s.elapsed := by
  unfold State.sent; (try dsimp only); (repeat' split) <;> simp
@[simp] theorem State.sent_ledger (f : Frame) : (s.sent f).ledger = s.ledger := by
  unfold State.sent; (try dsimp only); (repeat' split) <;> simp
@[simp] theorem State.sent_power (f : Frame) : (s.sent f).power = s.power := by
  unfold State.sent; (try dsimp only); (repeat' split) <;> simp
@[simp] theorem State.sent_clock (f : Frame) : (s.sent f).clock = s.clock := by
  unfold State.sent; (try dsimp only); (repeat' split) <;> simp
@[simp] theorem State.sent_service (f : Frame) : (s.sent f).service = s.service := by
  unfold State.sent; (try dsimp only); (repeat' split) <;> simp
@[simp] theorem State.sent_config (f : Frame) : (s.sent f).config = s.config := by
  unfold State.sent; (try dsimp only); (repeat' split) <;> simp
@[simp] theorem State.sent_image0 (f : Frame) : (s.sent f).image0 = s.image0 := by
  unfold State.sent; (try dsimp only); (repeat' split) <;> simp
@[simp] theorem State.sent_image1 (f : Frame) : (s.sent f).image1 = s.image1 := by
  unfold State.sent; (try dsimp only); (repeat' split) <;> simp
@[simp] theorem State.sent_lifetime (f : Frame) : (s.sent f).lifetime = s.lifetime := by
  unfold State.sent; (try dsimp only); (repeat' split) <;> simp
@[simp] theorem State.sent_period (f : Frame) : (s.sent f).period = s.period := by
  unfold State.sent; (try dsimp only); (repeat' split) <;> simp
@[simp] theorem State.sent_history (f : Frame) : (s.sent f).history = s.history := by
  unfold State.sent; (try dsimp only); (repeat' split) <;> simp
@[simp] theorem State.sent_call (f : Frame) : (s.sent f).call = s.call := by
  unfold State.sent; (try dsimp only); (repeat' split) <;> simp
@[simp] theorem State.sent_events (f : Frame) : (s.sent f).events = s.events := by
  unfold State.sent; (try dsimp only); (repeat' split) <;> simp
@[simp] theorem State.sent_nv (f : Frame) : (s.sent f).nv = s.nv := by
  unfold State.sent; (try dsimp only); (repeat' split) <;> simp
@[simp] theorem State.sent_restores (f : Frame) : (s.sent f).restores = s.restores := by
  unfold State.sent; (try dsimp only); (repeat' split) <;> simp

@[simp] theorem State.audited_now (k : Byte) (p : List Byte) : (s.audited k p).now = s.now := by
  unfold State.audited; (try dsimp only); (repeat' split) <;> simp
@[simp] theorem State.audited_pending (k : Byte) (p : List Byte) : (s.audited k p).pending = s.pending := by
  unfold State.audited; (try dsimp only); (repeat' split) <;> simp
@[simp] theorem State.audited_coin (k : Byte) (p : List Byte) : (s.audited k p).coin = s.coin := by
  unfold State.audited; (try dsimp only); (repeat' split) <;> simp
@[simp] theorem State.audited_credit (k : Byte) (p : List Byte) : (s.audited k p).credit = s.credit := by
  unfold State.audited; (try dsimp only); (repeat' split) <;> simp
@[simp] theorem State.audited_rating (k : Byte) (p : List Byte) : (s.audited k p).rating = s.rating := by
  unfold State.audited; (try dsimp only); (repeat' split) <;> simp
@[simp] theorem State.audited_line (k : Byte) (p : List Byte) : (s.audited k p).line = s.line := by
  unfold State.audited; (try dsimp only); (repeat' split) <;> simp
@[simp] theorem State.audited_arbiter (k : Byte) (p : List Byte) : (s.audited k p).arbiter = s.arbiter := by
  unfold State.audited; (try dsimp only); (repeat' split) <;> simp
@[simp] theorem State.audited_tamper (k : Byte) (p : List Byte) : (s.audited k p).tamper = s.tamper := by
  unfold State.audited; (try dsimp only); (repeat' split) <;> simp
@[simp] theorem State.audited_elapsed (k : Byte) (p : List Byte) : (s.audited k p).elapsed = s.elapsed := by
  unfold State.audited; (try dsimp only); (repeat' split) <;> simp
@[simp] theorem State.audited_ledger (k : Byte) (p : List Byte) : (s.audited k p).ledger = s.ledger := by
  unfold State.audited; (try dsimp only); (repeat' split) <;> simp
@[simp] theorem State.audited_power (k : Byte) (p : List Byte) : (s.audited k p).power = s.power := by
  unfold State.audited; (try dsimp only); (repeat' split) <;> simp
@[simp] theorem State.audited_clock (k : Byte) (p : List Byte) : (s.audited k p).clock = s.clock := by
  unfold State.audited; (try dsimp only); (repeat' split) <;> simp
@[simp] theorem State.audited_setPort (k : Byte) (p : List Byte) : (s.audited k p).setPort = s.setPort := by
  unfold State.audited; (try dsimp only); (repeat' split) <;> simp
@[simp] theorem State.audited_service (k : Byte) (p : List Byte) : (s.audited k p).service = s.service := by
  unfold State.audited; (try dsimp only); (repeat' split) <;> simp
@[simp] theorem State.audited_config (k : Byte) (p : List Byte) : (s.audited k p).config = s.config := by
  unfold State.audited; (try dsimp only); (repeat' split) <;> simp
@[simp] theorem State.audited_image0 (k : Byte) (p : List Byte) : (s.audited k p).image0 = s.image0 := by
  unfold State.audited; (try dsimp only); (repeat' split) <;> simp
@[simp] theorem State.audited_image1 (k : Byte) (p : List Byte) : (s.audited k p).image1 = s.image1 := by
  unfold State.audited; (try dsimp only); (repeat' split) <;> simp
@[simp] theorem State.audited_lifetime (k : Byte) (p : List Byte) : (s.audited k p).lifetime = s.lifetime := by
  unfold State.audited; (try dsimp only); (repeat' split) <;> simp
@[simp] theorem State.audited_period (k : Byte) (p : List Byte) : (s.audited k p).period = s.period := by
  unfold State.audited; (try dsimp only); (repeat' split) <;> simp
@[simp] theorem State.audited_history (k : Byte) (p : List Byte) : (s.audited k p).history = s.history := by
  unfold State.audited; (try dsimp only); (repeat' split) <;> simp
@[simp] theorem State.audited_call (k : Byte) (p : List Byte) : (s.audited k p).call = s.call := by
  unfold State.audited; (try dsimp only); (repeat' split) <;> simp
@[simp] theorem State.audited_events (k : Byte) (p : List Byte) : (s.audited k p).events = s.events := by
  unfold State.audited; (try dsimp only); (repeat' split) <;> simp
@[simp] theorem State.audited_nv (k : Byte) (p : List Byte) : (s.audited k p).nv = s.nv := by
  unfold State.audited; (try dsimp only); (repeat' split) <;> simp
@[simp] theorem State.audited_restores (k : Byte) (p : List Byte) : (s.audited k p).restores = s.restores := by
  unfold State.audited; (try dsimp only); (repeat' split) <;> simp

@[simp] theorem State.queueSent_now (k : Byte) (p : List Byte) : (s.queueSent k p).now = s.now := by
  unfold State.queueSent; (try dsimp only); (repeat' split) <;> simp
@[simp] theorem State.queueSent_pending (k : Byte) (p : List Byte) : (s.queueSent k p).pending = s.pending := by
  unfold State.queueSent; (try dsimp only); (repeat' split) <;> simp
@[simp] theorem State.queueSent_coin (k : Byte) (p : List Byte) : (s.queueSent k p).coin = s.coin := by
  unfold State.queueSent; (try dsimp only); (repeat' split) <;> simp
@[simp] theorem State.queueSent_credit (k : Byte) (p : List Byte) : (s.queueSent k p).credit = s.credit := by
  unfold State.queueSent; (try dsimp only); (repeat' split) <;> simp
@[simp] theorem State.queueSent_rating (k : Byte) (p : List Byte) : (s.queueSent k p).rating = s.rating := by
  unfold State.queueSent; (try dsimp only); (repeat' split) <;> simp
@[simp] theorem State.queueSent_line (k : Byte) (p : List Byte) : (s.queueSent k p).line = s.line := by
  unfold State.queueSent; (try dsimp only); (repeat' split) <;> simp
@[simp] theorem State.queueSent_arbiter (k : Byte) (p : List Byte) : (s.queueSent k p).arbiter = s.arbiter := by
  unfold State.queueSent; (try dsimp only); (repeat' split) <;> simp
@[simp] theorem State.queueSent_tamper (k : Byte) (p : List Byte) : (s.queueSent k p).tamper = s.tamper := by
  unfold State.queueSent; (try dsimp only); (repeat' split) <;> simp
@[simp] theorem State.queueSent_elapsed (k : Byte) (p : List Byte) : (s.queueSent k p).elapsed = s.elapsed := by
  unfold State.queueSent; (try dsimp only); (repeat' split) <;> simp
@[simp] theorem State.queueSent_ledger (k : Byte) (p : List Byte) : (s.queueSent k p).ledger = s.ledger := by
  unfold State.queueSent; (try dsimp only); (repeat' split) <;> simp
@[simp] theorem State.queueSent_power (k : Byte) (p : List Byte) : (s.queueSent k p).power = s.power := by
  unfold State.queueSent; (try dsimp only); (repeat' split) <;> simp
@[simp] theorem State.queueSent_clock (k : Byte) (p : List Byte) : (s.queueSent k p).clock = s.clock := by
  unfold State.queueSent; (try dsimp only); (repeat' split) <;> simp
@[simp] theorem State.queueSent_setPort (k : Byte) (p : List Byte) : (s.queueSent k p).setPort = s.setPort := by
  unfold State.queueSent; (try dsimp only); (repeat' split) <;> simp
@[simp] theorem State.queueSent_service (k : Byte) (p : List Byte) : (s.queueSent k p).service = s.service := by
  unfold State.queueSent; (try dsimp only); (repeat' split) <;> simp
@[simp] theorem State.queueSent_config (k : Byte) (p : List Byte) : (s.queueSent k p).config = s.config := by
  unfold State.queueSent; (try dsimp only); (repeat' split) <;> simp
@[simp] theorem State.queueSent_image0 (k : Byte) (p : List Byte) : (s.queueSent k p).image0 = s.image0 := by
  unfold State.queueSent; (try dsimp only); (repeat' split) <;> simp
@[simp] theorem State.queueSent_image1 (k : Byte) (p : List Byte) : (s.queueSent k p).image1 = s.image1 := by
  unfold State.queueSent; (try dsimp only); (repeat' split) <;> simp
@[simp] theorem State.queueSent_lifetime (k : Byte) (p : List Byte) : (s.queueSent k p).lifetime = s.lifetime := by
  unfold State.queueSent; (try dsimp only); (repeat' split) <;> simp
@[simp] theorem State.queueSent_period (k : Byte) (p : List Byte) : (s.queueSent k p).period = s.period := by
  unfold State.queueSent; (try dsimp only); (repeat' split) <;> simp
@[simp] theorem State.queueSent_history (k : Byte) (p : List Byte) : (s.queueSent k p).history = s.history := by
  unfold State.queueSent; (try dsimp only); (repeat' split) <;> simp
@[simp] theorem State.queueSent_call (k : Byte) (p : List Byte) : (s.queueSent k p).call = s.call := by
  unfold State.queueSent; (try dsimp only); (repeat' split) <;> simp
@[simp] theorem State.queueSent_events (k : Byte) (p : List Byte) : (s.queueSent k p).events = s.events := by
  unfold State.queueSent; (try dsimp only); (repeat' split) <;> simp
@[simp] theorem State.queueSent_nv (k : Byte) (p : List Byte) : (s.queueSent k p).nv = s.nv := by
  unfold State.queueSent; (try dsimp only); (repeat' split) <;> simp
@[simp] theorem State.queueSent_restores (k : Byte) (p : List Byte) : (s.queueSent k p).restores = s.restores := by
  unfold State.queueSent; (try dsimp only); (repeat' split) <;> simp

@[simp] theorem State.clockGiven_now (k : Byte) (p : List Byte) : (s.clockGiven k p).now = s.now := by
  unfold State.clockGiven; (try dsimp only); (repeat' split) <;> simp
@[simp] theorem State.clockGiven_pending (k : Byte) (p : List Byte) : (s.clockGiven k p).pending = s.pending := by
  unfold State.clockGiven; (try dsimp only); (repeat' split) <;> simp
@[simp] theorem State.clockGiven_coin (k : Byte) (p : List Byte) : (s.clockGiven k p).coin = s.coin := by
  unfold State.clockGiven; (try dsimp only); (repeat' split) <;> simp
@[simp] theorem State.clockGiven_credit (k : Byte) (p : List Byte) : (s.clockGiven k p).credit = s.credit := by
  unfold State.clockGiven; (try dsimp only); (repeat' split) <;> simp
@[simp] theorem State.clockGiven_rating (k : Byte) (p : List Byte) : (s.clockGiven k p).rating = s.rating := by
  unfold State.clockGiven; (try dsimp only); (repeat' split) <;> simp
@[simp] theorem State.clockGiven_line (k : Byte) (p : List Byte) : (s.clockGiven k p).line = s.line := by
  unfold State.clockGiven; (try dsimp only); (repeat' split) <;> simp
@[simp] theorem State.clockGiven_arbiter (k : Byte) (p : List Byte) : (s.clockGiven k p).arbiter = s.arbiter := by
  unfold State.clockGiven; (try dsimp only); (repeat' split) <;> simp
@[simp] theorem State.clockGiven_tamper (k : Byte) (p : List Byte) : (s.clockGiven k p).tamper = s.tamper := by
  unfold State.clockGiven; (try dsimp only); (repeat' split) <;> simp
@[simp] theorem State.clockGiven_elapsed (k : Byte) (p : List Byte) : (s.clockGiven k p).elapsed = s.elapsed := by
  unfold State.clockGiven; (try dsimp only); (repeat' split) <;> simp
@[simp] theorem State.clockGiven_ledger (k : Byte) (p : List Byte) : (s.clockGiven k p).ledger = s.ledger := by
  unfold State.clockGiven; (try dsimp only); (repeat' split) <;> simp
@[simp] theorem State.clockGiven_power (k : Byte) (p : List Byte) : (s.clockGiven k p).power = s.power := by
  unfold State.clockGiven; (try dsimp only); (repeat' split) <;> simp
@[simp] theorem State.clockGiven_setPort (k : Byte) (p : List Byte) : (s.clockGiven k p).setPort = s.setPort := by
  unfold State.clockGiven; (try dsimp only); (repeat' split) <;> simp
@[simp] theorem State.clockGiven_service (k : Byte) (p : List Byte) : (s.clockGiven k p).service = s.service := by
  unfold State.clockGiven; (try dsimp only); (repeat' split) <;> simp
@[simp] theorem State.clockGiven_config (k : Byte) (p : List Byte) : (s.clockGiven k p).config = s.config := by
  unfold State.clockGiven; (try dsimp only); (repeat' split) <;> simp
@[simp] theorem State.clockGiven_image0 (k : Byte) (p : List Byte) : (s.clockGiven k p).image0 = s.image0 := by
  unfold State.clockGiven; (try dsimp only); (repeat' split) <;> simp
@[simp] theorem State.clockGiven_image1 (k : Byte) (p : List Byte) : (s.clockGiven k p).image1 = s.image1 := by
  unfold State.clockGiven; (try dsimp only); (repeat' split) <;> simp
@[simp] theorem State.clockGiven_lifetime (k : Byte) (p : List Byte) : (s.clockGiven k p).lifetime = s.lifetime := by
  unfold State.clockGiven; (try dsimp only); (repeat' split) <;> simp
@[simp] theorem State.clockGiven_period (k : Byte) (p : List Byte) : (s.clockGiven k p).period = s.period := by
  unfold State.clockGiven; (try dsimp only); (repeat' split) <;> simp
@[simp] theorem State.clockGiven_history (k : Byte) (p : List Byte) : (s.clockGiven k p).history = s.history := by
  unfold State.clockGiven; (try dsimp only); (repeat' split) <;> simp
@[simp] theorem State.clockGiven_call (k : Byte) (p : List Byte) : (s.clockGiven k p).call = s.call := by
  unfold State.clockGiven; (try dsimp only); (repeat' split) <;> simp
@[simp] theorem State.clockGiven_events (k : Byte) (p : List Byte) : (s.clockGiven k p).events = s.events := by
  unfold State.clockGiven; (try dsimp only); (repeat' split) <;> simp
@[simp] theorem State.clockGiven_nv (k : Byte) (p : List Byte) : (s.clockGiven k p).nv = s.nv := by
  unfold State.clockGiven; (try dsimp only); (repeat' split) <;> simp
@[simp] theorem State.clockGiven_restores (k : Byte) (p : List Byte) : (s.clockGiven k p).restores = s.restores := by
  unfold State.clockGiven; (try dsimp only); (repeat' split) <;> simp

@[simp] theorem State.inhibitGiven_now (k : Byte) (p : List Byte) : (s.inhibitGiven k p).now = s.now := by
  unfold State.inhibitGiven; (try dsimp only); (repeat' split) <;> simp
@[simp] theorem State.inhibitGiven_pending (k : Byte) (p : List Byte) : (s.inhibitGiven k p).pending = s.pending := by
  unfold State.inhibitGiven; (try dsimp only); (repeat' split) <;> simp
@[simp] theorem State.inhibitGiven_coin (k : Byte) (p : List Byte) : (s.inhibitGiven k p).coin = s.coin := by
  unfold State.inhibitGiven; (try dsimp only); (repeat' split) <;> simp
@[simp] theorem State.inhibitGiven_credit (k : Byte) (p : List Byte) : (s.inhibitGiven k p).credit = s.credit := by
  unfold State.inhibitGiven; (try dsimp only); (repeat' split) <;> simp
@[simp] theorem State.inhibitGiven_arbiter (k : Byte) (p : List Byte) : (s.inhibitGiven k p).arbiter = s.arbiter := by
  unfold State.inhibitGiven; (try dsimp only); (repeat' split) <;> simp
@[simp] theorem State.inhibitGiven_elapsed (k : Byte) (p : List Byte) : (s.inhibitGiven k p).elapsed = s.elapsed := by
  unfold State.inhibitGiven; (try dsimp only); (repeat' split) <;> simp
@[simp] theorem State.inhibitGiven_power (k : Byte) (p : List Byte) : (s.inhibitGiven k p).power = s.power := by
  unfold State.inhibitGiven; (try dsimp only); (repeat' split) <;> simp
@[simp] theorem State.inhibitGiven_clock (k : Byte) (p : List Byte) : (s.inhibitGiven k p).clock = s.clock := by
  unfold State.inhibitGiven; (try dsimp only); (repeat' split) <;> simp
@[simp] theorem State.inhibitGiven_service (k : Byte) (p : List Byte) : (s.inhibitGiven k p).service = s.service := by
  unfold State.inhibitGiven; (try dsimp only); (repeat' split) <;> simp
@[simp] theorem State.inhibitGiven_image0 (k : Byte) (p : List Byte) : (s.inhibitGiven k p).image0 = s.image0 := by
  unfold State.inhibitGiven; (try dsimp only); (repeat' split) <;> simp
@[simp] theorem State.inhibitGiven_image1 (k : Byte) (p : List Byte) : (s.inhibitGiven k p).image1 = s.image1 := by
  unfold State.inhibitGiven; (try dsimp only); (repeat' split) <;> simp
@[simp] theorem State.inhibitGiven_lifetime (k : Byte) (p : List Byte) : (s.inhibitGiven k p).lifetime = s.lifetime := by
  unfold State.inhibitGiven; (try dsimp only); (repeat' split) <;> simp
@[simp] theorem State.inhibitGiven_period (k : Byte) (p : List Byte) : (s.inhibitGiven k p).period = s.period := by
  unfold State.inhibitGiven; (try dsimp only); (repeat' split) <;> simp
@[simp] theorem State.inhibitGiven_history (k : Byte) (p : List Byte) : (s.inhibitGiven k p).history = s.history := by
  unfold State.inhibitGiven; (try dsimp only); (repeat' split) <;> simp
@[simp] theorem State.inhibitGiven_call (k : Byte) (p : List Byte) : (s.inhibitGiven k p).call = s.call := by
  unfold State.inhibitGiven; (try dsimp only); (repeat' split) <;> simp
@[simp] theorem State.inhibitGiven_events (k : Byte) (p : List Byte) : (s.inhibitGiven k p).events = s.events := by
  unfold State.inhibitGiven; (try dsimp only); (repeat' split) <;> simp
@[simp] theorem State.inhibitGiven_nv (k : Byte) (p : List Byte) : (s.inhibitGiven k p).nv = s.nv := by
  unfold State.inhibitGiven; (try dsimp only); (repeat' split) <;> simp
@[simp] theorem State.inhibitGiven_restores (k : Byte) (p : List Byte) : (s.inhibitGiven k p).restores = s.restores := by
  unfold State.inhibitGiven; (try dsimp only); (repeat' split) <;> simp

@[simp] theorem State.applyConfig_now (c : ConfigChange) : (s.applyConfig c).now = s.now := by
  unfold State.applyConfig; (try dsimp only); (repeat' split) <;> simp
@[simp] theorem State.applyConfig_pending (c : ConfigChange) : (s.applyConfig c).pending = s.pending := by
  unfold State.applyConfig; (try dsimp only); (repeat' split) <;> simp
@[simp] theorem State.applyConfig_coin (c : ConfigChange) : (s.applyConfig c).coin = s.coin := by
  unfold State.applyConfig; (try dsimp only); (repeat' split) <;> simp
@[simp] theorem State.applyConfig_credit (c : ConfigChange) : (s.applyConfig c).credit = s.credit := by
  unfold State.applyConfig; (try dsimp only); (repeat' split) <;> simp
@[simp] theorem State.applyConfig_arbiter (c : ConfigChange) : (s.applyConfig c).arbiter = s.arbiter := by
  unfold State.applyConfig; (try dsimp only); (repeat' split) <;> simp
@[simp] theorem State.applyConfig_elapsed (c : ConfigChange) : (s.applyConfig c).elapsed = s.elapsed := by
  unfold State.applyConfig; (try dsimp only); (repeat' split) <;> simp
@[simp] theorem State.applyConfig_centre (c : ConfigChange) : (s.applyConfig c).centre = s.centre := by
  unfold State.applyConfig; (try dsimp only); (repeat' split) <;> simp
@[simp] theorem State.applyConfig_modem (c : ConfigChange) : (s.applyConfig c).modem = s.modem := by
  unfold State.applyConfig; (try dsimp only); (repeat' split) <;> simp
@[simp] theorem State.applyConfig_power (c : ConfigChange) : (s.applyConfig c).power = s.power := by
  unfold State.applyConfig; (try dsimp only); (repeat' split) <;> simp
@[simp] theorem State.applyConfig_clock (c : ConfigChange) : (s.applyConfig c).clock = s.clock := by
  unfold State.applyConfig; (try dsimp only); (repeat' split) <;> simp
@[simp] theorem State.applyConfig_service (c : ConfigChange) : (s.applyConfig c).service = s.service := by
  unfold State.applyConfig; (try dsimp only); (repeat' split) <;> simp
@[simp] theorem State.applyConfig_image0 (c : ConfigChange) : (s.applyConfig c).image0 = s.image0 := by
  unfold State.applyConfig; (try dsimp only); (repeat' split) <;> simp
@[simp] theorem State.applyConfig_image1 (c : ConfigChange) : (s.applyConfig c).image1 = s.image1 := by
  unfold State.applyConfig; (try dsimp only); (repeat' split) <;> simp
@[simp] theorem State.applyConfig_lifetime (c : ConfigChange) : (s.applyConfig c).lifetime = s.lifetime := by
  unfold State.applyConfig; (try dsimp only); (repeat' split) <;> simp
@[simp] theorem State.applyConfig_period (c : ConfigChange) : (s.applyConfig c).period = s.period := by
  unfold State.applyConfig; (try dsimp only); (repeat' split) <;> simp
@[simp] theorem State.applyConfig_history (c : ConfigChange) : (s.applyConfig c).history = s.history := by
  unfold State.applyConfig; (try dsimp only); (repeat' split) <;> simp
@[simp] theorem State.applyConfig_call (c : ConfigChange) : (s.applyConfig c).call = s.call := by
  unfold State.applyConfig; (try dsimp only); (repeat' split) <;> simp
@[simp] theorem State.applyConfig_nv (c : ConfigChange) : (s.applyConfig c).nv = s.nv := by
  unfold State.applyConfig; (try dsimp only); (repeat' split) <;> simp
@[simp] theorem State.applyConfig_restores (c : ConfigChange) : (s.applyConfig c).restores = s.restores := by
  unfold State.applyConfig; (try dsimp only); (repeat' split) <;> simp

@[simp] theorem State.configGiven_now (k : Byte) (p : List Byte) : (s.configGiven k p).now = s.now := by
  unfold State.configGiven; (try dsimp only); (repeat' split) <;> simp
@[simp] theorem State.configGiven_pending (k : Byte) (p : List Byte) : (s.configGiven k p).pending = s.pending := by
  unfold State.configGiven; (try dsimp only); (repeat' split) <;> simp
@[simp] theorem State.configGiven_coin (k : Byte) (p : List Byte) : (s.configGiven k p).coin = s.coin := by
  unfold State.configGiven; (try dsimp only); (repeat' split) <;> simp
@[simp] theorem State.configGiven_credit (k : Byte) (p : List Byte) : (s.configGiven k p).credit = s.credit := by
  unfold State.configGiven; (try dsimp only); (repeat' split) <;> simp
@[simp] theorem State.configGiven_arbiter (k : Byte) (p : List Byte) : (s.configGiven k p).arbiter = s.arbiter := by
  unfold State.configGiven; (try dsimp only); (repeat' split) <;> simp
@[simp] theorem State.configGiven_elapsed (k : Byte) (p : List Byte) : (s.configGiven k p).elapsed = s.elapsed := by
  unfold State.configGiven; (try dsimp only); (repeat' split) <;> simp
@[simp] theorem State.configGiven_power (k : Byte) (p : List Byte) : (s.configGiven k p).power = s.power := by
  unfold State.configGiven; (try dsimp only); (repeat' split) <;> simp
@[simp] theorem State.configGiven_clock (k : Byte) (p : List Byte) : (s.configGiven k p).clock = s.clock := by
  unfold State.configGiven; (try dsimp only); (repeat' split) <;> simp
@[simp] theorem State.configGiven_service (k : Byte) (p : List Byte) : (s.configGiven k p).service = s.service := by
  unfold State.configGiven; (try dsimp only); (repeat' split) <;> simp
@[simp] theorem State.configGiven_image0 (k : Byte) (p : List Byte) : (s.configGiven k p).image0 = s.image0 := by
  unfold State.configGiven; (try dsimp only); (repeat' split) <;> simp
@[simp] theorem State.configGiven_image1 (k : Byte) (p : List Byte) : (s.configGiven k p).image1 = s.image1 := by
  unfold State.configGiven; (try dsimp only); (repeat' split) <;> simp
@[simp] theorem State.configGiven_lifetime (k : Byte) (p : List Byte) : (s.configGiven k p).lifetime = s.lifetime := by
  unfold State.configGiven; (try dsimp only); (repeat' split) <;> simp
@[simp] theorem State.configGiven_period (k : Byte) (p : List Byte) : (s.configGiven k p).period = s.period := by
  unfold State.configGiven; (try dsimp only); (repeat' split) <;> simp
@[simp] theorem State.configGiven_history (k : Byte) (p : List Byte) : (s.configGiven k p).history = s.history := by
  unfold State.configGiven; (try dsimp only); (repeat' split) <;> simp
@[simp] theorem State.configGiven_call (k : Byte) (p : List Byte) : (s.configGiven k p).call = s.call := by
  unfold State.configGiven; (try dsimp only); (repeat' split) <;> simp
@[simp] theorem State.configGiven_nv (k : Byte) (p : List Byte) : (s.configGiven k p).nv = s.nv := by
  unfold State.configGiven; (try dsimp only); (repeat' split) <;> simp
@[simp] theorem State.configGiven_restores (k : Byte) (p : List Byte) : (s.configGiven k p).restores = s.restores := by
  unfold State.configGiven; (try dsimp only); (repeat' split) <;> simp

@[simp] theorem State.turnEnded_now (k : Byte) (p : List Byte) : (s.turnEnded k p).now = s.now := by
  unfold State.turnEnded; (try dsimp only); (repeat' split) <;> simp
@[simp] theorem State.turnEnded_pending (k : Byte) (p : List Byte) : (s.turnEnded k p).pending = s.pending := by
  unfold State.turnEnded; (try dsimp only); (repeat' split) <;> simp
@[simp] theorem State.turnEnded_coin (k : Byte) (p : List Byte) : (s.turnEnded k p).coin = s.coin := by
  unfold State.turnEnded; (try dsimp only); (repeat' split) <;> simp
@[simp] theorem State.turnEnded_credit (k : Byte) (p : List Byte) : (s.turnEnded k p).credit = s.credit := by
  unfold State.turnEnded; (try dsimp only); (repeat' split) <;> simp
@[simp] theorem State.turnEnded_rating (k : Byte) (p : List Byte) : (s.turnEnded k p).rating = s.rating := by
  unfold State.turnEnded; (try dsimp only); (repeat' split) <;> simp
@[simp] theorem State.turnEnded_line (k : Byte) (p : List Byte) : (s.turnEnded k p).line = s.line := by
  unfold State.turnEnded; (try dsimp only); (repeat' split) <;> simp
@[simp] theorem State.turnEnded_arbiter (k : Byte) (p : List Byte) : (s.turnEnded k p).arbiter = s.arbiter := by
  unfold State.turnEnded; (try dsimp only); (repeat' split) <;> simp
@[simp] theorem State.turnEnded_tamper (k : Byte) (p : List Byte) : (s.turnEnded k p).tamper = s.tamper := by
  unfold State.turnEnded; (try dsimp only); (repeat' split) <;> simp
@[simp] theorem State.turnEnded_elapsed (k : Byte) (p : List Byte) : (s.turnEnded k p).elapsed = s.elapsed := by
  unfold State.turnEnded; (try dsimp only); (repeat' split) <;> simp
@[simp] theorem State.turnEnded_ledger (k : Byte) (p : List Byte) : (s.turnEnded k p).ledger = s.ledger := by
  unfold State.turnEnded; (try dsimp only); (repeat' split) <;> simp
@[simp] theorem State.turnEnded_power (k : Byte) (p : List Byte) : (s.turnEnded k p).power = s.power := by
  unfold State.turnEnded; (try dsimp only); (repeat' split) <;> simp
@[simp] theorem State.turnEnded_clock (k : Byte) (p : List Byte) : (s.turnEnded k p).clock = s.clock := by
  unfold State.turnEnded; (try dsimp only); (repeat' split) <;> simp
@[simp] theorem State.turnEnded_setPort (k : Byte) (p : List Byte) : (s.turnEnded k p).setPort = s.setPort := by
  unfold State.turnEnded; (try dsimp only); (repeat' split) <;> simp
@[simp] theorem State.turnEnded_service (k : Byte) (p : List Byte) : (s.turnEnded k p).service = s.service := by
  unfold State.turnEnded; (try dsimp only); (repeat' split) <;> simp
@[simp] theorem State.turnEnded_config (k : Byte) (p : List Byte) : (s.turnEnded k p).config = s.config := by
  unfold State.turnEnded; (try dsimp only); (repeat' split) <;> simp
@[simp] theorem State.turnEnded_image0 (k : Byte) (p : List Byte) : (s.turnEnded k p).image0 = s.image0 := by
  unfold State.turnEnded; (try dsimp only); (repeat' split) <;> simp
@[simp] theorem State.turnEnded_image1 (k : Byte) (p : List Byte) : (s.turnEnded k p).image1 = s.image1 := by
  unfold State.turnEnded; (try dsimp only); (repeat' split) <;> simp
@[simp] theorem State.turnEnded_lifetime (k : Byte) (p : List Byte) : (s.turnEnded k p).lifetime = s.lifetime := by
  unfold State.turnEnded; (try dsimp only); (repeat' split) <;> simp
@[simp] theorem State.turnEnded_period (k : Byte) (p : List Byte) : (s.turnEnded k p).period = s.period := by
  unfold State.turnEnded; (try dsimp only); (repeat' split) <;> simp
@[simp] theorem State.turnEnded_history (k : Byte) (p : List Byte) : (s.turnEnded k p).history = s.history := by
  unfold State.turnEnded; (try dsimp only); (repeat' split) <;> simp
@[simp] theorem State.turnEnded_call (k : Byte) (p : List Byte) : (s.turnEnded k p).call = s.call := by
  unfold State.turnEnded; (try dsimp only); (repeat' split) <;> simp
@[simp] theorem State.turnEnded_events (k : Byte) (p : List Byte) : (s.turnEnded k p).events = s.events := by
  unfold State.turnEnded; (try dsimp only); (repeat' split) <;> simp
@[simp] theorem State.turnEnded_nv (k : Byte) (p : List Byte) : (s.turnEnded k p).nv = s.nv := by
  unfold State.turnEnded; (try dsimp only); (repeat' split) <;> simp
@[simp] theorem State.turnEnded_restores (k : Byte) (p : List Byte) : (s.turnEnded k p).restores = s.restores := by
  unfold State.turnEnded; (try dsimp only); (repeat' split) <;> simp

end Sys2Proof.Machine
end

