-- ==== Sys2Proof/Laws/CoinOps.lean ====
section
/-!
SUPPORT. What each operation of Machine/CoinOps.lean leaves alone: one lemma for each field of `State` that it never
touches.  What it does to the fields it touches stands in its definition.
-/

set_option linter.unusedTactic false
set_option linter.unnecessarySeqFocus false
set_option linter.unreachableTactic false

namespace Sys2Proof.Machine

variable (s : State)

@[simp] theorem State.setJam_now (j : ChuteJam) : (s.setJam j).now = s.now := by
  unfold State.setJam; (try dsimp only); (repeat' split) <;> simp
@[simp] theorem State.setJam_pending (j : ChuteJam) : (s.setJam j).pending = s.pending := by
  unfold State.setJam; (try dsimp only); (repeat' split) <;> simp
@[simp] theorem State.setJam_credit (j : ChuteJam) : (s.setJam j).credit = s.credit := by
  unfold State.setJam; (try dsimp only); (repeat' split) <;> simp
@[simp] theorem State.setJam_arbiter (j : ChuteJam) : (s.setJam j).arbiter = s.arbiter := by
  unfold State.setJam; (try dsimp only); (repeat' split) <;> simp
@[simp] theorem State.setJam_elapsed (j : ChuteJam) : (s.setJam j).elapsed = s.elapsed := by
  unfold State.setJam; (try dsimp only); (repeat' split) <;> simp
@[simp] theorem State.setJam_centre (j : ChuteJam) : (s.setJam j).centre = s.centre := by
  unfold State.setJam; (try dsimp only); (repeat' split) <;> simp
@[simp] theorem State.setJam_modem (j : ChuteJam) : (s.setJam j).modem = s.modem := by
  unfold State.setJam; (try dsimp only); (repeat' split) <;> simp
@[simp] theorem State.setJam_power (j : ChuteJam) : (s.setJam j).power = s.power := by
  unfold State.setJam; (try dsimp only); (repeat' split) <;> simp
@[simp] theorem State.setJam_clock (j : ChuteJam) : (s.setJam j).clock = s.clock := by
  unfold State.setJam; (try dsimp only); (repeat' split) <;> simp
@[simp] theorem State.setJam_service (j : ChuteJam) : (s.setJam j).service = s.service := by
  unfold State.setJam; (try dsimp only); (repeat' split) <;> simp
@[simp] theorem State.setJam_image0 (j : ChuteJam) : (s.setJam j).image0 = s.image0 := by
  unfold State.setJam; (try dsimp only); (repeat' split) <;> simp
@[simp] theorem State.setJam_image1 (j : ChuteJam) : (s.setJam j).image1 = s.image1 := by
  unfold State.setJam; (try dsimp only); (repeat' split) <;> simp
@[simp] theorem State.setJam_lifetime (j : ChuteJam) : (s.setJam j).lifetime = s.lifetime := by
  unfold State.setJam; (try dsimp only); (repeat' split) <;> simp
@[simp] theorem State.setJam_period (j : ChuteJam) : (s.setJam j).period = s.period := by
  unfold State.setJam; (try dsimp only); (repeat' split) <;> simp
@[simp] theorem State.setJam_history (j : ChuteJam) : (s.setJam j).history = s.history := by
  unfold State.setJam; (try dsimp only); (repeat' split) <;> simp
@[simp] theorem State.setJam_call (j : ChuteJam) : (s.setJam j).call = s.call := by
  unfold State.setJam; (try dsimp only); (repeat' split) <;> simp
@[simp] theorem State.setJam_nv (j : ChuteJam) : (s.setJam j).nv = s.nv := by
  unfold State.setJam; (try dsimp only); (repeat' split) <;> simp
@[simp] theorem State.setJam_restores (j : ChuteJam) : (s.setJam j).restores = s.restores := by
  unfold State.setJam; (try dsimp only); (repeat' split) <;> simp

@[simp] theorem State.clearJam_now (j : ChuteJam) : (s.clearJam j).now = s.now := by
  unfold State.clearJam; (try dsimp only); (repeat' split) <;> simp
@[simp] theorem State.clearJam_pending (j : ChuteJam) : (s.clearJam j).pending = s.pending := by
  unfold State.clearJam; (try dsimp only); (repeat' split) <;> simp
@[simp] theorem State.clearJam_credit (j : ChuteJam) : (s.clearJam j).credit = s.credit := by
  unfold State.clearJam; (try dsimp only); (repeat' split) <;> simp
@[simp] theorem State.clearJam_arbiter (j : ChuteJam) : (s.clearJam j).arbiter = s.arbiter := by
  unfold State.clearJam; (try dsimp only); (repeat' split) <;> simp
@[simp] theorem State.clearJam_elapsed (j : ChuteJam) : (s.clearJam j).elapsed = s.elapsed := by
  unfold State.clearJam; (try dsimp only); (repeat' split) <;> simp
@[simp] theorem State.clearJam_centre (j : ChuteJam) : (s.clearJam j).centre = s.centre := by
  unfold State.clearJam; (try dsimp only); (repeat' split) <;> simp
@[simp] theorem State.clearJam_modem (j : ChuteJam) : (s.clearJam j).modem = s.modem := by
  unfold State.clearJam; (try dsimp only); (repeat' split) <;> simp
@[simp] theorem State.clearJam_power (j : ChuteJam) : (s.clearJam j).power = s.power := by
  unfold State.clearJam; (try dsimp only); (repeat' split) <;> simp
@[simp] theorem State.clearJam_clock (j : ChuteJam) : (s.clearJam j).clock = s.clock := by
  unfold State.clearJam; (try dsimp only); (repeat' split) <;> simp
@[simp] theorem State.clearJam_service (j : ChuteJam) : (s.clearJam j).service = s.service := by
  unfold State.clearJam; (try dsimp only); (repeat' split) <;> simp
@[simp] theorem State.clearJam_image0 (j : ChuteJam) : (s.clearJam j).image0 = s.image0 := by
  unfold State.clearJam; (try dsimp only); (repeat' split) <;> simp
@[simp] theorem State.clearJam_image1 (j : ChuteJam) : (s.clearJam j).image1 = s.image1 := by
  unfold State.clearJam; (try dsimp only); (repeat' split) <;> simp
@[simp] theorem State.clearJam_lifetime (j : ChuteJam) : (s.clearJam j).lifetime = s.lifetime := by
  unfold State.clearJam; (try dsimp only); (repeat' split) <;> simp
@[simp] theorem State.clearJam_period (j : ChuteJam) : (s.clearJam j).period = s.period := by
  unfold State.clearJam; (try dsimp only); (repeat' split) <;> simp
@[simp] theorem State.clearJam_history (j : ChuteJam) : (s.clearJam j).history = s.history := by
  unfold State.clearJam; (try dsimp only); (repeat' split) <;> simp
@[simp] theorem State.clearJam_call (j : ChuteJam) : (s.clearJam j).call = s.call := by
  unfold State.clearJam; (try dsimp only); (repeat' split) <;> simp
@[simp] theorem State.clearJam_events (j : ChuteJam) : (s.clearJam j).events = s.events := by
  unfold State.clearJam; (try dsimp only); (repeat' split) <;> simp
@[simp] theorem State.clearJam_nv (j : ChuteJam) : (s.clearJam j).nv = s.nv := by
  unfold State.clearJam; (try dsimp only); (repeat' split) <;> simp
@[simp] theorem State.clearJam_restores (j : ChuteJam) : (s.clearJam j).restores = s.restores := by
  unfold State.clearJam; (try dsimp only); (repeat' split) <;> simp

@[simp] theorem State.rejectCoin_now (r : RejectReason) : (s.rejectCoin r).now = s.now := by
  unfold State.rejectCoin; (try dsimp only); (repeat' split) <;> simp
@[simp] theorem State.rejectCoin_pending (r : RejectReason) : (s.rejectCoin r).pending = s.pending := by
  unfold State.rejectCoin; (try dsimp only); (repeat' split) <;> simp
@[simp] theorem State.rejectCoin_credit (r : RejectReason) : (s.rejectCoin r).credit = s.credit := by
  unfold State.rejectCoin; (try dsimp only); (repeat' split) <;> simp
@[simp] theorem State.rejectCoin_rating (r : RejectReason) : (s.rejectCoin r).rating = s.rating := by
  unfold State.rejectCoin; (try dsimp only); (repeat' split) <;> simp
@[simp] theorem State.rejectCoin_line (r : RejectReason) : (s.rejectCoin r).line = s.line := by
  unfold State.rejectCoin; (try dsimp only); (repeat' split) <;> simp
@[simp] theorem State.rejectCoin_arbiter (r : RejectReason) : (s.rejectCoin r).arbiter = s.arbiter := by
  unfold State.rejectCoin; (try dsimp only); (repeat' split) <;> simp
@[simp] theorem State.rejectCoin_tamper (r : RejectReason) : (s.rejectCoin r).tamper = s.tamper := by
  unfold State.rejectCoin; (try dsimp only); (repeat' split) <;> simp
@[simp] theorem State.rejectCoin_elapsed (r : RejectReason) : (s.rejectCoin r).elapsed = s.elapsed := by
  unfold State.rejectCoin; (try dsimp only); (repeat' split) <;> simp
@[simp] theorem State.rejectCoin_centre (r : RejectReason) : (s.rejectCoin r).centre = s.centre := by
  unfold State.rejectCoin; (try dsimp only); (repeat' split) <;> simp
@[simp] theorem State.rejectCoin_modem (r : RejectReason) : (s.rejectCoin r).modem = s.modem := by
  unfold State.rejectCoin; (try dsimp only); (repeat' split) <;> simp
@[simp] theorem State.rejectCoin_ledger (r : RejectReason) : (s.rejectCoin r).ledger = s.ledger := by
  unfold State.rejectCoin; (try dsimp only); (repeat' split) <;> simp
@[simp] theorem State.rejectCoin_power (r : RejectReason) : (s.rejectCoin r).power = s.power := by
  unfold State.rejectCoin; (try dsimp only); (repeat' split) <;> simp
@[simp] theorem State.rejectCoin_clock (r : RejectReason) : (s.rejectCoin r).clock = s.clock := by
  unfold State.rejectCoin; (try dsimp only); (repeat' split) <;> simp
@[simp] theorem State.rejectCoin_service (r : RejectReason) : (s.rejectCoin r).service = s.service := by
  unfold State.rejectCoin; (try dsimp only); (repeat' split) <;> simp
@[simp] theorem State.rejectCoin_config (r : RejectReason) : (s.rejectCoin r).config = s.config := by
  unfold State.rejectCoin; (try dsimp only); (repeat' split) <;> simp
@[simp] theorem State.rejectCoin_image0 (r : RejectReason) : (s.rejectCoin r).image0 = s.image0 := by
  unfold State.rejectCoin; (try dsimp only); (repeat' split) <;> simp
@[simp] theorem State.rejectCoin_image1 (r : RejectReason) : (s.rejectCoin r).image1 = s.image1 := by
  unfold State.rejectCoin; (try dsimp only); (repeat' split) <;> simp
@[simp] theorem State.rejectCoin_lifetime (r : RejectReason) : (s.rejectCoin r).lifetime = s.lifetime := by
  unfold State.rejectCoin; (try dsimp only); (repeat' split) <;> simp
@[simp] theorem State.rejectCoin_period (r : RejectReason) : (s.rejectCoin r).period = s.period := by
  unfold State.rejectCoin; (try dsimp only); (repeat' split) <;> simp
@[simp] theorem State.rejectCoin_history (r : RejectReason) : (s.rejectCoin r).history = s.history := by
  unfold State.rejectCoin; (try dsimp only); (repeat' split) <;> simp
@[simp] theorem State.rejectCoin_call (r : RejectReason) : (s.rejectCoin r).call = s.call := by
  unfold State.rejectCoin; (try dsimp only); (repeat' split) <;> simp
@[simp] theorem State.rejectCoin_events (r : RejectReason) : (s.rejectCoin r).events = s.events := by
  unfold State.rejectCoin; (try dsimp only); (repeat' split) <;> simp
@[simp] theorem State.rejectCoin_nv (r : RejectReason) : (s.rejectCoin r).nv = s.nv := by
  unfold State.rejectCoin; (try dsimp only); (repeat' split) <;> simp
@[simp] theorem State.rejectCoin_restores (r : RejectReason) : (s.rejectCoin r).restores = s.restores := by
  unfold State.rejectCoin; (try dsimp only); (repeat' split) <;> simp

@[simp] theorem State.openGate_now (k v : Nat) (r : Route) : (s.openGate k v r).now = s.now := by
  unfold State.openGate; (try dsimp only); (repeat' split) <;> simp
@[simp] theorem State.openGate_pending (k v : Nat) (r : Route) : (s.openGate k v r).pending = s.pending := by
  unfold State.openGate; (try dsimp only); (repeat' split) <;> simp
@[simp] theorem State.openGate_credit (k v : Nat) (r : Route) : (s.openGate k v r).credit = s.credit := by
  unfold State.openGate; (try dsimp only); (repeat' split) <;> simp
@[simp] theorem State.openGate_rating (k v : Nat) (r : Route) : (s.openGate k v r).rating = s.rating := by
  unfold State.openGate; (try dsimp only); (repeat' split) <;> simp
@[simp] theorem State.openGate_line (k v : Nat) (r : Route) : (s.openGate k v r).line = s.line := by
  unfold State.openGate; (try dsimp only); (repeat' split) <;> simp
@[simp] theorem State.openGate_arbiter (k v : Nat) (r : Route) : (s.openGate k v r).arbiter = s.arbiter := by
  unfold State.openGate; (try dsimp only); (repeat' split) <;> simp
@[simp] theorem State.openGate_tamper (k v : Nat) (r : Route) : (s.openGate k v r).tamper = s.tamper := by
  unfold State.openGate; (try dsimp only); (repeat' split) <;> simp
@[simp] theorem State.openGate_elapsed (k v : Nat) (r : Route) : (s.openGate k v r).elapsed = s.elapsed := by
  unfold State.openGate; (try dsimp only); (repeat' split) <;> simp
@[simp] theorem State.openGate_centre (k v : Nat) (r : Route) : (s.openGate k v r).centre = s.centre := by
  unfold State.openGate; (try dsimp only); (repeat' split) <;> simp
@[simp] theorem State.openGate_modem (k v : Nat) (r : Route) : (s.openGate k v r).modem = s.modem := by
  unfold State.openGate; (try dsimp only); (repeat' split) <;> simp
@[simp] theorem State.openGate_ledger (k v : Nat) (r : Route) : (s.openGate k v r).ledger = s.ledger := by
  unfold State.openGate; (try dsimp only); (repeat' split) <;> simp
@[simp] theorem State.openGate_power (k v : Nat) (r : Route) : (s.openGate k v r).power = s.power := by
  unfold State.openGate; (try dsimp only); (repeat' split) <;> simp
@[simp] theorem State.openGate_clock (k v : Nat) (r : Route) : (s.openGate k v r).clock = s.clock := by
  unfold State.openGate; (try dsimp only); (repeat' split) <;> simp
@[simp] theorem State.openGate_setPort (k v : Nat) (r : Route) : (s.openGate k v r).setPort = s.setPort := by
  unfold State.openGate; (try dsimp only); (repeat' split) <;> simp
@[simp] theorem State.openGate_service (k v : Nat) (r : Route) : (s.openGate k v r).service = s.service := by
  unfold State.openGate; (try dsimp only); (repeat' split) <;> simp
@[simp] theorem State.openGate_config (k v : Nat) (r : Route) : (s.openGate k v r).config = s.config := by
  unfold State.openGate; (try dsimp only); (repeat' split) <;> simp
@[simp] theorem State.openGate_image0 (k v : Nat) (r : Route) : (s.openGate k v r).image0 = s.image0 := by
  unfold State.openGate; (try dsimp only); (repeat' split) <;> simp
@[simp] theorem State.openGate_image1 (k v : Nat) (r : Route) : (s.openGate k v r).image1 = s.image1 := by
  unfold State.openGate; (try dsimp only); (repeat' split) <;> simp
@[simp] theorem State.openGate_lifetime (k v : Nat) (r : Route) : (s.openGate k v r).lifetime = s.lifetime := by
  unfold State.openGate; (try dsimp only); (repeat' split) <;> simp
@[simp] theorem State.openGate_period (k v : Nat) (r : Route) : (s.openGate k v r).period = s.period := by
  unfold State.openGate; (try dsimp only); (repeat' split) <;> simp
@[simp] theorem State.openGate_history (k v : Nat) (r : Route) : (s.openGate k v r).history = s.history := by
  unfold State.openGate; (try dsimp only); (repeat' split) <;> simp
@[simp] theorem State.openGate_call (k v : Nat) (r : Route) : (s.openGate k v r).call = s.call := by
  unfold State.openGate; (try dsimp only); (repeat' split) <;> simp
@[simp] theorem State.openGate_events (k v : Nat) (r : Route) : (s.openGate k v r).events = s.events := by
  unfold State.openGate; (try dsimp only); (repeat' split) <;> simp
@[simp] theorem State.openGate_nv (k v : Nat) (r : Route) : (s.openGate k v r).nv = s.nv := by
  unfold State.openGate; (try dsimp only); (repeat' split) <;> simp
@[simp] theorem State.openGate_restores (k v : Nat) (r : Route) : (s.openGate k v r).restores = s.restores := by
  unfold State.openGate; (try dsimp only); (repeat' split) <;> simp

@[simp] theorem State.decideCoin_now (t : Triple) : (s.decideCoin t).now = s.now := by
  unfold State.decideCoin; (try dsimp only); (repeat' split) <;> simp
@[simp] theorem State.decideCoin_pending (t : Triple) : (s.decideCoin t).pending = s.pending := by
  unfold State.decideCoin; (try dsimp only); (repeat' split) <;> simp
@[simp] theorem State.decideCoin_credit (t : Triple) : (s.decideCoin t).credit = s.credit := by
  unfold State.decideCoin; (try dsimp only); (repeat' split) <;> simp
@[simp] theorem State.decideCoin_rating (t : Triple) : (s.decideCoin t).rating = s.rating := by
  unfold State.decideCoin; (try dsimp only); (repeat' split) <;> simp
@[simp] theorem State.decideCoin_line (t : Triple) : (s.decideCoin t).line = s.line := by
  unfold State.decideCoin; (try dsimp only); (repeat' split) <;> simp
@[simp] theorem State.decideCoin_arbiter (t : Triple) : (s.decideCoin t).arbiter = s.arbiter := by
  unfold State.decideCoin; (try dsimp only); (repeat' split) <;> simp
@[simp] theorem State.decideCoin_tamper (t : Triple) : (s.decideCoin t).tamper = s.tamper := by
  unfold State.decideCoin; (try dsimp only); (repeat' split) <;> simp
@[simp] theorem State.decideCoin_elapsed (t : Triple) : (s.decideCoin t).elapsed = s.elapsed := by
  unfold State.decideCoin; (try dsimp only); (repeat' split) <;> simp
@[simp] theorem State.decideCoin_centre (t : Triple) : (s.decideCoin t).centre = s.centre := by
  unfold State.decideCoin; (try dsimp only); (repeat' split) <;> simp
@[simp] theorem State.decideCoin_modem (t : Triple) : (s.decideCoin t).modem = s.modem := by
  unfold State.decideCoin; (try dsimp only); (repeat' split) <;> simp
@[simp] theorem State.decideCoin_ledger (t : Triple) : (s.decideCoin t).ledger = s.ledger := by
  unfold State.decideCoin; (try dsimp only); (repeat' split) <;> simp
@[simp] theorem State.decideCoin_power (t : Triple) : (s.decideCoin t).power = s.power := by
  unfold State.decideCoin; (try dsimp only); (repeat' split) <;> simp
@[simp] theorem State.decideCoin_clock (t : Triple) : (s.decideCoin t).clock = s.clock := by
  unfold State.decideCoin; (try dsimp only); (repeat' split) <;> simp
@[simp] theorem State.decideCoin_service (t : Triple) : (s.decideCoin t).service = s.service := by
  unfold State.decideCoin; (try dsimp only); (repeat' split) <;> simp
@[simp] theorem State.decideCoin_config (t : Triple) : (s.decideCoin t).config = s.config := by
  unfold State.decideCoin; (try dsimp only); (repeat' split) <;> simp
@[simp] theorem State.decideCoin_image0 (t : Triple) : (s.decideCoin t).image0 = s.image0 := by
  unfold State.decideCoin; (try dsimp only); (repeat' split) <;> simp
@[simp] theorem State.decideCoin_image1 (t : Triple) : (s.decideCoin t).image1 = s.image1 := by
  unfold State.decideCoin; (try dsimp only); (repeat' split) <;> simp
@[simp] theorem State.decideCoin_lifetime (t : Triple) : (s.decideCoin t).lifetime = s.lifetime := by
  unfold State.decideCoin; (try dsimp only); (repeat' split) <;> simp
@[simp] theorem State.decideCoin_period (t : Triple) : (s.decideCoin t).period = s.period := by
  unfold State.decideCoin; (try dsimp only); (repeat' split) <;> simp
@[simp] theorem State.decideCoin_history (t : Triple) : (s.decideCoin t).history = s.history := by
  unfold State.decideCoin; (try dsimp only); (repeat' split) <;> simp
@[simp] theorem State.decideCoin_call (t : Triple) : (s.decideCoin t).call = s.call := by
  unfold State.decideCoin; (try dsimp only); (repeat' split) <;> simp
@[simp] theorem State.decideCoin_events (t : Triple) : (s.decideCoin t).events = s.events := by
  unfold State.decideCoin; (try dsimp only); (repeat' split) <;> simp
@[simp] theorem State.decideCoin_nv (t : Triple) : (s.decideCoin t).nv = s.nv := by
  unfold State.decideCoin; (try dsimp only); (repeat' split) <;> simp
@[simp] theorem State.decideCoin_restores (t : Triple) : (s.decideCoin t).restores = s.restores := by
  unfold State.decideCoin; (try dsimp only); (repeat' split) <;> simp

@[simp] theorem State.gateDecision_now (t : Triple) : (s.gateDecision t).now = s.now := by
  unfold State.gateDecision; (try dsimp only); (repeat' split) <;> simp
@[simp] theorem State.gateDecision_pending (t : Triple) : (s.gateDecision t).pending = s.pending := by
  unfold State.gateDecision; (try dsimp only); (repeat' split) <;> simp
@[simp] theorem State.gateDecision_credit (t : Triple) : (s.gateDecision t).credit = s.credit := by
  unfold State.gateDecision; (try dsimp only); (repeat' split) <;> simp
@[simp] theorem State.gateDecision_rating (t : Triple) : (s.gateDecision t).rating = s.rating := by
  unfold State.gateDecision; (try dsimp only); (repeat' split) <;> simp
@[simp] theorem State.gateDecision_line (t : Triple) : (s.gateDecision t).line = s.line := by
  unfold State.gateDecision; (try dsimp only); (repeat' split) <;> simp
@[simp] theorem State.gateDecision_arbiter (t : Triple) : (s.gateDecision t).arbiter = s.arbiter := by
  unfold State.gateDecision; (try dsimp only); (repeat' split) <;> simp
@[simp] theorem State.gateDecision_tamper (t : Triple) : (s.gateDecision t).tamper = s.tamper := by
  unfold State.gateDecision; (try dsimp only); (repeat' split) <;> simp
@[simp] theorem State.gateDecision_elapsed (t : Triple) : (s.gateDecision t).elapsed = s.elapsed := by
  unfold State.gateDecision; (try dsimp only); (repeat' split) <;> simp
@[simp] theorem State.gateDecision_centre (t : Triple) : (s.gateDecision t).centre = s.centre := by
  unfold State.gateDecision; (try dsimp only); (repeat' split) <;> simp
@[simp] theorem State.gateDecision_modem (t : Triple) : (s.gateDecision t).modem = s.modem := by
  unfold State.gateDecision; (try dsimp only); (repeat' split) <;> simp
@[simp] theorem State.gateDecision_ledger (t : Triple) : (s.gateDecision t).ledger = s.ledger := by
  unfold State.gateDecision; (try dsimp only); (repeat' split) <;> simp
@[simp] theorem State.gateDecision_power (t : Triple) : (s.gateDecision t).power = s.power := by
  unfold State.gateDecision; (try dsimp only); (repeat' split) <;> simp
@[simp] theorem State.gateDecision_clock (t : Triple) : (s.gateDecision t).clock = s.clock := by
  unfold State.gateDecision; (try dsimp only); (repeat' split) <;> simp
@[simp] theorem State.gateDecision_service (t : Triple) : (s.gateDecision t).service = s.service := by
  unfold State.gateDecision; (try dsimp only); (repeat' split) <;> simp
@[simp] theorem State.gateDecision_config (t : Triple) : (s.gateDecision t).config = s.config := by
  unfold State.gateDecision; (try dsimp only); (repeat' split) <;> simp
@[simp] theorem State.gateDecision_image0 (t : Triple) : (s.gateDecision t).image0 = s.image0 := by
  unfold State.gateDecision; (try dsimp only); (repeat' split) <;> simp
@[simp] theorem State.gateDecision_image1 (t : Triple) : (s.gateDecision t).image1 = s.image1 := by
  unfold State.gateDecision; (try dsimp only); (repeat' split) <;> simp
@[simp] theorem State.gateDecision_lifetime (t : Triple) : (s.gateDecision t).lifetime = s.lifetime := by
  unfold State.gateDecision; (try dsimp only); (repeat' split) <;> simp
@[simp] theorem State.gateDecision_period (t : Triple) : (s.gateDecision t).period = s.period := by
  unfold State.gateDecision; (try dsimp only); (repeat' split) <;> simp
@[simp] theorem State.gateDecision_history (t : Triple) : (s.gateDecision t).history = s.history := by
  unfold State.gateDecision; (try dsimp only); (repeat' split) <;> simp
@[simp] theorem State.gateDecision_call (t : Triple) : (s.gateDecision t).call = s.call := by
  unfold State.gateDecision; (try dsimp only); (repeat' split) <;> simp
@[simp] theorem State.gateDecision_events (t : Triple) : (s.gateDecision t).events = s.events := by
  unfold State.gateDecision; (try dsimp only); (repeat' split) <;> simp
@[simp] theorem State.gateDecision_nv (t : Triple) : (s.gateDecision t).nv = s.nv := by
  unfold State.gateDecision; (try dsimp only); (repeat' split) <;> simp
@[simp] theorem State.gateDecision_restores (t : Triple) : (s.gateDecision t).restores = s.restores := by
  unfold State.gateDecision; (try dsimp only); (repeat' split) <;> simp

@[simp] theorem State.heldDecision_now : (s.heldDecision).now = s.now := by
  unfold State.heldDecision; (try dsimp only); (repeat' split) <;> simp
@[simp] theorem State.heldDecision_pending : (s.heldDecision).pending = s.pending := by
  unfold State.heldDecision; (try dsimp only); (repeat' split) <;> simp
@[simp] theorem State.heldDecision_credit : (s.heldDecision).credit = s.credit := by
  unfold State.heldDecision; (try dsimp only); (repeat' split) <;> simp
@[simp] theorem State.heldDecision_rating : (s.heldDecision).rating = s.rating := by
  unfold State.heldDecision; (try dsimp only); (repeat' split) <;> simp
@[simp] theorem State.heldDecision_line : (s.heldDecision).line = s.line := by
  unfold State.heldDecision; (try dsimp only); (repeat' split) <;> simp
@[simp] theorem State.heldDecision_arbiter : (s.heldDecision).arbiter = s.arbiter := by
  unfold State.heldDecision; (try dsimp only); (repeat' split) <;> simp
@[simp] theorem State.heldDecision_tamper : (s.heldDecision).tamper = s.tamper := by
  unfold State.heldDecision; (try dsimp only); (repeat' split) <;> simp
@[simp] theorem State.heldDecision_elapsed : (s.heldDecision).elapsed = s.elapsed := by
  unfold State.heldDecision; (try dsimp only); (repeat' split) <;> simp
@[simp] theorem State.heldDecision_centre : (s.heldDecision).centre = s.centre := by
  unfold State.heldDecision; (try dsimp only); (repeat' split) <;> simp
@[simp] theorem State.heldDecision_modem : (s.heldDecision).modem = s.modem := by
  unfold State.heldDecision; (try dsimp only); (repeat' split) <;> simp
@[simp] theorem State.heldDecision_ledger : (s.heldDecision).ledger = s.ledger := by
  unfold State.heldDecision; (try dsimp only); (repeat' split) <;> simp
@[simp] theorem State.heldDecision_power : (s.heldDecision).power = s.power := by
  unfold State.heldDecision; (try dsimp only); (repeat' split) <;> simp
@[simp] theorem State.heldDecision_clock : (s.heldDecision).clock = s.clock := by
  unfold State.heldDecision; (try dsimp only); (repeat' split) <;> simp
@[simp] theorem State.heldDecision_service : (s.heldDecision).service = s.service := by
  unfold State.heldDecision; (try dsimp only); (repeat' split) <;> simp
@[simp] theorem State.heldDecision_config : (s.heldDecision).config = s.config := by
  unfold State.heldDecision; (try dsimp only); (repeat' split) <;> simp
@[simp] theorem State.heldDecision_image0 : (s.heldDecision).image0 = s.image0 := by
  unfold State.heldDecision; (try dsimp only); (repeat' split) <;> simp
@[simp] theorem State.heldDecision_image1 : (s.heldDecision).image1 = s.image1 := by
  unfold State.heldDecision; (try dsimp only); (repeat' split) <;> simp
@[simp] theorem State.heldDecision_lifetime : (s.heldDecision).lifetime = s.lifetime := by
  unfold State.heldDecision; (try dsimp only); (repeat' split) <;> simp
@[simp] theorem State.heldDecision_period : (s.heldDecision).period = s.period := by
  unfold State.heldDecision; (try dsimp only); (repeat' split) <;> simp
@[simp] theorem State.heldDecision_history : (s.heldDecision).history = s.history := by
  unfold State.heldDecision; (try dsimp only); (repeat' split) <;> simp
@[simp] theorem State.heldDecision_call : (s.heldDecision).call = s.call := by
  unfold State.heldDecision; (try dsimp only); (repeat' split) <;> simp
@[simp] theorem State.heldDecision_events : (s.heldDecision).events = s.events := by
  unfold State.heldDecision; (try dsimp only); (repeat' split) <;> simp
@[simp] theorem State.heldDecision_nv : (s.heldDecision).nv = s.nv := by
  unfold State.heldDecision; (try dsimp only); (repeat' split) <;> simp
@[simp] theorem State.heldDecision_restores : (s.heldDecision).restores = s.restores := by
  unfold State.heldDecision; (try dsimp only); (repeat' split) <;> simp

@[simp] theorem State.forwardPassage_now : (s.forwardPassage).now = s.now := by
  unfold State.forwardPassage; (try dsimp only); (repeat' split) <;> simp
@[simp] theorem State.forwardPassage_pending : (s.forwardPassage).pending = s.pending := by
  unfold State.forwardPassage; (try dsimp only); (repeat' split) <;> simp
@[simp] theorem State.forwardPassage_rating : (s.forwardPassage).rating = s.rating := by
  unfold State.forwardPassage; (try dsimp only); (repeat' split) <;> simp
@[simp] theorem State.forwardPassage_line : (s.forwardPassage).line = s.line := by
  unfold State.forwardPassage; (try dsimp only); (repeat' split) <;> simp
@[simp] theorem State.forwardPassage_arbiter : (s.forwardPassage).arbiter = s.arbiter := by
  unfold State.forwardPassage; (try dsimp only); (repeat' split) <;> simp
@[simp] theorem State.forwardPassage_tamper : (s.forwardPassage).tamper = s.tamper := by
  unfold State.forwardPassage; (try dsimp only); (repeat' split) <;> simp
@[simp] theorem State.forwardPassage_elapsed : (s.forwardPassage).elapsed = s.elapsed := by
  unfold State.forwardPassage; (try dsimp only); (repeat' split) <;> simp
@[simp] theorem State.forwardPassage_centre : (s.forwardPassage).centre = s.centre := by
  unfold State.forwardPassage; (try dsimp only); (repeat' split) <;> simp
@[simp] theorem State.forwardPassage_modem : (s.forwardPassage).modem = s.modem := by
  unfold State.forwardPassage; (try dsimp only); (repeat' split) <;> simp
@[simp] theorem State.forwardPassage_ledger : (s.forwardPassage).ledger = s.ledger := by
  unfold State.forwardPassage; (try dsimp only); (repeat' split) <;> simp
@[simp] theorem State.forwardPassage_power : (s.forwardPassage).power = s.power := by
  unfold State.forwardPassage; (try dsimp only); (repeat' split) <;> simp
@[simp] theorem State.forwardPassage_clock : (s.forwardPassage).clock = s.clock := by
  unfold State.forwardPassage; (try dsimp only); (repeat' split) <;> simp
@[simp] theorem State.forwardPassage_service : (s.forwardPassage).service = s.service := by
  unfold State.forwardPassage; (try dsimp only); (repeat' split) <;> simp
@[simp] theorem State.forwardPassage_config : (s.forwardPassage).config = s.config := by
  unfold State.forwardPassage; (try dsimp only); (repeat' split) <;> simp
@[simp] theorem State.forwardPassage_image0 : (s.forwardPassage).image0 = s.image0 := by
  unfold State.forwardPassage; (try dsimp only); (repeat' split) <;> simp
@[simp] theorem State.forwardPassage_image1 : (s.forwardPassage).image1 = s.image1 := by
  unfold State.forwardPassage; (try dsimp only); (repeat' split) <;> simp
@[simp] theorem State.forwardPassage_lifetime : (s.forwardPassage).lifetime = s.lifetime := by
  unfold State.forwardPassage; (try dsimp only); (repeat' split) <;> simp
@[simp] theorem State.forwardPassage_period : (s.forwardPassage).period = s.period := by
  unfold State.forwardPassage; (try dsimp only); (repeat' split) <;> simp
@[simp] theorem State.forwardPassage_history : (s.forwardPassage).history = s.history := by
  unfold State.forwardPassage; (try dsimp only); (repeat' split) <;> simp
@[simp] theorem State.forwardPassage_call : (s.forwardPassage).call = s.call := by
  unfold State.forwardPassage; (try dsimp only); (repeat' split) <;> simp
@[simp] theorem State.forwardPassage_events : (s.forwardPassage).events = s.events := by
  unfold State.forwardPassage; (try dsimp only); (repeat' split) <;> simp
@[simp] theorem State.forwardPassage_nv : (s.forwardPassage).nv = s.nv := by
  unfold State.forwardPassage; (try dsimp only); (repeat' split) <;> simp
@[simp] theorem State.forwardPassage_restores : (s.forwardPassage).restores = s.restores := by
  unfold State.forwardPassage; (try dsimp only); (repeat' split) <;> simp

@[simp] theorem State.reversePassage_now : (s.reversePassage).now = s.now := by
  unfold State.reversePassage; (try dsimp only); (repeat' split) <;> simp
@[simp] theorem State.reversePassage_pending : (s.reversePassage).pending = s.pending := by
  unfold State.reversePassage; (try dsimp only); (repeat' split) <;> simp
@[simp] theorem State.reversePassage_rating : (s.reversePassage).rating = s.rating := by
  unfold State.reversePassage; (try dsimp only); (repeat' split) <;> simp
@[simp] theorem State.reversePassage_line : (s.reversePassage).line = s.line := by
  unfold State.reversePassage; (try dsimp only); (repeat' split) <;> simp
@[simp] theorem State.reversePassage_arbiter : (s.reversePassage).arbiter = s.arbiter := by
  unfold State.reversePassage; (try dsimp only); (repeat' split) <;> simp
@[simp] theorem State.reversePassage_tamper : (s.reversePassage).tamper = s.tamper := by
  unfold State.reversePassage; (try dsimp only); (repeat' split) <;> simp
@[simp] theorem State.reversePassage_elapsed : (s.reversePassage).elapsed = s.elapsed := by
  unfold State.reversePassage; (try dsimp only); (repeat' split) <;> simp
@[simp] theorem State.reversePassage_centre : (s.reversePassage).centre = s.centre := by
  unfold State.reversePassage; (try dsimp only); (repeat' split) <;> simp
@[simp] theorem State.reversePassage_modem : (s.reversePassage).modem = s.modem := by
  unfold State.reversePassage; (try dsimp only); (repeat' split) <;> simp
@[simp] theorem State.reversePassage_power : (s.reversePassage).power = s.power := by
  unfold State.reversePassage; (try dsimp only); (repeat' split) <;> simp
@[simp] theorem State.reversePassage_clock : (s.reversePassage).clock = s.clock := by
  unfold State.reversePassage; (try dsimp only); (repeat' split) <;> simp
@[simp] theorem State.reversePassage_setPort : (s.reversePassage).setPort = s.setPort := by
  unfold State.reversePassage; (try dsimp only); (repeat' split) <;> simp
@[simp] theorem State.reversePassage_service : (s.reversePassage).service = s.service := by
  unfold State.reversePassage; (try dsimp only); (repeat' split) <;> simp
@[simp] theorem State.reversePassage_config : (s.reversePassage).config = s.config := by
  unfold State.reversePassage; (try dsimp only); (repeat' split) <;> simp
@[simp] theorem State.reversePassage_image0 : (s.reversePassage).image0 = s.image0 := by
  unfold State.reversePassage; (try dsimp only); (repeat' split) <;> simp
@[simp] theorem State.reversePassage_image1 : (s.reversePassage).image1 = s.image1 := by
  unfold State.reversePassage; (try dsimp only); (repeat' split) <;> simp
@[simp] theorem State.reversePassage_lifetime : (s.reversePassage).lifetime = s.lifetime := by
  unfold State.reversePassage; (try dsimp only); (repeat' split) <;> simp
@[simp] theorem State.reversePassage_period : (s.reversePassage).period = s.period := by
  unfold State.reversePassage; (try dsimp only); (repeat' split) <;> simp
@[simp] theorem State.reversePassage_history : (s.reversePassage).history = s.history := by
  unfold State.reversePassage; (try dsimp only); (repeat' split) <;> simp
@[simp] theorem State.reversePassage_call : (s.reversePassage).call = s.call := by
  unfold State.reversePassage; (try dsimp only); (repeat' split) <;> simp
@[simp] theorem State.reversePassage_nv : (s.reversePassage).nv = s.nv := by
  unfold State.reversePassage; (try dsimp only); (repeat' split) <;> simp
@[simp] theorem State.reversePassage_restores : (s.reversePassage).restores = s.restores := by
  unfold State.reversePassage; (try dsimp only); (repeat' split) <;> simp

@[simp] theorem State.takePassage_now (p : Passage) : (s.takePassage p).now = s.now := by
  unfold State.takePassage; (try dsimp only); (repeat' split) <;> simp
@[simp] theorem State.takePassage_pending (p : Passage) : (s.takePassage p).pending = s.pending := by
  unfold State.takePassage; (try dsimp only); (repeat' split) <;> simp
@[simp] theorem State.takePassage_rating (p : Passage) : (s.takePassage p).rating = s.rating := by
  unfold State.takePassage; (try dsimp only); (repeat' split) <;> simp
@[simp] theorem State.takePassage_line (p : Passage) : (s.takePassage p).line = s.line := by
  unfold State.takePassage; (try dsimp only); (repeat' split) <;> simp
@[simp] theorem State.takePassage_arbiter (p : Passage) : (s.takePassage p).arbiter = s.arbiter := by
  unfold State.takePassage; (try dsimp only); (repeat' split) <;> simp
@[simp] theorem State.takePassage_tamper (p : Passage) : (s.takePassage p).tamper = s.tamper := by
  unfold State.takePassage; (try dsimp only); (repeat' split) <;> simp
@[simp] theorem State.takePassage_elapsed (p : Passage) : (s.takePassage p).elapsed = s.elapsed := by
  unfold State.takePassage; (try dsimp only); (repeat' split) <;> simp
@[simp] theorem State.takePassage_centre (p : Passage) : (s.takePassage p).centre = s.centre := by
  unfold State.takePassage; (try dsimp only); (repeat' split) <;> simp
@[simp] theorem State.takePassage_modem (p : Passage) : (s.takePassage p).modem = s.modem := by
  unfold State.takePassage; (try dsimp only); (repeat' split) <;> simp
@[simp] theorem State.takePassage_power (p : Passage) : (s.takePassage p).power = s.power := by
  unfold State.takePassage; (try dsimp only); (repeat' split) <;> simp
@[simp] theorem State.takePassage_clock (p : Passage) : (s.takePassage p).clock = s.clock := by
  unfold State.takePassage; (try dsimp only); (repeat' split) <;> simp
@[simp] theorem State.takePassage_service (p : Passage) : (s.takePassage p).service = s.service := by
  unfold State.takePassage; (try dsimp only); (repeat' split) <;> simp
@[simp] theorem State.takePassage_config (p : Passage) : (s.takePassage p).config = s.config := by
  unfold State.takePassage; (try dsimp only); (repeat' split) <;> simp
@[simp] theorem State.takePassage_image0 (p : Passage) : (s.takePassage p).image0 = s.image0 := by
  unfold State.takePassage; (try dsimp only); (repeat' split) <;> simp
@[simp] theorem State.takePassage_image1 (p : Passage) : (s.takePassage p).image1 = s.image1 := by
  unfold State.takePassage; (try dsimp only); (repeat' split) <;> simp
@[simp] theorem State.takePassage_lifetime (p : Passage) : (s.takePassage p).lifetime = s.lifetime := by
  unfold State.takePassage; (try dsimp only); (repeat' split) <;> simp
@[simp] theorem State.takePassage_period (p : Passage) : (s.takePassage p).period = s.period := by
  unfold State.takePassage; (try dsimp only); (repeat' split) <;> simp
@[simp] theorem State.takePassage_history (p : Passage) : (s.takePassage p).history = s.history := by
  unfold State.takePassage; (try dsimp only); (repeat' split) <;> simp
@[simp] theorem State.takePassage_call (p : Passage) : (s.takePassage p).call = s.call := by
  unfold State.takePassage; (try dsimp only); (repeat' split) <;> simp
@[simp] theorem State.takePassage_nv (p : Passage) : (s.takePassage p).nv = s.nv := by
  unfold State.takePassage; (try dsimp only); (repeat' split) <;> simp
@[simp] theorem State.takePassage_restores (p : Passage) : (s.takePassage p).restores = s.restores := by
  unfold State.takePassage; (try dsimp only); (repeat' split) <;> simp

@[simp] theorem State.crossS3_now : (s.crossS3).now = s.now := by
  unfold State.crossS3; (try dsimp only); (repeat' split) <;> simp
@[simp] theorem State.crossS3_pending : (s.crossS3).pending = s.pending := by
  unfold State.crossS3; (try dsimp only); (repeat' split) <;> simp
@[simp] theorem State.crossS3_arbiter : (s.crossS3).arbiter = s.arbiter := by
  unfold State.crossS3; (try dsimp only); (repeat' split) <;> simp
@[simp] theorem State.crossS3_elapsed : (s.crossS3).elapsed = s.elapsed := by
  unfold State.crossS3; (try dsimp only); (repeat' split) <;> simp
@[simp] theorem State.crossS3_centre : (s.crossS3).centre = s.centre := by
  unfold State.crossS3; (try dsimp only); (repeat' split) <;> simp
@[simp] theorem State.crossS3_modem : (s.crossS3).modem = s.modem := by
  unfold State.crossS3; (try dsimp only); (repeat' split) <;> simp
@[simp] theorem State.crossS3_power : (s.crossS3).power = s.power := by
  unfold State.crossS3; (try dsimp only); (repeat' split) <;> simp
@[simp] theorem State.crossS3_clock : (s.crossS3).clock = s.clock := by
  unfold State.crossS3; (try dsimp only); (repeat' split) <;> simp
@[simp] theorem State.crossS3_service : (s.crossS3).service = s.service := by
  unfold State.crossS3; (try dsimp only); (repeat' split) <;> simp
@[simp] theorem State.crossS3_image0 : (s.crossS3).image0 = s.image0 := by
  unfold State.crossS3; (try dsimp only); (repeat' split) <;> simp
@[simp] theorem State.crossS3_image1 : (s.crossS3).image1 = s.image1 := by
  unfold State.crossS3; (try dsimp only); (repeat' split) <;> simp
@[simp] theorem State.crossS3_lifetime : (s.crossS3).lifetime = s.lifetime := by
  unfold State.crossS3; (try dsimp only); (repeat' split) <;> simp
@[simp] theorem State.crossS3_period : (s.crossS3).period = s.period := by
  unfold State.crossS3; (try dsimp only); (repeat' split) <;> simp
@[simp] theorem State.crossS3_history : (s.crossS3).history = s.history := by
  unfold State.crossS3; (try dsimp only); (repeat' split) <;> simp
@[simp] theorem State.crossS3_events : (s.crossS3).events = s.events := by
  unfold State.crossS3; (try dsimp only); (repeat' split) <;> simp
@[simp] theorem State.crossS3_nv : (s.crossS3).nv = s.nv := by
  unfold State.crossS3; (try dsimp only); (repeat' split) <;> simp
@[simp] theorem State.crossS3_restores : (s.crossS3).restores = s.restores := by
  unfold State.crossS3; (try dsimp only); (repeat' split) <;> simp

@[simp] theorem State.crossS4_now : (s.crossS4).now = s.now := by
  unfold State.crossS4; (try dsimp only); (repeat' split) <;> simp
@[simp] theorem State.crossS4_pending : (s.crossS4).pending = s.pending := by
  unfold State.crossS4; (try dsimp only); (repeat' split) <;> simp
@[simp] theorem State.crossS4_coin : (s.crossS4).coin = s.coin := by
  unfold State.crossS4; (try dsimp only); (repeat' split) <;> simp
@[simp] theorem State.crossS4_arbiter : (s.crossS4).arbiter = s.arbiter := by
  unfold State.crossS4; (try dsimp only); (repeat' split) <;> simp
@[simp] theorem State.crossS4_elapsed : (s.crossS4).elapsed = s.elapsed := by
  unfold State.crossS4; (try dsimp only); (repeat' split) <;> simp
@[simp] theorem State.crossS4_centre : (s.crossS4).centre = s.centre := by
  unfold State.crossS4; (try dsimp only); (repeat' split) <;> simp
@[simp] theorem State.crossS4_modem : (s.crossS4).modem = s.modem := by
  unfold State.crossS4; (try dsimp only); (repeat' split) <;> simp
@[simp] theorem State.crossS4_power : (s.crossS4).power = s.power := by
  unfold State.crossS4; (try dsimp only); (repeat' split) <;> simp
@[simp] theorem State.crossS4_clock : (s.crossS4).clock = s.clock := by
  unfold State.crossS4; (try dsimp only); (repeat' split) <;> simp
@[simp] theorem State.crossS4_service : (s.crossS4).service = s.service := by
  unfold State.crossS4; (try dsimp only); (repeat' split) <;> simp
@[simp] theorem State.crossS4_image0 : (s.crossS4).image0 = s.image0 := by
  unfold State.crossS4; (try dsimp only); (repeat' split) <;> simp
@[simp] theorem State.crossS4_image1 : (s.crossS4).image1 = s.image1 := by
  unfold State.crossS4; (try dsimp only); (repeat' split) <;> simp
@[simp] theorem State.crossS4_lifetime : (s.crossS4).lifetime = s.lifetime := by
  unfold State.crossS4; (try dsimp only); (repeat' split) <;> simp
@[simp] theorem State.crossS4_period : (s.crossS4).period = s.period := by
  unfold State.crossS4; (try dsimp only); (repeat' split) <;> simp
@[simp] theorem State.crossS4_history : (s.crossS4).history = s.history := by
  unfold State.crossS4; (try dsimp only); (repeat' split) <;> simp
@[simp] theorem State.crossS4_events : (s.crossS4).events = s.events := by
  unfold State.crossS4; (try dsimp only); (repeat' split) <;> simp
@[simp] theorem State.crossS4_nv : (s.crossS4).nv = s.nv := by
  unfold State.crossS4; (try dsimp only); (repeat' split) <;> simp
@[simp] theorem State.crossS4_restores : (s.crossS4).restores = s.restores := by
  unfold State.crossS4; (try dsimp only); (repeat' split) <;> simp

@[simp] theorem State.stageWaits_now (e : EntryStage) : (s.stageWaits e).now = s.now := by
  unfold State.stageWaits; (try dsimp only); (repeat' split) <;> simp
@[simp] theorem State.stageWaits_pending (e : EntryStage) : (s.stageWaits e).pending = s.pending := by
  unfold State.stageWaits; (try dsimp only); (repeat' split) <;> simp
@[simp] theorem State.stageWaits_credit (e : EntryStage) : (s.stageWaits e).credit = s.credit := by
  unfold State.stageWaits; (try dsimp only); (repeat' split) <;> simp
@[simp] theorem State.stageWaits_rating (e : EntryStage) : (s.stageWaits e).rating = s.rating := by
  unfold State.stageWaits; (try dsimp only); (repeat' split) <;> simp
@[simp] theorem State.stageWaits_line (e : EntryStage) : (s.stageWaits e).line = s.line := by
  unfold State.stageWaits; (try dsimp only); (repeat' split) <;> simp
@[simp] theorem State.stageWaits_arbiter (e : EntryStage) : (s.stageWaits e).arbiter = s.arbiter := by
  unfold State.stageWaits; (try dsimp only); (repeat' split) <;> simp
@[simp] theorem State.stageWaits_tamper (e : EntryStage) : (s.stageWaits e).tamper = s.tamper := by
  unfold State.stageWaits; (try dsimp only); (repeat' split) <;> simp
@[simp] theorem State.stageWaits_elapsed (e : EntryStage) : (s.stageWaits e).elapsed = s.elapsed := by
  unfold State.stageWaits; (try dsimp only); (repeat' split) <;> simp
@[simp] theorem State.stageWaits_centre (e : EntryStage) : (s.stageWaits e).centre = s.centre := by
  unfold State.stageWaits; (try dsimp only); (repeat' split) <;> simp
@[simp] theorem State.stageWaits_modem (e : EntryStage) : (s.stageWaits e).modem = s.modem := by
  unfold State.stageWaits; (try dsimp only); (repeat' split) <;> simp
@[simp] theorem State.stageWaits_ledger (e : EntryStage) : (s.stageWaits e).ledger = s.ledger := by
  unfold State.stageWaits; (try dsimp only); (repeat' split) <;> simp
@[simp] theorem State.stageWaits_power (e : EntryStage) : (s.stageWaits e).power = s.power := by
  unfold State.stageWaits; (try dsimp only); (repeat' split) <;> simp
@[simp] theorem State.stageWaits_clock (e : EntryStage) : (s.stageWaits e).clock = s.clock := by
  unfold State.stageWaits; (try dsimp only); (repeat' split) <;> simp
@[simp] theorem State.stageWaits_setPort (e : EntryStage) : (s.stageWaits e).setPort = s.setPort := by
  unfold State.stageWaits; (try dsimp only); (repeat' split) <;> simp
@[simp] theorem State.stageWaits_service (e : EntryStage) : (s.stageWaits e).service = s.service := by
  unfold State.stageWaits; (try dsimp only); (repeat' split) <;> simp
@[simp] theorem State.stageWaits_config (e : EntryStage) : (s.stageWaits e).config = s.config := by
  unfold State.stageWaits; (try dsimp only); (repeat' split) <;> simp
@[simp] theorem State.stageWaits_image0 (e : EntryStage) : (s.stageWaits e).image0 = s.image0 := by
  unfold State.stageWaits; (try dsimp only); (repeat' split) <;> simp
@[simp] theorem State.stageWaits_image1 (e : EntryStage) : (s.stageWaits e).image1 = s.image1 := by
  unfold State.stageWaits; (try dsimp only); (repeat' split) <;> simp
@[simp] theorem State.stageWaits_lifetime (e : EntryStage) : (s.stageWaits e).lifetime = s.lifetime := by
  unfold State.stageWaits; (try dsimp only); (repeat' split) <;> simp
@[simp] theorem State.stageWaits_period (e : EntryStage) : (s.stageWaits e).period = s.period := by
  unfold State.stageWaits; (try dsimp only); (repeat' split) <;> simp
@[simp] theorem State.stageWaits_history (e : EntryStage) : (s.stageWaits e).history = s.history := by
  unfold State.stageWaits; (try dsimp only); (repeat' split) <;> simp
@[simp] theorem State.stageWaits_call (e : EntryStage) : (s.stageWaits e).call = s.call := by
  unfold State.stageWaits; (try dsimp only); (repeat' split) <;> simp
@[simp] theorem State.stageWaits_events (e : EntryStage) : (s.stageWaits e).events = s.events := by
  unfold State.stageWaits; (try dsimp only); (repeat' split) <;> simp
@[simp] theorem State.stageWaits_nv (e : EntryStage) : (s.stageWaits e).nv = s.nv := by
  unfold State.stageWaits; (try dsimp only); (repeat' split) <;> simp
@[simp] theorem State.stageWaits_restores (e : EntryStage) : (s.stageWaits e).restores = s.restores := by
  unfold State.stageWaits; (try dsimp only); (repeat' split) <;> simp

@[simp] theorem State.enterS1_now : (s.enterS1).now = s.now := by
  unfold State.enterS1; (try dsimp only); (repeat' split) <;> simp
@[simp] theorem State.enterS1_pending : (s.enterS1).pending = s.pending := by
  unfold State.enterS1; (try dsimp only); (repeat' split) <;> simp
@[simp] theorem State.enterS1_credit : (s.enterS1).credit = s.credit := by
  unfold State.enterS1; (try dsimp only); (repeat' split) <;> simp
@[simp] theorem State.enterS1_rating : (s.enterS1).rating = s.rating := by
  unfold State.enterS1; (try dsimp only); (repeat' split) <;> simp
@[simp] theorem State.enterS1_line : (s.enterS1).line = s.line := by
  unfold State.enterS1; (try dsimp only); (repeat' split) <;> simp
@[simp] theorem State.enterS1_arbiter : (s.enterS1).arbiter = s.arbiter := by
  unfold State.enterS1; (try dsimp only); (repeat' split) <;> simp
@[simp] theorem State.enterS1_tamper : (s.enterS1).tamper = s.tamper := by
  unfold State.enterS1; (try dsimp only); (repeat' split) <;> simp
@[simp] theorem State.enterS1_elapsed : (s.enterS1).elapsed = s.elapsed := by
  unfold State.enterS1; (try dsimp only); (repeat' split) <;> simp
@[simp] theorem State.enterS1_centre : (s.enterS1).centre = s.centre := by
  unfold State.enterS1; (try dsimp only); (repeat' split) <;> simp
@[simp] theorem State.enterS1_modem : (s.enterS1).modem = s.modem := by
  unfold State.enterS1; (try dsimp only); (repeat' split) <;> simp
@[simp] theorem State.enterS1_ledger : (s.enterS1).ledger = s.ledger := by
  unfold State.enterS1; (try dsimp only); (repeat' split) <;> simp
@[simp] theorem State.enterS1_power : (s.enterS1).power = s.power := by
  unfold State.enterS1; (try dsimp only); (repeat' split) <;> simp
@[simp] theorem State.enterS1_clock : (s.enterS1).clock = s.clock := by
  unfold State.enterS1; (try dsimp only); (repeat' split) <;> simp
@[simp] theorem State.enterS1_service : (s.enterS1).service = s.service := by
  unfold State.enterS1; (try dsimp only); (repeat' split) <;> simp
@[simp] theorem State.enterS1_config : (s.enterS1).config = s.config := by
  unfold State.enterS1; (try dsimp only); (repeat' split) <;> simp
@[simp] theorem State.enterS1_image0 : (s.enterS1).image0 = s.image0 := by
  unfold State.enterS1; (try dsimp only); (repeat' split) <;> simp
@[simp] theorem State.enterS1_image1 : (s.enterS1).image1 = s.image1 := by
  unfold State.enterS1; (try dsimp only); (repeat' split) <;> simp
@[simp] theorem State.enterS1_lifetime : (s.enterS1).lifetime = s.lifetime := by
  unfold State.enterS1; (try dsimp only); (repeat' split) <;> simp
@[simp] theorem State.enterS1_period : (s.enterS1).period = s.period := by
  unfold State.enterS1; (try dsimp only); (repeat' split) <;> simp
@[simp] theorem State.enterS1_history : (s.enterS1).history = s.history := by
  unfold State.enterS1; (try dsimp only); (repeat' split) <;> simp
@[simp] theorem State.enterS1_call : (s.enterS1).call = s.call := by
  unfold State.enterS1; (try dsimp only); (repeat' split) <;> simp
@[simp] theorem State.enterS1_events : (s.enterS1).events = s.events := by
  unfold State.enterS1; (try dsimp only); (repeat' split) <;> simp
@[simp] theorem State.enterS1_nv : (s.enterS1).nv = s.nv := by
  unfold State.enterS1; (try dsimp only); (repeat' split) <;> simp
@[simp] theorem State.enterS1_restores : (s.enterS1).restores = s.restores := by
  unfold State.enterS1; (try dsimp only); (repeat' split) <;> simp

@[simp] theorem State.beamEffect_now (h : BeamHit) : (s.beamEffect h).now = s.now := by
  unfold State.beamEffect; (try dsimp only); (repeat' split) <;> simp
@[simp] theorem State.beamEffect_pending (h : BeamHit) : (s.beamEffect h).pending = s.pending := by
  unfold State.beamEffect; (try dsimp only); (repeat' split) <;> simp
@[simp] theorem State.beamEffect_arbiter (h : BeamHit) : (s.beamEffect h).arbiter = s.arbiter := by
  unfold State.beamEffect; (try dsimp only); (repeat' split) <;> simp
@[simp] theorem State.beamEffect_elapsed (h : BeamHit) : (s.beamEffect h).elapsed = s.elapsed := by
  unfold State.beamEffect; (try dsimp only); (repeat' split) <;> simp
@[simp] theorem State.beamEffect_centre (h : BeamHit) : (s.beamEffect h).centre = s.centre := by
  unfold State.beamEffect; (try dsimp only); (repeat' split) <;> simp
@[simp] theorem State.beamEffect_modem (h : BeamHit) : (s.beamEffect h).modem = s.modem := by
  unfold State.beamEffect; (try dsimp only); (repeat' split) <;> simp
@[simp] theorem State.beamEffect_power (h : BeamHit) : (s.beamEffect h).power = s.power := by
  unfold State.beamEffect; (try dsimp only); (repeat' split) <;> simp
@[simp] theorem State.beamEffect_clock (h : BeamHit) : (s.beamEffect h).clock = s.clock := by
  unfold State.beamEffect; (try dsimp only); (repeat' split) <;> simp
@[simp] theorem State.beamEffect_service (h : BeamHit) : (s.beamEffect h).service = s.service := by
  unfold State.beamEffect; (try dsimp only); (repeat' split) <;> simp
@[simp] theorem State.beamEffect_image0 (h : BeamHit) : (s.beamEffect h).image0 = s.image0 := by
  unfold State.beamEffect; (try dsimp only); (repeat' split) <;> simp
@[simp] theorem State.beamEffect_image1 (h : BeamHit) : (s.beamEffect h).image1 = s.image1 := by
  unfold State.beamEffect; (try dsimp only); (repeat' split) <;> simp
@[simp] theorem State.beamEffect_lifetime (h : BeamHit) : (s.beamEffect h).lifetime = s.lifetime := by
  unfold State.beamEffect; (try dsimp only); (repeat' split) <;> simp
@[simp] theorem State.beamEffect_period (h : BeamHit) : (s.beamEffect h).period = s.period := by
  unfold State.beamEffect; (try dsimp only); (repeat' split) <;> simp
@[simp] theorem State.beamEffect_history (h : BeamHit) : (s.beamEffect h).history = s.history := by
  unfold State.beamEffect; (try dsimp only); (repeat' split) <;> simp
@[simp] theorem State.beamEffect_events (h : BeamHit) : (s.beamEffect h).events = s.events := by
  unfold State.beamEffect; (try dsimp only); (repeat' split) <;> simp
@[simp] theorem State.beamEffect_nv (h : BeamHit) : (s.beamEffect h).nv = s.nv := by
  unfold State.beamEffect; (try dsimp only); (repeat' split) <;> simp
@[simp] theorem State.beamEffect_restores (h : BeamHit) : (s.beamEffect h).restores = s.restores := by
  unfold State.beamEffect; (try dsimp only); (repeat' split) <;> simp

@[simp] theorem State.trackClear_now (b : Beam) : (s.trackClear b).now = s.now := by
  unfold State.trackClear; (try dsimp only); (repeat' split) <;> simp
@[simp] theorem State.trackClear_pending (b : Beam) : (s.trackClear b).pending = s.pending := by
  unfold State.trackClear; (try dsimp only); (repeat' split) <;> simp
@[simp] theorem State.trackClear_rating (b : Beam) : (s.trackClear b).rating = s.rating := by
  unfold State.trackClear; (try dsimp only); (repeat' split) <;> simp
@[simp] theorem State.trackClear_line (b : Beam) : (s.trackClear b).line = s.line := by
  unfold State.trackClear; (try dsimp only); (repeat' split) <;> simp
@[simp] theorem State.trackClear_arbiter (b : Beam) : (s.trackClear b).arbiter = s.arbiter := by
  unfold State.trackClear; (try dsimp only); (repeat' split) <;> simp
@[simp] theorem State.trackClear_tamper (b : Beam) : (s.trackClear b).tamper = s.tamper := by
  unfold State.trackClear; (try dsimp only); (repeat' split) <;> simp
@[simp] theorem State.trackClear_elapsed (b : Beam) : (s.trackClear b).elapsed = s.elapsed := by
  unfold State.trackClear; (try dsimp only); (repeat' split) <;> simp
@[simp] theorem State.trackClear_centre (b : Beam) : (s.trackClear b).centre = s.centre := by
  unfold State.trackClear; (try dsimp only); (repeat' split) <;> simp
@[simp] theorem State.trackClear_modem (b : Beam) : (s.trackClear b).modem = s.modem := by
  unfold State.trackClear; (try dsimp only); (repeat' split) <;> simp
@[simp] theorem State.trackClear_power (b : Beam) : (s.trackClear b).power = s.power := by
  unfold State.trackClear; (try dsimp only); (repeat' split) <;> simp
@[simp] theorem State.trackClear_clock (b : Beam) : (s.trackClear b).clock = s.clock := by
  unfold State.trackClear; (try dsimp only); (repeat' split) <;> simp
@[simp] theorem State.trackClear_service (b : Beam) : (s.trackClear b).service = s.service := by
  unfold State.trackClear; (try dsimp only); (repeat' split) <;> simp
@[simp] theorem State.trackClear_config (b : Beam) : (s.trackClear b).config = s.config := by
  unfold State.trackClear; (try dsimp only); (repeat' split) <;> simp
@[simp] theorem State.trackClear_image0 (b : Beam) : (s.trackClear b).image0 = s.image0 := by
  unfold State.trackClear; (try dsimp only); (repeat' split) <;> simp
@[simp] theorem State.trackClear_image1 (b : Beam) : (s.trackClear b).image1 = s.image1 := by
  unfold State.trackClear; (try dsimp only); (repeat' split) <;> simp
@[simp] theorem State.trackClear_lifetime (b : Beam) : (s.trackClear b).lifetime = s.lifetime := by
  unfold State.trackClear; (try dsimp only); (repeat' split) <;> simp
@[simp] theorem State.trackClear_period (b : Beam) : (s.trackClear b).period = s.period := by
  unfold State.trackClear; (try dsimp only); (repeat' split) <;> simp
@[simp] theorem State.trackClear_history (b : Beam) : (s.trackClear b).history = s.history := by
  unfold State.trackClear; (try dsimp only); (repeat' split) <;> simp
@[simp] theorem State.trackClear_call (b : Beam) : (s.trackClear b).call = s.call := by
  unfold State.trackClear; (try dsimp only); (repeat' split) <;> simp
@[simp] theorem State.trackClear_nv (b : Beam) : (s.trackClear b).nv = s.nv := by
  unfold State.trackClear; (try dsimp only); (repeat' split) <;> simp
@[simp] theorem State.trackClear_restores (b : Beam) : (s.trackClear b).restores = s.restores := by
  unfold State.trackClear; (try dsimp only); (repeat' split) <;> simp

@[simp] theorem State.entryHeld_now : (s.entryHeld).now = s.now := by
  unfold State.entryHeld; (try dsimp only); (repeat' split) <;> simp
@[simp] theorem State.entryHeld_pending : (s.entryHeld).pending = s.pending := by
  unfold State.entryHeld; (try dsimp only); (repeat' split) <;> simp
@[simp] theorem State.entryHeld_credit : (s.entryHeld).credit = s.credit := by
  unfold State.entryHeld; (try dsimp only); (repeat' split) <;> simp
@[simp] theorem State.entryHeld_rating : (s.entryHeld).rating = s.rating := by
  unfold State.entryHeld; (try dsimp only); (repeat' split) <;> simp
@[simp] theorem State.entryHeld_line : (s.entryHeld).line = s.line := by
  unfold State.entryHeld; (try dsimp only); (repeat' split) <;> simp
@[simp] theorem State.entryHeld_arbiter : (s.entryHeld).arbiter = s.arbiter := by
  unfold State.entryHeld; (try dsimp only); (repeat' split) <;> simp
@[simp] theorem State.entryHeld_tamper : (s.entryHeld).tamper = s.tamper := by
  unfold State.entryHeld; (try dsimp only); (repeat' split) <;> simp
@[simp] theorem State.entryHeld_elapsed : (s.entryHeld).elapsed = s.elapsed := by
  unfold State.entryHeld; (try dsimp only); (repeat' split) <;> simp
@[simp] theorem State.entryHeld_centre : (s.entryHeld).centre = s.centre := by
  unfold State.entryHeld; (try dsimp only); (repeat' split) <;> simp
@[simp] theorem State.entryHeld_modem : (s.entryHeld).modem = s.modem := by
  unfold State.entryHeld; (try dsimp only); (repeat' split) <;> simp
@[simp] theorem State.entryHeld_ledger : (s.entryHeld).ledger = s.ledger := by
  unfold State.entryHeld; (try dsimp only); (repeat' split) <;> simp
@[simp] theorem State.entryHeld_power : (s.entryHeld).power = s.power := by
  unfold State.entryHeld; (try dsimp only); (repeat' split) <;> simp
@[simp] theorem State.entryHeld_clock : (s.entryHeld).clock = s.clock := by
  unfold State.entryHeld; (try dsimp only); (repeat' split) <;> simp
@[simp] theorem State.entryHeld_service : (s.entryHeld).service = s.service := by
  unfold State.entryHeld; (try dsimp only); (repeat' split) <;> simp
@[simp] theorem State.entryHeld_config : (s.entryHeld).config = s.config := by
  unfold State.entryHeld; (try dsimp only); (repeat' split) <;> simp
@[simp] theorem State.entryHeld_image0 : (s.entryHeld).image0 = s.image0 := by
  unfold State.entryHeld; (try dsimp only); (repeat' split) <;> simp
@[simp] theorem State.entryHeld_image1 : (s.entryHeld).image1 = s.image1 := by
  unfold State.entryHeld; (try dsimp only); (repeat' split) <;> simp
@[simp] theorem State.entryHeld_lifetime : (s.entryHeld).lifetime = s.lifetime := by
  unfold State.entryHeld; (try dsimp only); (repeat' split) <;> simp
@[simp] theorem State.entryHeld_period : (s.entryHeld).period = s.period := by
  unfold State.entryHeld; (try dsimp only); (repeat' split) <;> simp
@[simp] theorem State.entryHeld_history : (s.entryHeld).history = s.history := by
  unfold State.entryHeld; (try dsimp only); (repeat' split) <;> simp
@[simp] theorem State.entryHeld_call : (s.entryHeld).call = s.call := by
  unfold State.entryHeld; (try dsimp only); (repeat' split) <;> simp
@[simp] theorem State.entryHeld_events : (s.entryHeld).events = s.events := by
  unfold State.entryHeld; (try dsimp only); (repeat' split) <;> simp
@[simp] theorem State.entryHeld_nv : (s.entryHeld).nv = s.nv := by
  unfold State.entryHeld; (try dsimp only); (repeat' split) <;> simp
@[simp] theorem State.entryHeld_restores : (s.entryHeld).restores = s.restores := by
  unfold State.entryHeld; (try dsimp only); (repeat' split) <;> simp

end Sys2Proof.Machine
end

