-- ==== Sys2Proof/Laws/Chute.lean ====
section
/-!
SUPPORT. What each operation of Machine/Chute.lean leaves alone: one lemma for each field of `State` that it never
touches.  What it does to the fields it touches stands in its definition.
-/

set_option linter.unusedTactic false
set_option linter.unnecessarySeqFocus false
set_option linter.unreachableTactic false

namespace Sys2Proof.Machine

variable (s : State)

@[simp] theorem State.measure_now (t : Triple) : (s.measure t).now = s.now := by
  unfold State.measure; (try dsimp only); (repeat' split) <;> simp
@[simp] theorem State.measure_pending (t : Triple) : (s.measure t).pending = s.pending := by
  unfold State.measure; (try dsimp only); (repeat' split) <;> simp
@[simp] theorem State.measure_credit (t : Triple) : (s.measure t).credit = s.credit := by
  unfold State.measure; (try dsimp only); (repeat' split) <;> simp
@[simp] theorem State.measure_rating (t : Triple) : (s.measure t).rating = s.rating := by
  unfold State.measure; (try dsimp only); (repeat' split) <;> simp
@[simp] theorem State.measure_line (t : Triple) : (s.measure t).line = s.line := by
  unfold State.measure; (try dsimp only); (repeat' split) <;> simp
@[simp] theorem State.measure_arbiter (t : Triple) : (s.measure t).arbiter = s.arbiter := by
  unfold State.measure; (try dsimp only); (repeat' split) <;> simp
@[simp] theorem State.measure_tamper (t : Triple) : (s.measure t).tamper = s.tamper := by
  unfold State.measure; (try dsimp only); (repeat' split) <;> simp
@[simp] theorem State.measure_elapsed (t : Triple) : (s.measure t).elapsed = s.elapsed := by
  unfold State.measure; (try dsimp only); (repeat' split) <;> simp
@[simp] theorem State.measure_centre (t : Triple) : (s.measure t).centre = s.centre := by
  unfold State.measure; (try dsimp only); (repeat' split) <;> simp
@[simp] theorem State.measure_modem (t : Triple) : (s.measure t).modem = s.modem := by
  unfold State.measure; (try dsimp only); (repeat' split) <;> simp
@[simp] theorem State.measure_ledger (t : Triple) : (s.measure t).ledger = s.ledger := by
  unfold State.measure; (try dsimp only); (repeat' split) <;> simp
@[simp] theorem State.measure_power (t : Triple) : (s.measure t).power = s.power := by
  unfold State.measure; (try dsimp only); (repeat' split) <;> simp
@[simp] theorem State.measure_clock (t : Triple) : (s.measure t).clock = s.clock := by
  unfold State.measure; (try dsimp only); (repeat' split) <;> simp
@[simp] theorem State.measure_service (t : Triple) : (s.measure t).service = s.service := by
  unfold State.measure; (try dsimp only); (repeat' split) <;> simp
@[simp] theorem State.measure_config (t : Triple) : (s.measure t).config = s.config := by
  unfold State.measure; (try dsimp only); (repeat' split) <;> simp
@[simp] theorem State.measure_image0 (t : Triple) : (s.measure t).image0 = s.image0 := by
  unfold State.measure; (try dsimp only); (repeat' split) <;> simp
@[simp] theorem State.measure_image1 (t : Triple) : (s.measure t).image1 = s.image1 := by
  unfold State.measure; (try dsimp only); (repeat' split) <;> simp
@[simp] theorem State.measure_lifetime (t : Triple) : (s.measure t).lifetime = s.lifetime := by
  unfold State.measure; (try dsimp only); (repeat' split) <;> simp
@[simp] theorem State.measure_period (t : Triple) : (s.measure t).period = s.period := by
  unfold State.measure; (try dsimp only); (repeat' split) <;> simp
@[simp] theorem State.measure_history (t : Triple) : (s.measure t).history = s.history := by
  unfold State.measure; (try dsimp only); (repeat' split) <;> simp
@[simp] theorem State.measure_call (t : Triple) : (s.measure t).call = s.call := by
  unfold State.measure; (try dsimp only); (repeat' split) <;> simp
@[simp] theorem State.measure_events (t : Triple) : (s.measure t).events = s.events := by
  unfold State.measure; (try dsimp only); (repeat' split) <;> simp
@[simp] theorem State.measure_nv (t : Triple) : (s.measure t).nv = s.nv := by
  unfold State.measure; (try dsimp only); (repeat' split) <;> simp
@[simp] theorem State.measure_restores (t : Triple) : (s.measure t).restores = s.restores := by
  unfold State.measure; (try dsimp only); (repeat' split) <;> simp

@[simp] theorem State.measurementMissing_now : (s.measurementMissing).now = s.now := by
  unfold State.measurementMissing; (try dsimp only); (repeat' split) <;> simp
@[simp] theorem State.measurementMissing_pending : (s.measurementMissing).pending = s.pending := by
  unfold State.measurementMissing; (try dsimp only); (repeat' split) <;> simp
@[simp] theorem State.measurementMissing_credit : (s.measurementMissing).credit = s.credit := by
  unfold State.measurementMissing; (try dsimp only); (repeat' split) <;> simp
@[simp] theorem State.measurementMissing_rating : (s.measurementMissing).rating = s.rating := by
  unfold State.measurementMissing; (try dsimp only); (repeat' split) <;> simp
@[simp] theorem State.measurementMissing_line : (s.measurementMissing).line = s.line := by
  unfold State.measurementMissing; (try dsimp only); (repeat' split) <;> simp
@[simp] theorem State.measurementMissing_arbiter : (s.measurementMissing).arbiter = s.arbiter := by
  unfold State.measurementMissing; (try dsimp only); (repeat' split) <;> simp
@[simp] theorem State.measurementMissing_tamper : (s.measurementMissing).tamper = s.tamper := by
  unfold State.measurementMissing; (try dsimp only); (repeat' split) <;> simp
@[simp] theorem State.measurementMissing_elapsed : (s.measurementMissing).elapsed = s.elapsed := by
  unfold State.measurementMissing; (try dsimp only); (repeat' split) <;> simp
@[simp] theorem State.measurementMissing_centre : (s.measurementMissing).centre = s.centre := by
  unfold State.measurementMissing; (try dsimp only); (repeat' split) <;> simp
@[simp] theorem State.measurementMissing_modem : (s.measurementMissing).modem = s.modem := by
  unfold State.measurementMissing; (try dsimp only); (repeat' split) <;> simp
@[simp] theorem State.measurementMissing_ledger : (s.measurementMissing).ledger = s.ledger := by
  unfold State.measurementMissing; (try dsimp only); (repeat' split) <;> simp
@[simp] theorem State.measurementMissing_power : (s.measurementMissing).power = s.power := by
  unfold State.measurementMissing; (try dsimp only); (repeat' split) <;> simp
@[simp] theorem State.measurementMissing_clock : (s.measurementMissing).clock = s.clock := by
  unfold State.measurementMissing; (try dsimp only); (repeat' split) <;> simp
@[simp] theorem State.measurementMissing_service : (s.measurementMissing).service = s.service := by
  unfold State.measurementMissing; (try dsimp only); (repeat' split) <;> simp
@[simp] theorem State.measurementMissing_config : (s.measurementMissing).config = s.config := by
  unfold State.measurementMissing; (try dsimp only); (repeat' split) <;> simp
@[simp] theorem State.measurementMissing_image0 : (s.measurementMissing).image0 = s.image0 := by
  unfold State.measurementMissing; (try dsimp only); (repeat' split) <;> simp
@[simp] theorem State.measurementMissing_image1 : (s.measurementMissing).image1 = s.image1 := by
  unfold State.measurementMissing; (try dsimp only); (repeat' split) <;> simp
@[simp] theorem State.measurementMissing_lifetime : (s.measurementMissing).lifetime = s.lifetime := by
  unfold State.measurementMissing; (try dsimp only); (repeat' split) <;> simp
@[simp] theorem State.measurementMissing_period : (s.measurementMissing).period = s.period := by
  unfold State.measurementMissing; (try dsimp only); (repeat' split) <;> simp
@[simp] theorem State.measurementMissing_history : (s.measurementMissing).history = s.history := by
  unfold State.measurementMissing; (try dsimp only); (repeat' split) <;> simp
@[simp] theorem State.measurementMissing_call : (s.measurementMissing).call = s.call := by
  unfold State.measurementMissing; (try dsimp only); (repeat' split) <;> simp
@[simp] theorem State.measurementMissing_events : (s.measurementMissing).events = s.events := by
  unfold State.measurementMissing; (try dsimp only); (repeat' split) <;> simp
@[simp] theorem State.measurementMissing_nv : (s.measurementMissing).nv = s.nv := by
  unfold State.measurementMissing; (try dsimp only); (repeat' split) <;> simp
@[simp] theorem State.measurementMissing_restores : (s.measurementMissing).restores = s.restores := by
  unfold State.measurementMissing; (try dsimp only); (repeat' split) <;> simp

@[simp] theorem State.transitLost_now : (s.transitLost).now = s.now := by
  unfold State.transitLost; (try dsimp only); (repeat' split) <;> simp
@[simp] theorem State.transitLost_pending : (s.transitLost).pending = s.pending := by
  unfold State.transitLost; (try dsimp only); (repeat' split) <;> simp
@[simp] theorem State.transitLost_credit : (s.transitLost).credit = s.credit := by
  unfold State.transitLost; (try dsimp only); (repeat' split) <;> simp
@[simp] theorem State.transitLost_arbiter : (s.transitLost).arbiter = s.arbiter := by
  unfold State.transitLost; (try dsimp only); (repeat' split) <;> simp
@[simp] theorem State.transitLost_elapsed : (s.transitLost).elapsed = s.elapsed := by
  unfold State.transitLost; (try dsimp only); (repeat' split) <;> simp
@[simp] theorem State.transitLost_centre : (s.transitLost).centre = s.centre := by
  unfold State.transitLost; (try dsimp only); (repeat' split) <;> simp
@[simp] theorem State.transitLost_modem : (s.transitLost).modem = s.modem := by
  unfold State.transitLost; (try dsimp only); (repeat' split) <;> simp
@[simp] theorem State.transitLost_power : (s.transitLost).power = s.power := by
  unfold State.transitLost; (try dsimp only); (repeat' split) <;> simp
@[simp] theorem State.transitLost_clock : (s.transitLost).clock = s.clock := by
  unfold State.transitLost; (try dsimp only); (repeat' split) <;> simp
@[simp] theorem State.transitLost_service : (s.transitLost).service = s.service := by
  unfold State.transitLost; (try dsimp only); (repeat' split) <;> simp
@[simp] theorem State.transitLost_image0 : (s.transitLost).image0 = s.image0 := by
  unfold State.transitLost; (try dsimp only); (repeat' split) <;> simp
@[simp] theorem State.transitLost_image1 : (s.transitLost).image1 = s.image1 := by
  unfold State.transitLost; (try dsimp only); (repeat' split) <;> simp
@[simp] theorem State.transitLost_lifetime : (s.transitLost).lifetime = s.lifetime := by
  unfold State.transitLost; (try dsimp only); (repeat' split) <;> simp
@[simp] theorem State.transitLost_period : (s.transitLost).period = s.period := by
  unfold State.transitLost; (try dsimp only); (repeat' split) <;> simp
@[simp] theorem State.transitLost_history : (s.transitLost).history = s.history := by
  unfold State.transitLost; (try dsimp only); (repeat' split) <;> simp
@[simp] theorem State.transitLost_call : (s.transitLost).call = s.call := by
  unfold State.transitLost; (try dsimp only); (repeat' split) <;> simp
@[simp] theorem State.transitLost_nv : (s.transitLost).nv = s.nv := by
  unfold State.transitLost; (try dsimp only); (repeat' split) <;> simp
@[simp] theorem State.transitLost_restores : (s.transitLost).restores = s.restores := by
  unfold State.transitLost; (try dsimp only); (repeat' split) <;> simp

@[simp] theorem State.settleOldest_now : (s.settleOldest).now = s.now := by
  unfold State.settleOldest; (try dsimp only); (repeat' split) <;> simp
@[simp] theorem State.settleOldest_pending : (s.settleOldest).pending = s.pending := by
  unfold State.settleOldest; (try dsimp only); (repeat' split) <;> simp
@[simp] theorem State.settleOldest_arbiter : (s.settleOldest).arbiter = s.arbiter := by
  unfold State.settleOldest; (try dsimp only); (repeat' split) <;> simp
@[simp] theorem State.settleOldest_elapsed : (s.settleOldest).elapsed = s.elapsed := by
  unfold State.settleOldest; (try dsimp only); (repeat' split) <;> simp
@[simp] theorem State.settleOldest_centre : (s.settleOldest).centre = s.centre := by
  unfold State.settleOldest; (try dsimp only); (repeat' split) <;> simp
@[simp] theorem State.settleOldest_modem : (s.settleOldest).modem = s.modem := by
  unfold State.settleOldest; (try dsimp only); (repeat' split) <;> simp
@[simp] theorem State.settleOldest_power : (s.settleOldest).power = s.power := by
  unfold State.settleOldest; (try dsimp only); (repeat' split) <;> simp
@[simp] theorem State.settleOldest_clock : (s.settleOldest).clock = s.clock := by
  unfold State.settleOldest; (try dsimp only); (repeat' split) <;> simp
@[simp] theorem State.settleOldest_service : (s.settleOldest).service = s.service := by
  unfold State.settleOldest; (try dsimp only); (repeat' split) <;> simp
@[simp] theorem State.settleOldest_image0 : (s.settleOldest).image0 = s.image0 := by
  unfold State.settleOldest; (try dsimp only); (repeat' split) <;> simp
@[simp] theorem State.settleOldest_image1 : (s.settleOldest).image1 = s.image1 := by
  unfold State.settleOldest; (try dsimp only); (repeat' split) <;> simp
@[simp] theorem State.settleOldest_history : (s.settleOldest).history = s.history := by
  unfold State.settleOldest; (try dsimp only); (repeat' split) <;> simp
@[simp] theorem State.settleOldest_nv : (s.settleOldest).nv = s.nv := by
  unfold State.settleOldest; (try dsimp only); (repeat' split) <;> simp
@[simp] theorem State.settleOldest_restores : (s.settleOldest).restores = s.restores := by
  unfold State.settleOldest; (try dsimp only); (repeat' split) <;> simp

@[simp] theorem State.beamHeld_now (b : Beam) : (s.beamHeld b).now = s.now := by
  unfold State.beamHeld; (try dsimp only); (repeat' split) <;> simp
@[simp] theorem State.beamHeld_pending (b : Beam) : (s.beamHeld b).pending = s.pending := by
  unfold State.beamHeld; (try dsimp only); (repeat' split) <;> simp
@[simp] theorem State.beamHeld_credit (b : Beam) : (s.beamHeld b).credit = s.credit := by
  unfold State.beamHeld; (try dsimp only); (repeat' split) <;> simp
@[simp] theorem State.beamHeld_arbiter (b : Beam) : (s.beamHeld b).arbiter = s.arbiter := by
  unfold State.beamHeld; (try dsimp only); (repeat' split) <;> simp
@[simp] theorem State.beamHeld_elapsed (b : Beam) : (s.beamHeld b).elapsed = s.elapsed := by
  unfold State.beamHeld; (try dsimp only); (repeat' split) <;> simp
@[simp] theorem State.beamHeld_centre (b : Beam) : (s.beamHeld b).centre = s.centre := by
  unfold State.beamHeld; (try dsimp only); (repeat' split) <;> simp
@[simp] theorem State.beamHeld_modem (b : Beam) : (s.beamHeld b).modem = s.modem := by
  unfold State.beamHeld; (try dsimp only); (repeat' split) <;> simp
@[simp] theorem State.beamHeld_power (b : Beam) : (s.beamHeld b).power = s.power := by
  unfold State.beamHeld; (try dsimp only); (repeat' split) <;> simp
@[simp] theorem State.beamHeld_clock (b : Beam) : (s.beamHeld b).clock = s.clock := by
  unfold State.beamHeld; (try dsimp only); (repeat' split) <;> simp
@[simp] theorem State.beamHeld_service (b : Beam) : (s.beamHeld b).service = s.service := by
  unfold State.beamHeld; (try dsimp only); (repeat' split) <;> simp
@[simp] theorem State.beamHeld_image0 (b : Beam) : (s.beamHeld b).image0 = s.image0 := by
  unfold State.beamHeld; (try dsimp only); (repeat' split) <;> simp
@[simp] theorem State.beamHeld_image1 (b : Beam) : (s.beamHeld b).image1 = s.image1 := by
  unfold State.beamHeld; (try dsimp only); (repeat' split) <;> simp
@[simp] theorem State.beamHeld_lifetime (b : Beam) : (s.beamHeld b).lifetime = s.lifetime := by
  unfold State.beamHeld; (try dsimp only); (repeat' split) <;> simp
@[simp] theorem State.beamHeld_period (b : Beam) : (s.beamHeld b).period = s.period := by
  unfold State.beamHeld; (try dsimp only); (repeat' split) <;> simp
@[simp] theorem State.beamHeld_history (b : Beam) : (s.beamHeld b).history = s.history := by
  unfold State.beamHeld; (try dsimp only); (repeat' split) <;> simp
@[simp] theorem State.beamHeld_call (b : Beam) : (s.beamHeld b).call = s.call := by
  unfold State.beamHeld; (try dsimp only); (repeat' split) <;> simp
@[simp] theorem State.beamHeld_nv (b : Beam) : (s.beamHeld b).nv = s.nv := by
  unfold State.beamHeld; (try dsimp only); (repeat' split) <;> simp
@[simp] theorem State.beamHeld_restores (b : Beam) : (s.beamHeld b).restores = s.restores := by
  unfold State.beamHeld; (try dsimp only); (repeat' split) <;> simp

end Sys2Proof.Machine
end

