-- ==== Sys2Proof/Laws/Collector.lean ====
section
/-!
SUPPORT. What each operation of Machine/Collector.lean leaves alone: one lemma for each field of `State` that it never
touches.  What it does to the fields it touches stands in its definition.
-/

set_option linter.unusedTactic false
set_option linter.unnecessarySeqFocus false
set_option linter.unreachableTactic false

namespace Sys2Proof.Machine

variable (s : State)

@[simp] theorem State.serviceFrameIn_now (f : ServiceFrame) : (s.serviceFrameIn f).now = s.now := by
  unfold State.serviceFrameIn; (try dsimp only); (repeat' split) <;> simp
@[simp] theorem State.serviceFrameIn_pending (f : ServiceFrame) : (s.serviceFrameIn f).pending = s.pending := by
  unfold State.serviceFrameIn; (try dsimp only); (repeat' split) <;> simp
@[simp] theorem State.serviceFrameIn_coin (f : ServiceFrame) : (s.serviceFrameIn f).coin = s.coin := by
  unfold State.serviceFrameIn; (try dsimp only); (repeat' split) <;> simp
@[simp] theorem State.serviceFrameIn_credit (f : ServiceFrame) : (s.serviceFrameIn f).credit = s.credit := by
  unfold State.serviceFrameIn; (try dsimp only); (repeat' split) <;> simp
@[simp] theorem State.serviceFrameIn_arbiter (f : ServiceFrame) : (s.serviceFrameIn f).arbiter = s.arbiter := by
  unfold State.serviceFrameIn; (try dsimp only); (repeat' split) <;> simp
@[simp] theorem State.serviceFrameIn_elapsed (f : ServiceFrame) : (s.serviceFrameIn f).elapsed = s.elapsed := by
  unfold State.serviceFrameIn; (try dsimp only); (repeat' split) <;> simp
@[simp] theorem State.serviceFrameIn_centre (f : ServiceFrame) : (s.serviceFrameIn f).centre = s.centre := by
  unfold State.serviceFrameIn; (try dsimp only); (repeat' split) <;> simp
@[simp] theorem State.serviceFrameIn_modem (f : ServiceFrame) : (s.serviceFrameIn f).modem = s.modem := by
  unfold State.serviceFrameIn; (try dsimp only); (repeat' split) <;> simp
@[simp] theorem State.serviceFrameIn_power (f : ServiceFrame) : (s.serviceFrameIn f).power = s.power := by
  unfold State.serviceFrameIn; (try dsimp only); (repeat' split) <;> simp
@[simp] theorem State.serviceFrameIn_clock (f : ServiceFrame) : (s.serviceFrameIn f).clock = s.clock := by
  unfold State.serviceFrameIn; (try dsimp only); (repeat' split) <;> simp
@[simp] theorem State.serviceFrameIn_image0 (f : ServiceFrame) : (s.serviceFrameIn f).image0 = s.image0 := by
  unfold State.serviceFrameIn; (try dsimp only); (repeat' split) <;> simp
@[simp] theorem State.serviceFrameIn_image1 (f : ServiceFrame) : (s.serviceFrameIn f).image1 = s.image1 := by
  unfold State.serviceFrameIn; (try dsimp only); (repeat' split) <;> simp
@[simp] theorem State.serviceFrameIn_lifetime (f : ServiceFrame) : (s.serviceFrameIn f).lifetime = s.lifetime := by
  unfold State.serviceFrameIn; (try dsimp only); (repeat' split) <;> simp
@[simp] theorem State.serviceFrameIn_nv (f : ServiceFrame) : (s.serviceFrameIn f).nv = s.nv := by
  unfold State.serviceFrameIn; (try dsimp only); (repeat' split) <;> simp
@[simp] theorem State.serviceFrameIn_restores (f : ServiceFrame) : (s.serviceFrameIn f).restores = s.restores := by
  unfold State.serviceFrameIn; (try dsimp only); (repeat' split) <;> simp

@[simp] theorem State.serviceReadOut_now : (s.serviceReadOut).now = s.now := by
  unfold State.serviceReadOut; (try dsimp only); (repeat' split) <;> simp
@[simp] theorem State.serviceReadOut_pending : (s.serviceReadOut).pending = s.pending := by
  unfold State.serviceReadOut; (try dsimp only); (repeat' split) <;> simp
@[simp] theorem State.serviceReadOut_coin : (s.serviceReadOut).coin = s.coin := by
  unfold State.serviceReadOut; (try dsimp only); (repeat' split) <;> simp
@[simp] theorem State.serviceReadOut_credit : (s.serviceReadOut).credit = s.credit := by
  unfold State.serviceReadOut; (try dsimp only); (repeat' split) <;> simp
@[simp] theorem State.serviceReadOut_arbiter : (s.serviceReadOut).arbiter = s.arbiter := by
  unfold State.serviceReadOut; (try dsimp only); (repeat' split) <;> simp
@[simp] theorem State.serviceReadOut_elapsed : (s.serviceReadOut).elapsed = s.elapsed := by
  unfold State.serviceReadOut; (try dsimp only); (repeat' split) <;> simp
@[simp] theorem State.serviceReadOut_centre : (s.serviceReadOut).centre = s.centre := by
  unfold State.serviceReadOut; (try dsimp only); (repeat' split) <;> simp
@[simp] theorem State.serviceReadOut_modem : (s.serviceReadOut).modem = s.modem := by
  unfold State.serviceReadOut; (try dsimp only); (repeat' split) <;> simp
@[simp] theorem State.serviceReadOut_power : (s.serviceReadOut).power = s.power := by
  unfold State.serviceReadOut; (try dsimp only); (repeat' split) <;> simp
@[simp] theorem State.serviceReadOut_clock : (s.serviceReadOut).clock = s.clock := by
  unfold State.serviceReadOut; (try dsimp only); (repeat' split) <;> simp
@[simp] theorem State.serviceReadOut_image0 : (s.serviceReadOut).image0 = s.image0 := by
  unfold State.serviceReadOut; (try dsimp only); (repeat' split) <;> simp
@[simp] theorem State.serviceReadOut_image1 : (s.serviceReadOut).image1 = s.image1 := by
  unfold State.serviceReadOut; (try dsimp only); (repeat' split) <;> simp
@[simp] theorem State.serviceReadOut_lifetime : (s.serviceReadOut).lifetime = s.lifetime := by
  unfold State.serviceReadOut; (try dsimp only); (repeat' split) <;> simp
@[simp] theorem State.serviceReadOut_nv : (s.serviceReadOut).nv = s.nv := by
  unfold State.serviceReadOut; (try dsimp only); (repeat' split) <;> simp
@[simp] theorem State.serviceReadOut_restores : (s.serviceReadOut).restores = s.restores := by
  unfold State.serviceReadOut; (try dsimp only); (repeat' split) <;> simp

end Sys2Proof.Machine
end

