-- ==== Sys2Proof/Laws/Housing.lean ====
section
/-!
SUPPORT. What each operation of Machine/Housing.lean leaves alone: one lemma for each field of `State` that it never
touches.  What it does to the fields it touches stands in its definition.
-/

set_option linter.unusedTactic false
set_option linter.unnecessarySeqFocus false
set_option linter.unreachableTactic false

namespace Sys2Proof.Machine

variable (s : State)

@[simp] theorem State.doorEdge_now (i : DoorInput) (l : Level) : (s.doorEdge i l).now = s.now := by
  unfold State.doorEdge; (try dsimp only); (repeat' split) <;> simp
@[simp] theorem State.doorEdge_pending (i : DoorInput) (l : Level) : (s.doorEdge i l).pending = s.pending := by
  unfold State.doorEdge; (try dsimp only); (repeat' split) <;> simp
@[simp] theorem State.doorEdge_coin (i : DoorInput) (l : Level) : (s.doorEdge i l).coin = s.coin := by
  unfold State.doorEdge; (try dsimp only); (repeat' split) <;> simp
@[simp] theorem State.doorEdge_credit (i : DoorInput) (l : Level) : (s.doorEdge i l).credit = s.credit := by
  unfold State.doorEdge; (try dsimp only); (repeat' split) <;> simp
@[simp] theorem State.doorEdge_rating (i : DoorInput) (l : Level) : (s.doorEdge i l).rating = s.rating := by
  unfold State.doorEdge; (try dsimp only); (repeat' split) <;> simp
@[simp] theorem State.doorEdge_line (i : DoorInput) (l : Level) : (s.doorEdge i l).line = s.line := by
  unfold State.doorEdge; (try dsimp only); (repeat' split) <;> simp
@[simp] theorem State.doorEdge_arbiter (i : DoorInput) (l : Level) : (s.doorEdge i l).arbiter = s.arbiter := by
  unfold State.doorEdge; (try dsimp only); (repeat' split) <;> simp
@[simp] theorem State.doorEdge_tamper (i : DoorInput) (l : Level) : (s.doorEdge i l).tamper = s.tamper := by
  unfold State.doorEdge; (try dsimp only); (repeat' split) <;> simp
@[simp] theorem State.doorEdge_elapsed (i : DoorInput) (l : Level) : (s.doorEdge i l).elapsed = s.elapsed := by
  unfold State.doorEdge; (try dsimp only); (repeat' split) <;> simp
@[simp] theorem State.doorEdge_centre (i : DoorInput) (l : Level) : (s.doorEdge i l).centre = s.centre := by
  unfold State.doorEdge; (try dsimp only); (repeat' split) <;> simp
@[simp] theorem State.doorEdge_modem (i : DoorInput) (l : Level) : (s.doorEdge i l).modem = s.modem := by
  unfold State.doorEdge; (try dsimp only); (repeat' split) <;> simp
@[simp] theorem State.doorEdge_power (i : DoorInput) (l : Level) : (s.doorEdge i l).power = s.power := by
  unfold State.doorEdge; (try dsimp only); (repeat' split) <;> simp
@[simp] theorem State.doorEdge_clock (i : DoorInput) (l : Level) : (s.doorEdge i l).clock = s.clock := by
  unfold State.doorEdge; (try dsimp only); (repeat' split) <;> simp
@[simp] theorem State.doorEdge_service (i : DoorInput) (l : Level) : (s.doorEdge i l).service = s.service := by
  unfold State.doorEdge; (try dsimp only); (repeat' split) <;> simp
@[simp] theorem State.doorEdge_config (i : DoorInput) (l : Level) : (s.doorEdge i l).config = s.config := by
  unfold State.doorEdge; (try dsimp only); (repeat' split) <;> simp
@[simp] theorem State.doorEdge_image0 (i : DoorInput) (l : Level) : (s.doorEdge i l).image0 = s.image0 := by
  unfold State.doorEdge; (try dsimp only); (repeat' split) <;> simp
@[simp] theorem State.doorEdge_image1 (i : DoorInput) (l : Level) : (s.doorEdge i l).image1 = s.image1 := by
  unfold State.doorEdge; (try dsimp only); (repeat' split) <;> simp
@[simp] theorem State.doorEdge_lifetime (i : DoorInput) (l : Level) : (s.doorEdge i l).lifetime = s.lifetime := by
  unfold State.doorEdge; (try dsimp only); (repeat' split) <;> simp
@[simp] theorem State.doorEdge_period (i : DoorInput) (l : Level) : (s.doorEdge i l).period = s.period := by
  unfold State.doorEdge; (try dsimp only); (repeat' split) <;> simp
@[simp] theorem State.doorEdge_history (i : DoorInput) (l : Level) : (s.doorEdge i l).history = s.history := by
  unfold State.doorEdge; (try dsimp only); (repeat' split) <;> simp
@[simp] theorem State.doorEdge_call (i : DoorInput) (l : Level) : (s.doorEdge i l).call = s.call := by
  unfold State.doorEdge; (try dsimp only); (repeat' split) <;> simp
@[simp] theorem State.doorEdge_nv (i : DoorInput) (l : Level) : (s.doorEdge i l).nv = s.nv := by
  unfold State.doorEdge; (try dsimp only); (repeat' split) <;> simp
@[simp] theorem State.doorEdge_restores (i : DoorInput) (l : Level) : (s.doorEdge i l).restores = s.restores := by
  unfold State.doorEdge; (try dsimp only); (repeat' split) <;> simp

@[simp] theorem State.cordOpened_now : (s.cordOpened).now = s.now := by
  unfold State.cordOpened; (try dsimp only); (repeat' split) <;> simp
@[simp] theorem State.cordOpened_pending : (s.cordOpened).pending = s.pending := by
  unfold State.cordOpened; (try dsimp only); (repeat' split) <;> simp
@[simp] theorem State.cordOpened_elapsed : (s.cordOpened).elapsed = s.elapsed := by
  unfold State.cordOpened; (try dsimp only); (repeat' split) <;> simp
@[simp] theorem State.cordOpened_power : (s.cordOpened).power = s.power := by
  unfold State.cordOpened; (try dsimp only); (repeat' split) <;> simp
@[simp] theorem State.cordOpened_clock : (s.cordOpened).clock = s.clock := by
  unfold State.cordOpened; (try dsimp only); (repeat' split) <;> simp
@[simp] theorem State.cordOpened_service : (s.cordOpened).service = s.service := by
  unfold State.cordOpened; (try dsimp only); (repeat' split) <;> simp
@[simp] theorem State.cordOpened_history : (s.cordOpened).history = s.history := by
  unfold State.cordOpened; (try dsimp only); (repeat' split) <;> simp
@[simp] theorem State.cordOpened_events : (s.cordOpened).events = s.events := by
  unfold State.cordOpened; (try dsimp only); (repeat' split) <;> simp
@[simp] theorem State.cordOpened_nv : (s.cordOpened).nv = s.nv := by
  unfold State.cordOpened; (try dsimp only); (repeat' split) <;> simp
@[simp] theorem State.cordOpened_restores : (s.cordOpened).restores = s.restores := by
  unfold State.cordOpened; (try dsimp only); (repeat' split) <;> simp

@[simp] theorem State.cordClosed_now : (s.cordClosed).now = s.now := by
  unfold State.cordClosed; (try dsimp only); (repeat' split) <;> simp
@[simp] theorem State.cordClosed_pending : (s.cordClosed).pending = s.pending := by
  unfold State.cordClosed; (try dsimp only); (repeat' split) <;> simp
@[simp] theorem State.cordClosed_coin : (s.cordClosed).coin = s.coin := by
  unfold State.cordClosed; (try dsimp only); (repeat' split) <;> simp
@[simp] theorem State.cordClosed_credit : (s.cordClosed).credit = s.credit := by
  unfold State.cordClosed; (try dsimp only); (repeat' split) <;> simp
@[simp] theorem State.cordClosed_rating : (s.cordClosed).rating = s.rating := by
  unfold State.cordClosed; (try dsimp only); (repeat' split) <;> simp
@[simp] theorem State.cordClosed_line : (s.cordClosed).line = s.line := by
  unfold State.cordClosed; (try dsimp only); (repeat' split) <;> simp
@[simp] theorem State.cordClosed_arbiter : (s.cordClosed).arbiter = s.arbiter := by
  unfold State.cordClosed; (try dsimp only); (repeat' split) <;> simp
@[simp] theorem State.cordClosed_elapsed : (s.cordClosed).elapsed = s.elapsed := by
  unfold State.cordClosed; (try dsimp only); (repeat' split) <;> simp
@[simp] theorem State.cordClosed_centre : (s.cordClosed).centre = s.centre := by
  unfold State.cordClosed; (try dsimp only); (repeat' split) <;> simp
@[simp] theorem State.cordClosed_modem : (s.cordClosed).modem = s.modem := by
  unfold State.cordClosed; (try dsimp only); (repeat' split) <;> simp
@[simp] theorem State.cordClosed_ledger : (s.cordClosed).ledger = s.ledger := by
  unfold State.cordClosed; (try dsimp only); (repeat' split) <;> simp
@[simp] theorem State.cordClosed_power : (s.cordClosed).power = s.power := by
  unfold State.cordClosed; (try dsimp only); (repeat' split) <;> simp
@[simp] theorem State.cordClosed_clock : (s.cordClosed).clock = s.clock := by
  unfold State.cordClosed; (try dsimp only); (repeat' split) <;> simp
@[simp] theorem State.cordClosed_setPort : (s.cordClosed).setPort = s.setPort := by
  unfold State.cordClosed; (try dsimp only); (repeat' split) <;> simp
@[simp] theorem State.cordClosed_service : (s.cordClosed).service = s.service := by
  unfold State.cordClosed; (try dsimp only); (repeat' split) <;> simp
@[simp] theorem State.cordClosed_config : (s.cordClosed).config = s.config := by
  unfold State.cordClosed; (try dsimp only); (repeat' split) <;> simp
@[simp] theorem State.cordClosed_image0 : (s.cordClosed).image0 = s.image0 := by
  unfold State.cordClosed; (try dsimp only); (repeat' split) <;> simp
@[simp] theorem State.cordClosed_image1 : (s.cordClosed).image1 = s.image1 := by
  unfold State.cordClosed; (try dsimp only); (repeat' split) <;> simp
@[simp] theorem State.cordClosed_lifetime : (s.cordClosed).lifetime = s.lifetime := by
  unfold State.cordClosed; (try dsimp only); (repeat' split) <;> simp
@[simp] theorem State.cordClosed_period : (s.cordClosed).period = s.period := by
  unfold State.cordClosed; (try dsimp only); (repeat' split) <;> simp
@[simp] theorem State.cordClosed_history : (s.cordClosed).history = s.history := by
  unfold State.cordClosed; (try dsimp only); (repeat' split) <;> simp
@[simp] theorem State.cordClosed_call : (s.cordClosed).call = s.call := by
  unfold State.cordClosed; (try dsimp only); (repeat' split) <;> simp
@[simp] theorem State.cordClosed_events : (s.cordClosed).events = s.events := by
  unfold State.cordClosed; (try dsimp only); (repeat' split) <;> simp
@[simp] theorem State.cordClosed_nv : (s.cordClosed).nv = s.nv := by
  unfold State.cordClosed; (try dsimp only); (repeat' split) <;> simp
@[simp] theorem State.cordClosed_restores : (s.cordClosed).restores = s.restores := by
  unfold State.cordClosed; (try dsimp only); (repeat' split) <;> simp

@[simp] theorem State.cordEdge_now (i : DoorInput) (l : Level) : (s.cordEdge i l).now = s.now := by
  unfold State.cordEdge; (try dsimp only); (repeat' split) <;> simp
@[simp] theorem State.cordEdge_pending (i : DoorInput) (l : Level) : (s.cordEdge i l).pending = s.pending := by
  unfold State.cordEdge; (try dsimp only); (repeat' split) <;> simp
@[simp] theorem State.cordEdge_elapsed (i : DoorInput) (l : Level) : (s.cordEdge i l).elapsed = s.elapsed := by
  unfold State.cordEdge; (try dsimp only); (repeat' split) <;> simp
@[simp] theorem State.cordEdge_power (i : DoorInput) (l : Level) : (s.cordEdge i l).power = s.power := by
  unfold State.cordEdge; (try dsimp only); (repeat' split) <;> simp
@[simp] theorem State.cordEdge_clock (i : DoorInput) (l : Level) : (s.cordEdge i l).clock = s.clock := by
  unfold State.cordEdge; (try dsimp only); (repeat' split) <;> simp
@[simp] theorem State.cordEdge_service (i : DoorInput) (l : Level) : (s.cordEdge i l).service = s.service := by
  unfold State.cordEdge; (try dsimp only); (repeat' split) <;> simp
@[simp] theorem State.cordEdge_history (i : DoorInput) (l : Level) : (s.cordEdge i l).history = s.history := by
  unfold State.cordEdge; (try dsimp only); (repeat' split) <;> simp
@[simp] theorem State.cordEdge_events (i : DoorInput) (l : Level) : (s.cordEdge i l).events = s.events := by
  unfold State.cordEdge; (try dsimp only); (repeat' split) <;> simp
@[simp] theorem State.cordEdge_nv (i : DoorInput) (l : Level) : (s.cordEdge i l).nv = s.nv := by
  unfold State.cordEdge; (try dsimp only); (repeat' split) <;> simp
@[simp] theorem State.cordEdge_restores (i : DoorInput) (l : Level) : (s.cordEdge i l).restores = s.restores := by
  unfold State.cordEdge; (try dsimp only); (repeat' split) <;> simp

@[simp] theorem State.firstLevel_now (i : DoorInput) (l : Level) : (s.firstLevel i l).now = s.now := by
  unfold State.firstLevel; (try dsimp only); (repeat' split) <;> simp
@[simp] theorem State.firstLevel_pending (i : DoorInput) (l : Level) : (s.firstLevel i l).pending = s.pending := by
  unfold State.firstLevel; (try dsimp only); (repeat' split) <;> simp
@[simp] theorem State.firstLevel_coin (i : DoorInput) (l : Level) : (s.firstLevel i l).coin = s.coin := by
  unfold State.firstLevel; (try dsimp only); (repeat' split) <;> simp
@[simp] theorem State.firstLevel_credit (i : DoorInput) (l : Level) : (s.firstLevel i l).credit = s.credit := by
  unfold State.firstLevel; (try dsimp only); (repeat' split) <;> simp
@[simp] theorem State.firstLevel_arbiter (i : DoorInput) (l : Level) : (s.firstLevel i l).arbiter = s.arbiter := by
  unfold State.firstLevel; (try dsimp only); (repeat' split) <;> simp
@[simp] theorem State.firstLevel_elapsed (i : DoorInput) (l : Level) : (s.firstLevel i l).elapsed = s.elapsed := by
  unfold State.firstLevel; (try dsimp only); (repeat' split) <;> simp
@[simp] theorem State.firstLevel_centre (i : DoorInput) (l : Level) : (s.firstLevel i l).centre = s.centre := by
  unfold State.firstLevel; (try dsimp only); (repeat' split) <;> simp
@[simp] theorem State.firstLevel_modem (i : DoorInput) (l : Level) : (s.firstLevel i l).modem = s.modem := by
  unfold State.firstLevel; (try dsimp only); (repeat' split) <;> simp
@[simp] theorem State.firstLevel_power (i : DoorInput) (l : Level) : (s.firstLevel i l).power = s.power := by
  unfold State.firstLevel; (try dsimp only); (repeat' split) <;> simp
@[simp] theorem State.firstLevel_clock (i : DoorInput) (l : Level) : (s.firstLevel i l).clock = s.clock := by
  unfold State.firstLevel; (try dsimp only); (repeat' split) <;> simp
@[simp] theorem State.firstLevel_service (i : DoorInput) (l : Level) : (s.firstLevel i l).service = s.service := by
  unfold State.firstLevel; (try dsimp only); (repeat' split) <;> simp
@[simp] theorem State.firstLevel_image0 (i : DoorInput) (l : Level) : (s.firstLevel i l).image0 = s.image0 := by
  unfold State.firstLevel; (try dsimp only); (repeat' split) <;> simp
@[simp] theorem State.firstLevel_image1 (i : DoorInput) (l : Level) : (s.firstLevel i l).image1 = s.image1 := by
  unfold State.firstLevel; (try dsimp only); (repeat' split) <;> simp
@[simp] theorem State.firstLevel_lifetime (i : DoorInput) (l : Level) : (s.firstLevel i l).lifetime = s.lifetime := by
  unfold State.firstLevel; (try dsimp only); (repeat' split) <;> simp
@[simp] theorem State.firstLevel_period (i : DoorInput) (l : Level) : (s.firstLevel i l).period = s.period := by
  unfold State.firstLevel; (try dsimp only); (repeat' split) <;> simp
@[simp] theorem State.firstLevel_history (i : DoorInput) (l : Level) : (s.firstLevel i l).history = s.history := by
  unfold State.firstLevel; (try dsimp only); (repeat' split) <;> simp
@[simp] theorem State.firstLevel_call (i : DoorInput) (l : Level) : (s.firstLevel i l).call = s.call := by
  unfold State.firstLevel; (try dsimp only); (repeat' split) <;> simp
@[simp] theorem State.firstLevel_events (i : DoorInput) (l : Level) : (s.firstLevel i l).events = s.events := by
  unfold State.firstLevel; (try dsimp only); (repeat' split) <;> simp
@[simp] theorem State.firstLevel_nv (i : DoorInput) (l : Level) : (s.firstLevel i l).nv = s.nv := by
  unfold State.firstLevel; (try dsimp only); (repeat' split) <;> simp
@[simp] theorem State.firstLevel_restores (i : DoorInput) (l : Level) : (s.firstLevel i l).restores = s.restores := by
  unfold State.firstLevel; (try dsimp only); (repeat' split) <;> simp

@[simp] theorem State.inputLevel_now (i : DoorInput) (l : Level) : (s.inputLevel i l).now = s.now := by
  unfold State.inputLevel; (try dsimp only); (repeat' split) <;> simp
@[simp] theorem State.inputLevel_pending (i : DoorInput) (l : Level) : (s.inputLevel i l).pending = s.pending := by
  unfold State.inputLevel; (try dsimp only); (repeat' split) <;> simp
@[simp] theorem State.inputLevel_elapsed (i : DoorInput) (l : Level) : (s.inputLevel i l).elapsed = s.elapsed := by
  unfold State.inputLevel; (try dsimp only); (repeat' split) <;> simp
@[simp] theorem State.inputLevel_power (i : DoorInput) (l : Level) : (s.inputLevel i l).power = s.power := by
  unfold State.inputLevel; (try dsimp only); (repeat' split) <;> simp
@[simp] theorem State.inputLevel_clock (i : DoorInput) (l : Level) : (s.inputLevel i l).clock = s.clock := by
  unfold State.inputLevel; (try dsimp only); (repeat' split) <;> simp
@[simp] theorem State.inputLevel_service (i : DoorInput) (l : Level) : (s.inputLevel i l).service = s.service := by
  unfold State.inputLevel; (try dsimp only); (repeat' split) <;> simp
@[simp] theorem State.inputLevel_history (i : DoorInput) (l : Level) : (s.inputLevel i l).history = s.history := by
  unfold State.inputLevel; (try dsimp only); (repeat' split) <;> simp
@[simp] theorem State.inputLevel_nv (i : DoorInput) (l : Level) : (s.inputLevel i l).nv = s.nv := by
  unfold State.inputLevel; (try dsimp only); (repeat' split) <;> simp
@[simp] theorem State.inputLevel_restores (i : DoorInput) (l : Level) : (s.inputLevel i l).restores = s.restores := by
  unfold State.inputLevel; (try dsimp only); (repeat' split) <;> simp

@[simp] theorem State.shockHit_now : (s.shockHit).now = s.now := by
  unfold State.shockHit; (try dsimp only); (repeat' split) <;> simp
@[simp] theorem State.shockHit_pending : (s.shockHit).pending = s.pending := by
  unfold State.shockHit; (try dsimp only); (repeat' split) <;> simp
@[simp] theorem State.shockHit_coin : (s.shockHit).coin = s.coin := by
  unfold State.shockHit; (try dsimp only); (repeat' split) <;> simp
@[simp] theorem State.shockHit_credit : (s.shockHit).credit = s.credit := by
  unfold State.shockHit; (try dsimp only); (repeat' split) <;> simp
@[simp] theorem State.shockHit_rating : (s.shockHit).rating = s.rating := by
  unfold State.shockHit; (try dsimp only); (repeat' split) <;> simp
@[simp] theorem State.shockHit_line : (s.shockHit).line = s.line := by
  unfold State.shockHit; (try dsimp only); (repeat' split) <;> simp
@[simp] theorem State.shockHit_arbiter : (s.shockHit).arbiter = s.arbiter := by
  unfold State.shockHit; (try dsimp only); (repeat' split) <;> simp
@[simp] theorem State.shockHit_elapsed : (s.shockHit).elapsed = s.elapsed := by
  unfold State.shockHit; (try dsimp only); (repeat' split) <;> simp
@[simp] theorem State.shockHit_centre : (s.shockHit).centre = s.centre := by
  unfold State.shockHit; (try dsimp only); (repeat' split) <;> simp
@[simp] theorem State.shockHit_modem : (s.shockHit).modem = s.modem := by
  unfold State.shockHit; (try dsimp only); (repeat' split) <;> simp
@[simp] theorem State.shockHit_ledger : (s.shockHit).ledger = s.ledger := by
  unfold State.shockHit; (try dsimp only); (repeat' split) <;> simp
@[simp] theorem State.shockHit_power : (s.shockHit).power = s.power := by
  unfold State.shockHit; (try dsimp only); (repeat' split) <;> simp
@[simp] theorem State.shockHit_clock : (s.shockHit).clock = s.clock := by
  unfold State.shockHit; (try dsimp only); (repeat' split) <;> simp
@[simp] theorem State.shockHit_setPort : (s.shockHit).setPort = s.setPort := by
  unfold State.shockHit; (try dsimp only); (repeat' split) <;> simp
@[simp] theorem State.shockHit_service : (s.shockHit).service = s.service := by
  unfold State.shockHit; (try dsimp only); (repeat' split) <;> simp
@[simp] theorem State.shockHit_config : (s.shockHit).config = s.config := by
  unfold State.shockHit; (try dsimp only); (repeat' split) <;> simp
@[simp] theorem State.shockHit_image0 : (s.shockHit).image0 = s.image0 := by
  unfold State.shockHit; (try dsimp only); (repeat' split) <;> simp
@[simp] theorem State.shockHit_image1 : (s.shockHit).image1 = s.image1 := by
  unfold State.shockHit; (try dsimp only); (repeat' split) <;> simp
@[simp] theorem State.shockHit_lifetime : (s.shockHit).lifetime = s.lifetime := by
  unfold State.shockHit; (try dsimp only); (repeat' split) <;> simp
@[simp] theorem State.shockHit_period : (s.shockHit).period = s.period := by
  unfold State.shockHit; (try dsimp only); (repeat' split) <;> simp
@[simp] theorem State.shockHit_history : (s.shockHit).history = s.history := by
  unfold State.shockHit; (try dsimp only); (repeat' split) <;> simp
@[simp] theorem State.shockHit_call : (s.shockHit).call = s.call := by
  unfold State.shockHit; (try dsimp only); (repeat' split) <;> simp
@[simp] theorem State.shockHit_events : (s.shockHit).events = s.events := by
  unfold State.shockHit; (try dsimp only); (repeat' split) <;> simp
@[simp] theorem State.shockHit_nv : (s.shockHit).nv = s.nv := by
  unfold State.shockHit; (try dsimp only); (repeat' split) <;> simp
@[simp] theorem State.shockHit_restores : (s.shockHit).restores = s.restores := by
  unfold State.shockHit; (try dsimp only); (repeat' split) <;> simp

@[simp] theorem State.shockWindowOver_now : (s.shockWindowOver).now = s.now := by
  unfold State.shockWindowOver; (try dsimp only); (repeat' split) <;> simp
@[simp] theorem State.shockWindowOver_pending : (s.shockWindowOver).pending = s.pending := by
  unfold State.shockWindowOver; (try dsimp only); (repeat' split) <;> simp
@[simp] theorem State.shockWindowOver_coin : (s.shockWindowOver).coin = s.coin := by
  unfold State.shockWindowOver; (try dsimp only); (repeat' split) <;> simp
@[simp] theorem State.shockWindowOver_credit : (s.shockWindowOver).credit = s.credit := by
  unfold State.shockWindowOver; (try dsimp only); (repeat' split) <;> simp
@[simp] theorem State.shockWindowOver_rating : (s.shockWindowOver).rating = s.rating := by
  unfold State.shockWindowOver; (try dsimp only); (repeat' split) <;> simp
@[simp] theorem State.shockWindowOver_line : (s.shockWindowOver).line = s.line := by
  unfold State.shockWindowOver; (try dsimp only); (repeat' split) <;> simp
@[simp] theorem State.shockWindowOver_arbiter : (s.shockWindowOver).arbiter = s.arbiter := by
  unfold State.shockWindowOver; (try dsimp only); (repeat' split) <;> simp
@[simp] theorem State.shockWindowOver_elapsed : (s.shockWindowOver).elapsed = s.elapsed := by
  unfold State.shockWindowOver; (try dsimp only); (repeat' split) <;> simp
@[simp] theorem State.shockWindowOver_centre : (s.shockWindowOver).centre = s.centre := by
  unfold State.shockWindowOver; (try dsimp only); (repeat' split) <;> simp
@[simp] theorem State.shockWindowOver_modem : (s.shockWindowOver).modem = s.modem := by
  unfold State.shockWindowOver; (try dsimp only); (repeat' split) <;> simp
@[simp] theorem State.shockWindowOver_power : (s.shockWindowOver).power = s.power := by
  unfold State.shockWindowOver; (try dsimp only); (repeat' split) <;> simp
@[simp] theorem State.shockWindowOver_clock : (s.shockWindowOver).clock = s.clock := by
  unfold State.shockWindowOver; (try dsimp only); (repeat' split) <;> simp
@[simp] theorem State.shockWindowOver_service : (s.shockWindowOver).service = s.service := by
  unfold State.shockWindowOver; (try dsimp only); (repeat' split) <;> simp
@[simp] theorem State.shockWindowOver_config : (s.shockWindowOver).config = s.config := by
  unfold State.shockWindowOver; (try dsimp only); (repeat' split) <;> simp
@[simp] theorem State.shockWindowOver_image0 : (s.shockWindowOver).image0 = s.image0 := by
  unfold State.shockWindowOver; (try dsimp only); (repeat' split) <;> simp
@[simp] theorem State.shockWindowOver_image1 : (s.shockWindowOver).image1 = s.image1 := by
  unfold State.shockWindowOver; (try dsimp only); (repeat' split) <;> simp
@[simp] theorem State.shockWindowOver_lifetime : (s.shockWindowOver).lifetime = s.lifetime := by
  unfold State.shockWindowOver; (try dsimp only); (repeat' split) <;> simp
@[simp] theorem State.shockWindowOver_period : (s.shockWindowOver).period = s.period := by
  unfold State.shockWindowOver; (try dsimp only); (repeat' split) <;> simp
@[simp] theorem State.shockWindowOver_history : (s.shockWindowOver).history = s.history := by
  unfold State.shockWindowOver; (try dsimp only); (repeat' split) <;> simp
@[simp] theorem State.shockWindowOver_call : (s.shockWindowOver).call = s.call := by
  unfold State.shockWindowOver; (try dsimp only); (repeat' split) <;> simp
@[simp] theorem State.shockWindowOver_nv : (s.shockWindowOver).nv = s.nv := by
  unfold State.shockWindowOver; (try dsimp only); (repeat' split) <;> simp
@[simp] theorem State.shockWindowOver_restores : (s.shockWindowOver).restores = s.restores := by
  unfold State.shockWindowOver; (try dsimp only); (repeat' split) <;> simp

end Sys2Proof.Machine
end

