-- ==== Sys2Proof/Laws/Memory.lean ====
section
/-!
SUPPORT. The memory of a tariff image slot: a write keeps the canonical form, a read after a write gives the byte written at
its address and the byte before it everywhere else, two memories in canonical form that read alike are one, and a run of bytes
is read in one pass.
-/

namespace Sys2Proof.Machine

/-- A listed memory may start lower than it does. -/
theorem memWfFrom_mono {m : List Host.Cell} {low low' : Nat} (h : memWfFrom low m = true) (le : low' ≤ low) :
    memWfFrom low' m = true := by
  cases m with
  | nil => rfl
  | cons c rest =>
    obtain ⟨k, v⟩ := c
    simp only [memWfFrom, Bool.and_eq_true, decide_eq_true_eq] at h ⊢
    exact ⟨⟨⟨by omega, h.1.1.2⟩, h.1.2⟩, h.2⟩

/-- Below its first address a memory reads as an unlisted address does. -/
theorem memRead_of_lt {m : List Host.Cell} {low a : Nat} (h : memWfFrom low m = true) (lt : a < low) :
    memRead m a = unlistedByte := by
  induction m generalizing low with
  | nil => rfl
  | cons c rest ih =>
    obtain ⟨k, v⟩ := c
    simp only [memWfFrom, Bool.and_eq_true, decide_eq_true_eq] at h
    have ne : k ≠ a := by omega
    simp only [memRead, if_neg ne]
    exact ih h.2 (by omega)

/-- The `n` bytes from `k` on of a memory that lists none before them, read in one pass. -/
def memSpan : List Host.Cell → Nat → Nat → List Byte
  | _, _, 0 => []
  | [], k, n + 1 => 0 :: memSpan [] (k + 1) n
  | (a, v) :: rest, k, n + 1 =>
    if a = k then v :: memSpan rest (k + 1) n else 0 :: memSpan ((a, v) :: rest) (k + 1) n

/-- Reading byte by byte gives what the one pass does. -/
theorem map_memRead_eq_memSpan (m : List Host.Cell) (k n : Nat) (h : memWfFrom k m = true) :
    (List.range' k n).map (memRead m) = memSpan m k n := by
  induction n generalizing m k with
  | zero => cases m <;> rfl
  | succ n ih =>
    rw [List.range'_succ, List.map_cons]
    cases m with
    | nil => rw [ih [] (k + 1) rfl]; rfl
    | cons c rest =>
      obtain ⟨a, v⟩ := c
      simp only [memWfFrom, Bool.and_eq_true, decide_eq_true_eq] at h
      by_cases e : a = k
      · subst e
        simp only [memSpan, if_true, ← ih rest (a + 1) h.2]
        simp only [memRead, if_true, List.cons.injEq, true_and]
        refine List.map_congr_left fun x hx => ?_
        have := List.mem_range'.1 hx
        rw [if_neg (by omega)]
      · have wf : memWfFrom (k + 1) ((a, v) :: rest) = true := by
          simp only [memWfFrom, Bool.and_eq_true, decide_eq_true_eq]
          exact ⟨⟨⟨by omega, h.1.1.2⟩, h.1.2⟩, h.2⟩
        simp only [memSpan, e, if_false, ← ih _ (k + 1) wf]
        simp only [List.cons.injEq, and_true]
        exact memRead_of_lt wf (by omega)

/-- A write keeps the canonical form. -/
theorem memWfFrom_memWrite {m : List Host.Cell} {low a : Nat} (b : Byte) (h : memWfFrom low m = true) (la : low ≤ a)
    (ha : a < Config.imageBytes) : memWfFrom low (memWrite m a b) = true := by
  induction m generalizing low with
  | nil => by_cases hb : b = unlistedByte <;> simp [memWrite, memWfFrom, hb, la, ha]
  | cons c rest ih =>
    obtain ⟨k, v⟩ := c
    have h' := h
    simp only [memWfFrom, Bool.and_eq_true, decide_eq_true_eq] at h
    unfold memWrite
    split
    · split
      · exact h'
      · next hb =>
        simp only [memWfFrom, Bool.and_eq_true, decide_eq_true_eq]
        exact ⟨⟨⟨la, ha⟩, hb⟩, ⟨⟨by omega, h.1.1.2⟩, h.1.2⟩, h.2⟩
    · split
      · next hk =>
        subst hk
        split
        · exact memWfFrom_mono h.2 (by omega)
        · next hb =>
          simp only [memWfFrom, Bool.and_eq_true, decide_eq_true_eq]
          exact ⟨⟨⟨la, ha⟩, hb⟩, h.2⟩
      · simp only [memWfFrom, Bool.and_eq_true, decide_eq_true_eq]
        exact ⟨h.1, ih h.2 (by omega)⟩

/-- A write keeps the canonical form (the whole memory). -/
theorem memWf_memWrite {m : List Host.Cell} {a : Nat} (b : Byte) (h : memWf m = true) (ha : a < Config.imageBytes) :
    memWf (memWrite m a b) = true := memWfFrom_memWrite b h (Nat.zero_le a) ha

/-- A read after a write: the byte written at its address, and the byte before it at every other. -/
theorem memRead_memWrite_from {m : List Host.Cell} {low a : Nat} (b : Byte) (x : Nat) (h : memWfFrom low m = true) :
    memRead (memWrite m a b) x = if x = a then b else memRead m x := by
  induction m generalizing low with
  | nil =>
    by_cases hb : b = unlistedByte
    · simp [memWrite, memRead, hb]
    · by_cases hx : a = x <;> simp [memWrite, memRead, hb, hx, eq_comm]
  | cons c rest ih =>
    obtain ⟨k, v⟩ := c
    have h' := h
    simp only [memWfFrom, Bool.and_eq_true, decide_eq_true_eq] at h
    unfold memWrite
    split
    · next lt =>
      split
      · next hb =>
        by_cases hx : x = a
        · subst hx
          rw [if_pos rfl, hb]
          exact memRead_of_lt (memWfFrom_mono (low' := k) (by simpa [memWfFrom] using ⟨⟨h.1.1.2, h.1.2⟩, h.2⟩) (le_refl k)) lt
        · rw [if_neg hx]
      · by_cases hx : x = a
        · subst hx; simp [memRead]
        · have : ¬ a = x := fun e => hx e.symm
          simp [memRead, hx, this]
    · split
      · next hk =>
        subst hk
        split
        · next hb =>
          by_cases hx : x = a
          · subst hx
            rw [if_pos rfl, hb]
            exact memRead_of_lt h.2 (by omega)
          · have : ¬ a = x := fun e => hx e.symm
            simp [memRead, hx, this]
        · by_cases hx : x = a
          · subst hx; simp [memRead]
          · have : ¬ a = x := fun e => hx e.symm
            simp [memRead, hx, this]
      · next hk =>
        by_cases hx : k = x
        · subst hx
          have : ¬ k = a := fun e => hk e.symm
          simp [memRead, this]
        · simp only [memRead, if_neg hx]
          exact ih h.2

/-- A read after a write on a memory in canonical form. -/
theorem memRead_memWrite {m : List Host.Cell} {a : Nat} (b : Byte) (x : Nat) (h : memWf m = true) :
    memRead (memWrite m a b) x = if x = a then b else memRead m x := memRead_memWrite_from b x h

/-- Writing several bytes keeps the canonical form. -/
theorem memWf_memWriteBytes {m : List Host.Cell} {a : Nat} (bytes : List Byte) (h : memWf m = true)
    (ha : a + bytes.length ≤ Config.imageBytes) : memWf (memWriteBytes m a bytes) = true := by
  induction bytes generalizing m a with
  | nil => exact h
  | cons b rest ih =>
    simp only [List.length_cons] at ha
    exact ih (memWf_memWrite b h (by omega)) (by omega)

/-- A read after writing several bytes: the byte of the list within their range, and the byte before them outside it. -/
theorem memRead_memWriteBytes {m : List Host.Cell} {a : Nat} (bytes : List Byte) (x : Nat) (h : memWf m = true)
    (ha : a + bytes.length ≤ Config.imageBytes) :
    memRead (memWriteBytes m a bytes) x =
      if a ≤ x ∧ x < a + bytes.length then bytes.getD (x - a) 0 else memRead m x := by
  induction bytes generalizing m a with
  | nil => simp [memWriteBytes]
  | cons b rest ih =>
    simp only [List.length_cons] at ha ⊢
    rw [memWriteBytes, ih (memWf_memWrite b h (by omega)) (by omega), memRead_memWrite b x h]
    by_cases hx : x = a
    · subst hx
      simp
    · by_cases hr : a + 1 ≤ x ∧ x < a + 1 + rest.length
      · obtain ⟨k, hk⟩ : ∃ k, x - a = k + 1 := ⟨x - a - 1, by omega⟩
        have hk' : x - (a + 1) = k := by omega
        rw [if_pos hr, if_pos ⟨by omega, by omega⟩, hk, hk']
        rfl
      · rw [if_neg hr, if_neg hx, if_neg (by omega)]

/-- Two memories in canonical form that read alike from their start on are one. -/
theorem memWfFrom_ext {m n : List Host.Cell} {low : Nat} (hm : memWfFrom low m = true) (hn : memWfFrom low n = true)
    (h : ∀ a, memRead m a = memRead n a) : m = n := by
  induction m generalizing n low with
  | nil =>
    cases n with
    | nil => rfl
    | cons d rest =>
      obtain ⟨k, v⟩ := d
      simp only [memWfFrom, Bool.and_eq_true, decide_eq_true_eq] at hn
      have := h k
      simp only [memRead, if_true] at this
      exact absurd this.symm hn.1.2
  | cons c rest ih =>
    obtain ⟨k, v⟩ := c
    simp only [memWfFrom, Bool.and_eq_true, decide_eq_true_eq] at hm
    cases n with
    | nil =>
      have := h k
      simp only [memRead, if_true] at this
      exact absurd this hm.1.2
    | cons d rest' =>
      obtain ⟨l, w⟩ := d
      simp only [memWfFrom, Bool.and_eq_true, decide_eq_true_eq] at hn
      have hkl : k = l := by
        rcases Nat.lt_trichotomy k l with lt | eq | gt
        · have e := h k
          have ne : l ≠ k := by omega
          simp only [memRead, if_true, if_neg ne, memRead_of_lt hn.2 (show k < l + 1 by omega)] at e
          exact absurd e hm.1.2
        · exact eq
        · have e := h l
          have ne : k ≠ l := by omega
          simp only [memRead, if_true, if_neg ne, memRead_of_lt hm.2 (show l < k + 1 by omega)] at e
          exact absurd e.symm hn.1.2
      subst hkl
      have hvw : v = w := by simpa [memRead] using h k
      subst hvw
      have hr : rest = rest' := ih hm.2 hn.2 fun a => by
        by_cases ha : k = a
        · subst ha
          rw [memRead_of_lt hm.2 (Nat.lt_succ_self k), memRead_of_lt hn.2 (Nat.lt_succ_self k)]
        · simpa [memRead, ha] using h a
      rw [hr]

/-- Equal memories are equal data. -/
theorem memWf_ext {m n : List Host.Cell} (hm : memWf m = true) (hn : memWf n = true)
    (h : ∀ a, memRead m a = memRead n a) : m = n := memWfFrom_ext hm hn h

/-- BLOCK_LOAD keeps the canonical form (R52). -/
theorem imageLoad_wf {i : ImageSection} {block : Nat} {bytes : List Byte} (h : memWf i.bytes = true) (hb : block < 16)
    (hl : bytes.length = 64) : memWf (i.load block bytes).bytes = true :=
  memWf_memWriteBytes bytes h (by rw [hl]; simp only [Config.blockBytes, Config.imageBytes]; omega)

/-- The image that a restore reads from a section whose check fails is in canonical form, whatever its bytes (R166). -/
theorem damaged_wf (n : Nat) :
    memWf (memWriteBytes [] 0 ((List.range Config.imageBytes).map (Config.damagedImageByte n))) = true :=
  memWf_memWriteBytes _ rfl (by simp)

/-- Both slots are in canonical form at reset. -/
theorem reset_images_wf : memWf State.reset.image0.bytes = true ∧ memWf State.reset.image1.bytes = true := ⟨rfl, rfl⟩

end Sys2Proof.Machine
end

