-- ==== Sys2Proof/Laws/Rating.lean ====
section
/-!
SUPPORT. What each operation of Machine/Rating.lean leaves alone: one lemma for each field of `State` that it never
touches.  What it does to the fields it touches stands in its definition.
-/

set_option linter.unusedTactic false
set_option linter.unnecessarySeqFocus false
set_option linter.unreachableTactic false

namespace Sys2Proof.Machine

variable (s : State)

@[simp] theorem State.warningDue_now : (s.warningDue).now = s.now := by
  unfold State.warningDue; (try dsimp only); (repeat' split) <;> simp
@[simp] theorem State.warningDue_pending : (s.warningDue).pending = s.pending := by
  unfold State.warningDue; (try dsimp only); (repeat' split) <;> simp
@[simp] theorem State.warningDue_coin : (s.warningDue).coin = s.coin := by
  unfold State.warningDue; (try dsimp only); (repeat' split) <;> simp
@[simp] theorem State.warningDue_credit : (s.warningDue).credit = s.credit := by
  unfold State.warningDue; (try dsimp only); (repeat' split) <;> simp
@[simp] theorem State.warningDue_line : (s.warningDue).line = s.line := by
  unfold State.warningDue; (try dsimp only); (repeat' split) <;> simp
@[simp] theorem State.warningDue_arbiter : (s.warningDue).arbiter = s.arbiter := by
  unfold State.warningDue; (try dsimp only); (repeat' split) <;> simp
@[simp] theorem State.warningDue_tamper : (s.warningDue).tamper = s.tamper := by
  unfold State.warningDue; (try dsimp only); (repeat' split) <;> simp
@[simp] theorem State.warningDue_elapsed : (s.warningDue).elapsed = s.elapsed := by
  unfold State.warningDue; (try dsimp only); (repeat' split) <;> simp
@[simp] theorem State.warningDue_centre : (s.warningDue).centre = s.centre := by
  unfold State.warningDue; (try dsimp only); (repeat' split) <;> simp
@[simp] theorem State.warningDue_modem : (s.warningDue).modem = s.modem := by
  unfold State.warningDue; (try dsimp only); (repeat' split) <;> simp
@[simp] theorem State.warningDue_ledger : (s.warningDue).ledger = s.ledger := by
  unfold State.warningDue; (try dsimp only); (repeat' split) <;> simp
@[simp] theorem State.warningDue_power : (s.warningDue).power = s.power := by
  unfold State.warningDue; (try dsimp only); (repeat' split) <;> simp
@[simp] theorem State.warningDue_clock : (s.warningDue).clock = s.clock := by
  unfold State.warningDue; (try dsimp only); (repeat' split) <;> simp
@[simp] theorem State.warningDue_service : (s.warningDue).service = s.service := by
  unfold State.warningDue; (try dsimp only); (repeat' split) <;> simp
@[simp] theorem State.warningDue_config : (s.warningDue).config = s.config := by
  unfold State.warningDue; (try dsimp only); (repeat' split) <;> simp
@[simp] theorem State.warningDue_image0 : (s.warningDue).image0 = s.image0 := by
  unfold State.warningDue; (try dsimp only); (repeat' split) <;> simp
@[simp] theorem State.warningDue_image1 : (s.warningDue).image1 = s.image1 := by
  unfold State.warningDue; (try dsimp only); (repeat' split) <;> simp
@[simp] theorem State.warningDue_lifetime : (s.warningDue).lifetime = s.lifetime := by
  unfold State.warningDue; (try dsimp only); (repeat' split) <;> simp
@[simp] theorem State.warningDue_period : (s.warningDue).period = s.period := by
  unfold State.warningDue; (try dsimp only); (repeat' split) <;> simp
@[simp] theorem State.warningDue_history : (s.warningDue).history = s.history := by
  unfold State.warningDue; (try dsimp only); (repeat' split) <;> simp
@[simp] theorem State.warningDue_call : (s.warningDue).call = s.call := by
  unfold State.warningDue; (try dsimp only); (repeat' split) <;> simp
@[simp] theorem State.warningDue_events : (s.warningDue).events = s.events := by
  unfold State.warningDue; (try dsimp only); (repeat' split) <;> simp
@[simp] theorem State.warningDue_nv : (s.warningDue).nv = s.nv := by
  unfold State.warningDue; (try dsimp only); (repeat' split) <;> simp
@[simp] theorem State.warningDue_restores : (s.warningDue).restores = s.restores := by
  unfold State.warningDue; (try dsimp only); (repeat' split) <;> simp

@[simp] theorem State.pulse_now : (s.pulse).now = s.now := by
  unfold State.pulse; (try dsimp only); (repeat' split) <;> simp
@[simp] theorem State.pulse_pending : (s.pulse).pending = s.pending := by
  unfold State.pulse; (try dsimp only); (repeat' split) <;> simp
@[simp] theorem State.pulse_elapsed : (s.pulse).elapsed = s.elapsed := by
  unfold State.pulse; (try dsimp only); (repeat' split) <;> simp
@[simp] theorem State.pulse_power : (s.pulse).power = s.power := by
  unfold State.pulse; (try dsimp only); (repeat' split) <;> simp
@[simp] theorem State.pulse_clock : (s.pulse).clock = s.clock := by
  unfold State.pulse; (try dsimp only); (repeat' split) <;> simp
@[simp] theorem State.pulse_service : (s.pulse).service = s.service := by
  unfold State.pulse; (try dsimp only); (repeat' split) <;> simp
@[simp] theorem State.pulse_history : (s.pulse).history = s.history := by
  unfold State.pulse; (try dsimp only); (repeat' split) <;> simp
@[simp] theorem State.pulse_nv : (s.pulse).nv = s.nv := by
  unfold State.pulse; (try dsimp only); (repeat' split) <;> simp
@[simp] theorem State.pulse_restores : (s.pulse).restores = s.restores := by
  unfold State.pulse; (try dsimp only); (repeat' split) <;> simp

end Sys2Proof.Machine
end

