-- ==== Sys2Proof/Laws/Release.lean ====
section
/-!
SUPPORT. What each operation of Machine/Release.lean leaves alone: one lemma for each field of `State` that it never
touches.  What it does to the fields it touches stands in its definition.
-/

set_option linter.unusedTactic false
set_option linter.unnecessarySeqFocus false
set_option linter.unreachableTactic false

namespace Sys2Proof.Machine

variable (s : State)

@[simp] theorem State.releaseFails_now : (s.releaseFails).now = s.now := by
  unfold State.releaseFails; (try dsimp only); (repeat' split) <;> simp
@[simp] theorem State.releaseFails_pending : (s.releaseFails).pending = s.pending := by
  unfold State.releaseFails; (try dsimp only); (repeat' split) <;> simp
@[simp] theorem State.releaseFails_coin : (s.releaseFails).coin = s.coin := by
  unfold State.releaseFails; (try dsimp only); (repeat' split) <;> simp
@[simp] theorem State.releaseFails_arbiter : (s.releaseFails).arbiter = s.arbiter := by
  unfold State.releaseFails; (try dsimp only); (repeat' split) <;> simp
@[simp] theorem State.releaseFails_elapsed : (s.releaseFails).elapsed = s.elapsed := by
  unfold State.releaseFails; (try dsimp only); (repeat' split) <;> simp
@[simp] theorem State.releaseFails_centre : (s.releaseFails).centre = s.centre := by
  unfold State.releaseFails; (try dsimp only); (repeat' split) <;> simp
@[simp] theorem State.releaseFails_modem : (s.releaseFails).modem = s.modem := by
  unfold State.releaseFails; (try dsimp only); (repeat' split) <;> simp
@[simp] theorem State.releaseFails_power : (s.releaseFails).power = s.power := by
  unfold State.releaseFails; (try dsimp only); (repeat' split) <;> simp
@[simp] theorem State.releaseFails_clock : (s.releaseFails).clock = s.clock := by
  unfold State.releaseFails; (try dsimp only); (repeat' split) <;> simp
@[simp] theorem State.releaseFails_service : (s.releaseFails).service = s.service := by
  unfold State.releaseFails; (try dsimp only); (repeat' split) <;> simp
@[simp] theorem State.releaseFails_image0 : (s.releaseFails).image0 = s.image0 := by
  unfold State.releaseFails; (try dsimp only); (repeat' split) <;> simp
@[simp] theorem State.releaseFails_image1 : (s.releaseFails).image1 = s.image1 := by
  unfold State.releaseFails; (try dsimp only); (repeat' split) <;> simp
@[simp] theorem State.releaseFails_lifetime : (s.releaseFails).lifetime = s.lifetime := by
  unfold State.releaseFails; (try dsimp only); (repeat' split) <;> simp
@[simp] theorem State.releaseFails_period : (s.releaseFails).period = s.period := by
  unfold State.releaseFails; (try dsimp only); (repeat' split) <;> simp
@[simp] theorem State.releaseFails_history : (s.releaseFails).history = s.history := by
  unfold State.releaseFails; (try dsimp only); (repeat' split) <;> simp
@[simp] theorem State.releaseFails_nv : (s.releaseFails).nv = s.nv := by
  unfold State.releaseFails; (try dsimp only); (repeat' split) <;> simp
@[simp] theorem State.releaseFails_restores : (s.releaseFails).restores = s.restores := by
  unfold State.releaseFails; (try dsimp only); (repeat' split) <;> simp

@[simp] theorem State.retryFails_now : (s.retryFails).now = s.now := by
  unfold State.retryFails; (try dsimp only); (repeat' split) <;> simp
@[simp] theorem State.retryFails_pending : (s.retryFails).pending = s.pending := by
  unfold State.retryFails; (try dsimp only); (repeat' split) <;> simp
@[simp] theorem State.retryFails_coin : (s.retryFails).coin = s.coin := by
  unfold State.retryFails; (try dsimp only); (repeat' split) <;> simp
@[simp] theorem State.retryFails_rating : (s.retryFails).rating = s.rating := by
  unfold State.retryFails; (try dsimp only); (repeat' split) <;> simp
@[simp] theorem State.retryFails_line : (s.retryFails).line = s.line := by
  unfold State.retryFails; (try dsimp only); (repeat' split) <;> simp
@[simp] theorem State.retryFails_arbiter : (s.retryFails).arbiter = s.arbiter := by
  unfold State.retryFails; (try dsimp only); (repeat' split) <;> simp
@[simp] theorem State.retryFails_tamper : (s.retryFails).tamper = s.tamper := by
  unfold State.retryFails; (try dsimp only); (repeat' split) <;> simp
@[simp] theorem State.retryFails_elapsed : (s.retryFails).elapsed = s.elapsed := by
  unfold State.retryFails; (try dsimp only); (repeat' split) <;> simp
@[simp] theorem State.retryFails_centre : (s.retryFails).centre = s.centre := by
  unfold State.retryFails; (try dsimp only); (repeat' split) <;> simp
@[simp] theorem State.retryFails_modem : (s.retryFails).modem = s.modem := by
  unfold State.retryFails; (try dsimp only); (repeat' split) <;> simp
@[simp] theorem State.retryFails_ledger : (s.retryFails).ledger = s.ledger := by
  unfold State.retryFails; (try dsimp only); (repeat' split) <;> simp
@[simp] theorem State.retryFails_power : (s.retryFails).power = s.power := by
  unfold State.retryFails; (try dsimp only); (repeat' split) <;> simp
@[simp] theorem State.retryFails_clock : (s.retryFails).clock = s.clock := by
  unfold State.retryFails; (try dsimp only); (repeat' split) <;> simp
@[simp] theorem State.retryFails_setPort : (s.retryFails).setPort = s.setPort := by
  unfold State.retryFails; (try dsimp only); (repeat' split) <;> simp
@[simp] theorem State.retryFails_service : (s.retryFails).service = s.service := by
  unfold State.retryFails; (try dsimp only); (repeat' split) <;> simp
@[simp] theorem State.retryFails_config : (s.retryFails).config = s.config := by
  unfold State.retryFails; (try dsimp only); (repeat' split) <;> simp
@[simp] theorem State.retryFails_image0 : (s.retryFails).image0 = s.image0 := by
  unfold State.retryFails; (try dsimp only); (repeat' split) <;> simp
@[simp] theorem State.retryFails_image1 : (s.retryFails).image1 = s.image1 := by
  unfold State.retryFails; (try dsimp only); (repeat' split) <;> simp
@[simp] theorem State.retryFails_lifetime : (s.retryFails).lifetime = s.lifetime := by
  unfold State.retryFails; (try dsimp only); (repeat' split) <;> simp
@[simp] theorem State.retryFails_period : (s.retryFails).period = s.period := by
  unfold State.retryFails; (try dsimp only); (repeat' split) <;> simp
@[simp] theorem State.retryFails_history : (s.retryFails).history = s.history := by
  unfold State.retryFails; (try dsimp only); (repeat' split) <;> simp
@[simp] theorem State.retryFails_call : (s.retryFails).call = s.call := by
  unfold State.retryFails; (try dsimp only); (repeat' split) <;> simp
@[simp] theorem State.retryFails_events : (s.retryFails).events = s.events := by
  unfold State.retryFails; (try dsimp only); (repeat' split) <;> simp
@[simp] theorem State.retryFails_nv : (s.retryFails).nv = s.nv := by
  unfold State.retryFails; (try dsimp only); (repeat' split) <;> simp
@[simp] theorem State.retryFails_restores : (s.retryFails).restores = s.restores := by
  unfold State.retryFails; (try dsimp only); (repeat' split) <;> simp

@[simp] theorem State.unconfirmed_now : (s.unconfirmed).now = s.now := by
  unfold State.unconfirmed; (try dsimp only); (repeat' split) <;> simp
@[simp] theorem State.unconfirmed_pending : (s.unconfirmed).pending = s.pending := by
  unfold State.unconfirmed; (try dsimp only); (repeat' split) <;> simp
@[simp] theorem State.unconfirmed_coin : (s.unconfirmed).coin = s.coin := by
  unfold State.unconfirmed; (try dsimp only); (repeat' split) <;> simp
@[simp] theorem State.unconfirmed_arbiter : (s.unconfirmed).arbiter = s.arbiter := by
  unfold State.unconfirmed; (try dsimp only); (repeat' split) <;> simp
@[simp] theorem State.unconfirmed_elapsed : (s.unconfirmed).elapsed = s.elapsed := by
  unfold State.unconfirmed; (try dsimp only); (repeat' split) <;> simp
@[simp] theorem State.unconfirmed_centre : (s.unconfirmed).centre = s.centre := by
  unfold State.unconfirmed; (try dsimp only); (repeat' split) <;> simp
@[simp] theorem State.unconfirmed_modem : (s.unconfirmed).modem = s.modem := by
  unfold State.unconfirmed; (try dsimp only); (repeat' split) <;> simp
@[simp] theorem State.unconfirmed_power : (s.unconfirmed).power = s.power := by
  unfold State.unconfirmed; (try dsimp only); (repeat' split) <;> simp
@[simp] theorem State.unconfirmed_clock : (s.unconfirmed).clock = s.clock := by
  unfold State.unconfirmed; (try dsimp only); (repeat' split) <;> simp
@[simp] theorem State.unconfirmed_service : (s.unconfirmed).service = s.service := by
  unfold State.unconfirmed; (try dsimp only); (repeat' split) <;> simp
@[simp] theorem State.unconfirmed_image0 : (s.unconfirmed).image0 = s.image0 := by
  unfold State.unconfirmed; (try dsimp only); (repeat' split) <;> simp
@[simp] theorem State.unconfirmed_image1 : (s.unconfirmed).image1 = s.image1 := by
  unfold State.unconfirmed; (try dsimp only); (repeat' split) <;> simp
@[simp] theorem State.unconfirmed_lifetime : (s.unconfirmed).lifetime = s.lifetime := by
  unfold State.unconfirmed; (try dsimp only); (repeat' split) <;> simp
@[simp] theorem State.unconfirmed_period : (s.unconfirmed).period = s.period := by
  unfold State.unconfirmed; (try dsimp only); (repeat' split) <;> simp
@[simp] theorem State.unconfirmed_history : (s.unconfirmed).history = s.history := by
  unfold State.unconfirmed; (try dsimp only); (repeat' split) <;> simp
@[simp] theorem State.unconfirmed_nv : (s.unconfirmed).nv = s.nv := by
  unfold State.unconfirmed; (try dsimp only); (repeat' split) <;> simp
@[simp] theorem State.unconfirmed_restores : (s.unconfirmed).restores = s.restores := by
  unfold State.unconfirmed; (try dsimp only); (repeat' split) <;> simp

@[simp] theorem State.retryRelease_now : (s.retryRelease).now = s.now := by
  unfold State.retryRelease; (try dsimp only); (repeat' split) <;> simp
@[simp] theorem State.retryRelease_pending : (s.retryRelease).pending = s.pending := by
  unfold State.retryRelease; (try dsimp only); (repeat' split) <;> simp
@[simp] theorem State.retryRelease_coin : (s.retryRelease).coin = s.coin := by
  unfold State.retryRelease; (try dsimp only); (repeat' split) <;> simp
@[simp] theorem State.retryRelease_rating : (s.retryRelease).rating = s.rating := by
  unfold State.retryRelease; (try dsimp only); (repeat' split) <;> simp
@[simp] theorem State.retryRelease_line : (s.retryRelease).line = s.line := by
  unfold State.retryRelease; (try dsimp only); (repeat' split) <;> simp
@[simp] theorem State.retryRelease_arbiter : (s.retryRelease).arbiter = s.arbiter := by
  unfold State.retryRelease; (try dsimp only); (repeat' split) <;> simp
@[simp] theorem State.retryRelease_tamper : (s.retryRelease).tamper = s.tamper := by
  unfold State.retryRelease; (try dsimp only); (repeat' split) <;> simp
@[simp] theorem State.retryRelease_elapsed : (s.retryRelease).elapsed = s.elapsed := by
  unfold State.retryRelease; (try dsimp only); (repeat' split) <;> simp
@[simp] theorem State.retryRelease_centre : (s.retryRelease).centre = s.centre := by
  unfold State.retryRelease; (try dsimp only); (repeat' split) <;> simp
@[simp] theorem State.retryRelease_modem : (s.retryRelease).modem = s.modem := by
  unfold State.retryRelease; (try dsimp only); (repeat' split) <;> simp
@[simp] theorem State.retryRelease_ledger : (s.retryRelease).ledger = s.ledger := by
  unfold State.retryRelease; (try dsimp only); (repeat' split) <;> simp
@[simp] theorem State.retryRelease_power : (s.retryRelease).power = s.power := by
  unfold State.retryRelease; (try dsimp only); (repeat' split) <;> simp
@[simp] theorem State.retryRelease_clock : (s.retryRelease).clock = s.clock := by
  unfold State.retryRelease; (try dsimp only); (repeat' split) <;> simp
@[simp] theorem State.retryRelease_setPort : (s.retryRelease).setPort = s.setPort := by
  unfold State.retryRelease; (try dsimp only); (repeat' split) <;> simp
@[simp] theorem State.retryRelease_service : (s.retryRelease).service = s.service := by
  unfold State.retryRelease; (try dsimp only); (repeat' split) <;> simp
@[simp] theorem State.retryRelease_config : (s.retryRelease).config = s.config := by
  unfold State.retryRelease; (try dsimp only); (repeat' split) <;> simp
@[simp] theorem State.retryRelease_image0 : (s.retryRelease).image0 = s.image0 := by
  unfold State.retryRelease; (try dsimp only); (repeat' split) <;> simp
@[simp] theorem State.retryRelease_image1 : (s.retryRelease).image1 = s.image1 := by
  unfold State.retryRelease; (try dsimp only); (repeat' split) <;> simp
@[simp] theorem State.retryRelease_lifetime : (s.retryRelease).lifetime = s.lifetime := by
  unfold State.retryRelease; (try dsimp only); (repeat' split) <;> simp
@[simp] theorem State.retryRelease_period : (s.retryRelease).period = s.period := by
  unfold State.retryRelease; (try dsimp only); (repeat' split) <;> simp
@[simp] theorem State.retryRelease_history : (s.retryRelease).history = s.history := by
  unfold State.retryRelease; (try dsimp only); (repeat' split) <;> simp
@[simp] theorem State.retryRelease_call : (s.retryRelease).call = s.call := by
  unfold State.retryRelease; (try dsimp only); (repeat' split) <;> simp
@[simp] theorem State.retryRelease_events : (s.retryRelease).events = s.events := by
  unfold State.retryRelease; (try dsimp only); (repeat' split) <;> simp
@[simp] theorem State.retryRelease_nv : (s.retryRelease).nv = s.nv := by
  unfold State.retryRelease; (try dsimp only); (repeat' split) <;> simp
@[simp] theorem State.retryRelease_restores : (s.retryRelease).restores = s.restores := by
  unfold State.retryRelease; (try dsimp only); (repeat' split) <;> simp

@[simp] theorem State.setBox_now (b : Bool) : (s.setBox b).now = s.now := by
  unfold State.setBox; (try dsimp only); (repeat' split) <;> simp
@[simp] theorem State.setBox_pending (b : Bool) : (s.setBox b).pending = s.pending := by
  unfold State.setBox; (try dsimp only); (repeat' split) <;> simp
@[simp] theorem State.setBox_coin (b : Bool) : (s.setBox b).coin = s.coin := by
  unfold State.setBox; (try dsimp only); (repeat' split) <;> simp
@[simp] theorem State.setBox_rating (b : Bool) : (s.setBox b).rating = s.rating := by
  unfold State.setBox; (try dsimp only); (repeat' split) <;> simp
@[simp] theorem State.setBox_line (b : Bool) : (s.setBox b).line = s.line := by
  unfold State.setBox; (try dsimp only); (repeat' split) <;> simp
@[simp] theorem State.setBox_arbiter (b : Bool) : (s.setBox b).arbiter = s.arbiter := by
  unfold State.setBox; (try dsimp only); (repeat' split) <;> simp
@[simp] theorem State.setBox_elapsed (b : Bool) : (s.setBox b).elapsed = s.elapsed := by
  unfold State.setBox; (try dsimp only); (repeat' split) <;> simp
@[simp] theorem State.setBox_centre (b : Bool) : (s.setBox b).centre = s.centre := by
  unfold State.setBox; (try dsimp only); (repeat' split) <;> simp
@[simp] theorem State.setBox_modem (b : Bool) : (s.setBox b).modem = s.modem := by
  unfold State.setBox; (try dsimp only); (repeat' split) <;> simp
@[simp] theorem State.setBox_ledger (b : Bool) : (s.setBox b).ledger = s.ledger := by
  unfold State.setBox; (try dsimp only); (repeat' split) <;> simp
@[simp] theorem State.setBox_power (b : Bool) : (s.setBox b).power = s.power := by
  unfold State.setBox; (try dsimp only); (repeat' split) <;> simp
@[simp] theorem State.setBox_clock (b : Bool) : (s.setBox b).clock = s.clock := by
  unfold State.setBox; (try dsimp only); (repeat' split) <;> simp
@[simp] theorem State.setBox_setPort (b : Bool) : (s.setBox b).setPort = s.setPort := by
  unfold State.setBox; (try dsimp only); (repeat' split) <;> simp
@[simp] theorem State.setBox_service (b : Bool) : (s.setBox b).service = s.service := by
  unfold State.setBox; (try dsimp only); (repeat' split) <;> simp
@[simp] theorem State.setBox_config (b : Bool) : (s.setBox b).config = s.config := by
  unfold State.setBox; (try dsimp only); (repeat' split) <;> simp
@[simp] theorem State.setBox_image0 (b : Bool) : (s.setBox b).image0 = s.image0 := by
  unfold State.setBox; (try dsimp only); (repeat' split) <;> simp
@[simp] theorem State.setBox_image1 (b : Bool) : (s.setBox b).image1 = s.image1 := by
  unfold State.setBox; (try dsimp only); (repeat' split) <;> simp
@[simp] theorem State.setBox_lifetime (b : Bool) : (s.setBox b).lifetime = s.lifetime := by
  unfold State.setBox; (try dsimp only); (repeat' split) <;> simp
@[simp] theorem State.setBox_period (b : Bool) : (s.setBox b).period = s.period := by
  unfold State.setBox; (try dsimp only); (repeat' split) <;> simp
@[simp] theorem State.setBox_history (b : Bool) : (s.setBox b).history = s.history := by
  unfold State.setBox; (try dsimp only); (repeat' split) <;> simp
@[simp] theorem State.setBox_call (b : Bool) : (s.setBox b).call = s.call := by
  unfold State.setBox; (try dsimp only); (repeat' split) <;> simp
@[simp] theorem State.setBox_events (b : Bool) : (s.setBox b).events = s.events := by
  unfold State.setBox; (try dsimp only); (repeat' split) <;> simp
@[simp] theorem State.setBox_nv (b : Bool) : (s.setBox b).nv = s.nv := by
  unfold State.setBox; (try dsimp only); (repeat' split) <;> simp
@[simp] theorem State.setBox_restores (b : Bool) : (s.setBox b).restores = s.restores := by
  unfold State.setBox; (try dsimp only); (repeat' split) <;> simp

@[simp] theorem State.boxSwitch_now (b : Bool) : (s.boxSwitch b).now = s.now := by
  unfold State.boxSwitch; (try dsimp only); (repeat' split) <;> simp
@[simp] theorem State.boxSwitch_pending (b : Bool) : (s.boxSwitch b).pending = s.pending := by
  unfold State.boxSwitch; (try dsimp only); (repeat' split) <;> simp
@[simp] theorem State.boxSwitch_coin (b : Bool) : (s.boxSwitch b).coin = s.coin := by
  unfold State.boxSwitch; (try dsimp only); (repeat' split) <;> simp
@[simp] theorem State.boxSwitch_rating (b : Bool) : (s.boxSwitch b).rating = s.rating := by
  unfold State.boxSwitch; (try dsimp only); (repeat' split) <;> simp
@[simp] theorem State.boxSwitch_line (b : Bool) : (s.boxSwitch b).line = s.line := by
  unfold State.boxSwitch; (try dsimp only); (repeat' split) <;> simp
@[simp] theorem State.boxSwitch_arbiter (b : Bool) : (s.boxSwitch b).arbiter = s.arbiter := by
  unfold State.boxSwitch; (try dsimp only); (repeat' split) <;> simp
@[simp] theorem State.boxSwitch_elapsed (b : Bool) : (s.boxSwitch b).elapsed = s.elapsed := by
  unfold State.boxSwitch; (try dsimp only); (repeat' split) <;> simp
@[simp] theorem State.boxSwitch_centre (b : Bool) : (s.boxSwitch b).centre = s.centre := by
  unfold State.boxSwitch; (try dsimp only); (repeat' split) <;> simp
@[simp] theorem State.boxSwitch_modem (b : Bool) : (s.boxSwitch b).modem = s.modem := by
  unfold State.boxSwitch; (try dsimp only); (repeat' split) <;> simp
@[simp] theorem State.boxSwitch_power (b : Bool) : (s.boxSwitch b).power = s.power := by
  unfold State.boxSwitch; (try dsimp only); (repeat' split) <;> simp
@[simp] theorem State.boxSwitch_clock (b : Bool) : (s.boxSwitch b).clock = s.clock := by
  unfold State.boxSwitch; (try dsimp only); (repeat' split) <;> simp
@[simp] theorem State.boxSwitch_service (b : Bool) : (s.boxSwitch b).service = s.service := by
  unfold State.boxSwitch; (try dsimp only); (repeat' split) <;> simp
@[simp] theorem State.boxSwitch_config (b : Bool) : (s.boxSwitch b).config = s.config := by
  unfold State.boxSwitch; (try dsimp only); (repeat' split) <;> simp
@[simp] theorem State.boxSwitch_image0 (b : Bool) : (s.boxSwitch b).image0 = s.image0 := by
  unfold State.boxSwitch; (try dsimp only); (repeat' split) <;> simp
@[simp] theorem State.boxSwitch_image1 (b : Bool) : (s.boxSwitch b).image1 = s.image1 := by
  unfold State.boxSwitch; (try dsimp only); (repeat' split) <;> simp
@[simp] theorem State.boxSwitch_lifetime (b : Bool) : (s.boxSwitch b).lifetime = s.lifetime := by
  unfold State.boxSwitch; (try dsimp only); (repeat' split) <;> simp
@[simp] theorem State.boxSwitch_period (b : Bool) : (s.boxSwitch b).period = s.period := by
  unfold State.boxSwitch; (try dsimp only); (repeat' split) <;> simp
@[simp] theorem State.boxSwitch_history (b : Bool) : (s.boxSwitch b).history = s.history := by
  unfold State.boxSwitch; (try dsimp only); (repeat' split) <;> simp
@[simp] theorem State.boxSwitch_call (b : Bool) : (s.boxSwitch b).call = s.call := by
  unfold State.boxSwitch; (try dsimp only); (repeat' split) <;> simp
@[simp] theorem State.boxSwitch_nv (b : Bool) : (s.boxSwitch b).nv = s.nv := by
  unfold State.boxSwitch; (try dsimp only); (repeat' split) <;> simp
@[simp] theorem State.boxSwitch_restores (b : Bool) : (s.boxSwitch b).restores = s.restores := by
  unfold State.boxSwitch; (try dsimp only); (repeat' split) <;> simp

end Sys2Proof.Machine
end

