-- ==== Sys2Proof/Laws/Settled.lean ====
section
/-!
SUPPORT. What the tests at the end of a step do where no grant is due: they keep the ledger, the REPORT request and the release in
flight up to date, settle the power state, and nothing else.  What a release of the line and a reset without a session do.
-/

namespace Sys2Proof.Machine

variable (s : State)

/-- The REPORT review changes one flag of the line arbiter. -/
theorem State.reviewReport_arbiter :
    s.reviewReport.arbiter = { s.arbiter with reportHeld := s.reviewRoutine.wantsReport } := by
  simp [State.reviewReport, State.modArbiter]

@[simp] theorem State.reviewReport_owner : s.reviewReport.arbiter.owner = s.arbiter.owner := by
  simp [State.reviewReport]

@[simp] theorem State.reviewReport_takeBack : s.reviewReport.arbiter.takeBack = s.arbiter.takeBack := by
  simp [State.reviewReport]

@[simp] theorem State.lineFree_reviewReport : s.reviewReport.lineFree = s.lineFree := by
  simp [State.lineFree]

@[simp] theorem State.holdsActive_reviewReport : s.reviewReport.holdsActive = s.holdsActive := by
  simp [State.holdsActive]

theorem State.reviewRoutine_beforeTests : s.reviewRoutine.beforeTests = s.beforeTests := by
  unfold State.reviewRoutine
  split
  · simp [State.beforeTests, State.modCentre]
  · split <;> simp [State.beforeTests, State.modCentre]

theorem State.reviewReport_beforeTests : s.reviewReport.beforeTests = s.beforeTests := by
  have h := s.reviewRoutine_beforeTests
  simpa [State.reviewReport, State.beforeTests, State.modArbiter] using h

theorem State.startRelease_beforeTests : s.startRelease.beforeTests = s.beforeTests := by
  unfold State.startRelease; split <;> simp [State.beforeTests, State.modCredit]

theorem State.startDrain_beforeTests : s.startDrain.beforeTests = s.beforeTests := by
  unfold State.startDrain; split <;> simp [State.beforeTests, State.modNv, State.modLedger]

/-- The tests at the end of a step, one by one, in a calm state. -/
theorem State.finish_of_calm (before : State) (h : s.calm) :
    State.finish before s = s.reviewReport.startRelease.startDrain := by
  obtain ⟨hp, hl, ha, hc⟩ := h
  simp [State.finish, State.settleBlocks, State.recheckClose, State.applyGrants, State.powerReview, hp, hl, ha, hc]

/-- In a calm state the end of a step changes nothing but what `State.beforeTests` leaves out. -/
theorem State.finish_beforeTests (before : State) (h : s.calm) :
    (State.finish before s).beforeTests = s.beforeTests := by
  rw [s.finish_of_calm before h, State.startDrain_beforeTests, State.startRelease_beforeTests,
    State.reviewReport_beforeTests]

/-! ## Busy states -/

variable {s}

theorem State.running_of_busy (h : s.busy) : s.running = true := by simp [State.running, h.1]

theorem State.isActive_of_busy (h : s.busy) : s.isActive = true := by simp [State.isActive, h.1]

/-- A busy state is calm: its owner holds the line and the part ACTIVE. -/
theorem State.calm_of_busy (h : s.busy) : s.calm := by
  obtain ⟨a, b, c⟩ := h
  simp only [State.lineTaken] at b
  refine ⟨a, ?_, ?_, c⟩ <;> simp [State.lineFree, State.holdsActive, b]

/-- The end of a step that kept power state, owner and held CLOSE_PERIOD of a busy state changes nothing but what
`State.beforeTests` leaves out. -/
theorem State.finish_of_busy {t : State} (before : State) (h : s.busy) (power : t.power.state = s.power.state)
    (owner : t.arbiter.owner = s.arbiter.owner) (closing : t.service.closing = s.service.closing) :
    (State.finish before t).beforeTests = t.beforeTests :=
  t.finish_beforeTests before (State.calm_of_busy
    ⟨power.trans h.1, by simp only [State.lineTaken, owner]; exact h.2.1, closing.trans h.2.2⟩)

/-! ## States with no owner on the line -/

/-- With nobody asking for the line, the grants at the end of a step leave a state as the REPORT review left it. -/
theorem State.applyGrants_of_unclaimed (h : s.unclaimed) : s.reviewReport.applyGrants = s.reviewReport := by
  obtain ⟨-, -, -, parked, user, poll, number⟩ := h
  have held : (s.reviewRoutine.wantsReport && s.arbiter.holdOff.isNone) = false := by
    rcases number with number | number
    · simp [State.wantsReport, number]
    · cases hh : s.arbiter.holdOff
      · exact absurd hh number
      · simp
  simp only [Bool.and_eq_false_imp] at held
  have fall : s.reviewReport.fallBack = s.reviewReport := by simp [State.fallBack, s.reviewReport_arbiter, parked]
  unfold State.applyGrants State.firstGrant
  rw [fall]
  simp [s.reviewReport_arbiter, parked, user, poll]
  exact fun _ w n => absurd (held w) (by simp [n])

/-- With no owner on the line and nobody asking for it, the end of a step changes nothing but what `State.beforeTests` leaves
out. -/
theorem State.finish_of_unclaimed (before : State) (h : s.unclaimed) :
    (State.finish before s).beforeTests = s.beforeTests := by
  have grants := State.applyGrants_of_unclaimed h
  obtain ⟨running, active, closing, -⟩ := h
  have power : s.reviewReport.powerReview = s.reviewReport := by
    unfold State.powerReview
    simp only [State.isActive] at active
    cases hp : s.power.state <;> simp [hp, ← active]
  have settled : s.settleBlocks before.ledger.dirty = s.reviewReport.startRelease := by
    simp [State.settleBlocks, State.recheckClose, closing, grants, power]
  have drained : State.finish before s = s.reviewReport.startRelease.startDrain := by
    unfold State.finish
    cases hp : s.power.state <;> simp [State.running, hp] at running <;> simp [settled]
  rw [drained, State.startDrain_beforeTests, State.startRelease_beforeTests, State.reviewReport_beforeTests]

/-- The power state at the end of a step is the one that R170 gives. -/
theorem State.powerReview_settled (h : s.running = true) : s.powerReview = s.settledPower := by
  unfold State.powerReview State.settledPower
  simp only [State.running, State.isActive] at *
  cases hp : s.power.state <;> cases ha : s.holdsActive <;>
    simp_all [State.modPower, State.modCoin, CoinPath.standby]

/-- Where an owner is on the line, or nobody asks for it, the grants leave a state as the REPORT review left it. -/
theorem State.applyGrants_of_unasked (h : s.lineTaken ∨ s.unasked) : s.reviewReport.applyGrants = s.reviewReport := by
  rcases h with taken | ⟨parked, user, poll, report⟩
  · simp only [State.lineTaken] at taken
    simp [State.applyGrants, State.lineFree, taken]
  · have held : s.reviewRoutine.wantsReport = true → s.arbiter.holdOff = none → False := by
      intro wants off
      rcases report with number | on | ⟨count, resume, idle⟩
      · simp [State.wantsReport, number] at wants
      · exact on off
      · have urgent : ∀ v, s.oldestPending v = none := by
          intro v
          simp only [State.oldestPending, List.find?_eq_none]
          simp only [State.pendingCount, List.length_eq_zero_iff, List.filter_eq_nil_iff] at count
          intro r hr
          simp [count r hr]
        have routine : s.reviewRoutine = s.modCentre fun c =>
            { c with routineTimer := none, routineFor := none, routineReached := false } := by
          simp [State.reviewRoutine, urgent]
        rw [routine] at wants
        have urgent' := urgent .urgent
        have routine' := urgent .routine
        simp only [State.oldestPending, State.pendingCount] at urgent' routine' count
        simp [State.wantsReport, State.routineDue, State.placedSession, State.modCentre, State.oldestPending,
          State.pendingCount, urgent', routine', count, resume, idle] at wants
    have fall : s.reviewReport.fallBack = s.reviewReport := by simp [State.fallBack, s.reviewReport_arbiter, parked]
    unfold State.applyGrants State.firstGrant
    rw [fall]
    simp [s.reviewReport_arbiter, parked, user, poll]
    exact fun _ w off => (held w off).elim

/-- With no grant due and no CLOSE_PERIOD held, the end of a step settles the power state and changes nothing else but what
`State.beforeTests` leaves out. -/
theorem State.finish_of_unasked (before : State) (running : s.running = true) (h : s.lineTaken ∨ s.unasked)
    (closing : s.service.closing = false) : (State.finish before s).beforeTests = s.settledPower.beforeTests := by
  have grants := State.applyGrants_of_unasked h
  have settled : s.settleBlocks before.ledger.dirty = s.reviewReport.settledPower.startRelease := by
    have r : s.reviewReport.running = true := by simpa [State.running] using running
    simp [State.settleBlocks, State.recheckClose, closing, grants, State.powerReview_settled r]
  have drained : State.finish before s = s.reviewReport.settledPower.startRelease.startDrain := by
    unfold State.finish
    cases hp : s.power.state <;> simp [State.running, hp] at running <;> simp [settled]
  rw [drained, State.startDrain_beforeTests, State.startRelease_beforeTests]
  have review := s.reviewReport_beforeTests
  unfold State.settledPower
  simp only [State.holdsActive_reviewReport, State.isActive, State.reviewReport_power]
  split
  · exact review
  · split <;> simp [State.beforeTests] at review ⊢ <;> simp_all

/-! ## Release of the line and reset -/

/-- A release of a closed loop, but for an unanswered USER call that the rating unit is told of (R92). -/
theorem State.releaseLine_eq (rest : s.line.phase.atRest = false) (guard : s.line.phase ≠ .releasing)
    (user : s.line.phase = .awaitAnswer → s.line.purpose ≠ .user) : s.releaseLine = s.releasing := by
  have unanswered : (s.line.phase == .awaitAnswer && s.line.purpose == .user) = false := by
    cases hp : (s.line.phase == .awaitAnswer) <;> simp_all
  unfold State.releaseLine State.releasing LineUnit.releasedAt LineUnit.bufferReleased
  simp only [rest, unanswered]
  by_cases hr : s.line.purpose = .report ∨ s.line.purpose = .poll <;>
    simp [hr, guard, State.setPhase, State.modLine, State.modModem, State.modArbiter, State.raise,
      State.modSetPort, SetPort.notified, LineUnit.timersStopped, LineUnit.emptied, Modem.silenced, Config.pause]

/-- A reset that finds no session changes the set port's own state and nothing else (R183). -/
theorem State.resetEffects_of_noSession (line : s.line.session ≠ .opened) (centre : s.centre.phase = .idle)
    (service : s.service.session = none) :
    s.resetEffects = s.modSetPort fun p => { p with pendingSet := 0, enableSet := 0, lastReply := none } := by
  have none' : s.sessionUnderWay = false := by simp [State.sessionUnderWay, line, centre, service]
  simp [State.resetEffects, none']

/-- The end of a timer that runs to `d`, in a busy state. -/
theorem State.onExpiry_of_busy (h : s.busy) {d : Nat} {x : Timer} (hx : x = some d) (f : State → State) :
    s.onExpiry x f = s.finish (f (s.reach d)) := by
  subst hx; simp [State.onExpiry, State.whileRunning, State.running_of_busy h]

/-- The return wait entry of one rejected coin, as the statements compute it. -/
theorem CoinPath.expectReturn_eq (c : CoinPath) (n : Nat) : c.expectReturn n = { c with returnWait := c.expects 1 n } := by
  unfold CoinPath.expectReturn CoinPath.expects
  cases hj : c.jamReturn.isSet
  · by_cases hl : Config.returnWaitMax ≤ c.returnWait.length
    · have : Config.returnWaitMax - c.returnWait.length = 0 := by omega
      simp [hl, this]
    · obtain ⟨k, hk⟩ : ∃ k, Config.returnWaitMax - c.returnWait.length = k + 1 := ⟨_, (Nat.succ_pred (by omega)).symm⟩
      simp [hl, hk]
  · simp

end Sys2Proof.Machine
end

