-- ==== Sys2Proof/Laws/Supply.lean ====
section
/-!
SUPPORT. What each operation of Machine/Supply.lean leaves alone: one lemma for each field of `State` that it never
touches.  What it does to the fields it touches stands in its definition.
-/

set_option linter.unusedTactic false
set_option linter.unnecessarySeqFocus false
set_option linter.unreachableTactic false

namespace Sys2Proof.Machine

variable (s : State)

@[simp] theorem State.enterHoldup_now : (s.enterHoldup).now = s.now := by
  unfold State.enterHoldup; (try dsimp only); (repeat' split) <;> simp
@[simp] theorem State.enterHoldup_pending : (s.enterHoldup).pending = s.pending := by
  unfold State.enterHoldup; (try dsimp only); (repeat' split) <;> simp
@[simp] theorem State.enterHoldup_elapsed : (s.enterHoldup).elapsed = s.elapsed := by
  unfold State.enterHoldup; (try dsimp only); (repeat' split) <;> simp
@[simp] theorem State.enterHoldup_ledger : (s.enterHoldup).ledger = s.ledger := by
  unfold State.enterHoldup; (try dsimp only); (repeat' split) <;> simp
@[simp] theorem State.enterHoldup_clock : (s.enterHoldup).clock = s.clock := by
  unfold State.enterHoldup; (try dsimp only); (repeat' split) <;> simp
@[simp] theorem State.enterHoldup_setPort : (s.enterHoldup).setPort = s.setPort := by
  unfold State.enterHoldup; (try dsimp only); (repeat' split) <;> simp
@[simp] theorem State.enterHoldup_config : (s.enterHoldup).config = s.config := by
  unfold State.enterHoldup; (try dsimp only); (repeat' split) <;> simp
@[simp] theorem State.enterHoldup_image0 : (s.enterHoldup).image0 = s.image0 := by
  unfold State.enterHoldup; (try dsimp only); (repeat' split) <;> simp
@[simp] theorem State.enterHoldup_image1 : (s.enterHoldup).image1 = s.image1 := by
  unfold State.enterHoldup; (try dsimp only); (repeat' split) <;> simp
@[simp] theorem State.enterHoldup_lifetime : (s.enterHoldup).lifetime = s.lifetime := by
  unfold State.enterHoldup; (try dsimp only); (repeat' split) <;> simp
@[simp] theorem State.enterHoldup_period : (s.enterHoldup).period = s.period := by
  unfold State.enterHoldup; (try dsimp only); (repeat' split) <;> simp
@[simp] theorem State.enterHoldup_history : (s.enterHoldup).history = s.history := by
  unfold State.enterHoldup; (try dsimp only); (repeat' split) <;> simp
@[simp] theorem State.enterHoldup_call : (s.enterHoldup).call = s.call := by
  unfold State.enterHoldup; (try dsimp only); (repeat' split) <;> simp
@[simp] theorem State.enterHoldup_events : (s.enterHoldup).events = s.events := by
  unfold State.enterHoldup; (try dsimp only); (repeat' split) <;> simp
@[simp] theorem State.enterHoldup_nv : (s.enterHoldup).nv = s.nv := by
  unfold State.enterHoldup; (try dsimp only); (repeat' split) <;> simp
@[simp] theorem State.enterHoldup_restores : (s.enterHoldup).restores = s.restores := by
  unfold State.enterHoldup; (try dsimp only); (repeat' split) <;> simp

@[simp] theorem State.warned_now : (s.warned).now = s.now := by
  unfold State.warned; (try dsimp only); (repeat' split) <;> simp
@[simp] theorem State.warned_pending : (s.warned).pending = s.pending := by
  unfold State.warned; (try dsimp only); (repeat' split) <;> simp
@[simp] theorem State.warned_elapsed : (s.warned).elapsed = s.elapsed := by
  unfold State.warned; (try dsimp only); (repeat' split) <;> simp
@[simp] theorem State.warned_ledger : (s.warned).ledger = s.ledger := by
  unfold State.warned; (try dsimp only); (repeat' split) <;> simp
@[simp] theorem State.warned_clock : (s.warned).clock = s.clock := by
  unfold State.warned; (try dsimp only); (repeat' split) <;> simp
@[simp] theorem State.warned_setPort : (s.warned).setPort = s.setPort := by
  unfold State.warned; (try dsimp only); (repeat' split) <;> simp
@[simp] theorem State.warned_config : (s.warned).config = s.config := by
  unfold State.warned; (try dsimp only); (repeat' split) <;> simp
@[simp] theorem State.warned_image0 : (s.warned).image0 = s.image0 := by
  unfold State.warned; (try dsimp only); (repeat' split) <;> simp
@[simp] theorem State.warned_image1 : (s.warned).image1 = s.image1 := by
  unfold State.warned; (try dsimp only); (repeat' split) <;> simp
@[simp] theorem State.warned_lifetime : (s.warned).lifetime = s.lifetime := by
  unfold State.warned; (try dsimp only); (repeat' split) <;> simp
@[simp] theorem State.warned_period : (s.warned).period = s.period := by
  unfold State.warned; (try dsimp only); (repeat' split) <;> simp
@[simp] theorem State.warned_history : (s.warned).history = s.history := by
  unfold State.warned; (try dsimp only); (repeat' split) <;> simp
@[simp] theorem State.warned_call : (s.warned).call = s.call := by
  unfold State.warned; (try dsimp only); (repeat' split) <;> simp
@[simp] theorem State.warned_events : (s.warned).events = s.events := by
  unfold State.warned; (try dsimp only); (repeat' split) <;> simp
@[simp] theorem State.warned_nv : (s.warned).nv = s.nv := by
  unfold State.warned; (try dsimp only); (repeat' split) <;> simp
@[simp] theorem State.warned_restores : (s.warned).restores = s.restores := by
  unfold State.warned; (try dsimp only); (repeat' split) <;> simp

@[simp] theorem State.enterOff_now : (s.enterOff).now = s.now := by
  unfold State.enterOff; (try dsimp only); (repeat' split) <;> simp
@[simp] theorem State.enterOff_pending : (s.enterOff).pending = s.pending := by
  unfold State.enterOff; (try dsimp only); (repeat' split) <;> simp
@[simp] theorem State.enterOff_coin : (s.enterOff).coin = s.coin := by
  unfold State.enterOff; (try dsimp only); (repeat' split) <;> simp
@[simp] theorem State.enterOff_credit : (s.enterOff).credit = s.credit := by
  unfold State.enterOff; (try dsimp only); (repeat' split) <;> simp
@[simp] theorem State.enterOff_rating : (s.enterOff).rating = s.rating := by
  unfold State.enterOff; (try dsimp only); (repeat' split) <;> simp
@[simp] theorem State.enterOff_line : (s.enterOff).line = s.line := by
  unfold State.enterOff; (try dsimp only); (repeat' split) <;> simp
@[simp] theorem State.enterOff_arbiter : (s.enterOff).arbiter = s.arbiter := by
  unfold State.enterOff; (try dsimp only); (repeat' split) <;> simp
@[simp] theorem State.enterOff_tamper : (s.enterOff).tamper = s.tamper := by
  unfold State.enterOff; (try dsimp only); (repeat' split) <;> simp
@[simp] theorem State.enterOff_elapsed : (s.enterOff).elapsed = s.elapsed := by
  unfold State.enterOff; (try dsimp only); (repeat' split) <;> simp
@[simp] theorem State.enterOff_centre : (s.enterOff).centre = s.centre := by
  unfold State.enterOff; (try dsimp only); (repeat' split) <;> simp
@[simp] theorem State.enterOff_modem : (s.enterOff).modem = s.modem := by
  unfold State.enterOff; (try dsimp only); (repeat' split) <;> simp
@[simp] theorem State.enterOff_setPort : (s.enterOff).setPort = s.setPort := by
  unfold State.enterOff; (try dsimp only); (repeat' split) <;> simp
@[simp] theorem State.enterOff_service : (s.enterOff).service = s.service := by
  unfold State.enterOff; (try dsimp only); (repeat' split) <;> simp
@[simp] theorem State.enterOff_config : (s.enterOff).config = s.config := by
  unfold State.enterOff; (try dsimp only); (repeat' split) <;> simp
@[simp] theorem State.enterOff_image0 : (s.enterOff).image0 = s.image0 := by
  unfold State.enterOff; (try dsimp only); (repeat' split) <;> simp
@[simp] theorem State.enterOff_image1 : (s.enterOff).image1 = s.image1 := by
  unfold State.enterOff; (try dsimp only); (repeat' split) <;> simp
@[simp] theorem State.enterOff_lifetime : (s.enterOff).lifetime = s.lifetime := by
  unfold State.enterOff; (try dsimp only); (repeat' split) <;> simp
@[simp] theorem State.enterOff_period : (s.enterOff).period = s.period := by
  unfold State.enterOff; (try dsimp only); (repeat' split) <;> simp
@[simp] theorem State.enterOff_history : (s.enterOff).history = s.history := by
  unfold State.enterOff; (try dsimp only); (repeat' split) <;> simp
@[simp] theorem State.enterOff_call : (s.enterOff).call = s.call := by
  unfold State.enterOff; (try dsimp only); (repeat' split) <;> simp
@[simp] theorem State.enterOff_events : (s.enterOff).events = s.events := by
  unfold State.enterOff; (try dsimp only); (repeat' split) <;> simp
@[simp] theorem State.enterOff_nv : (s.enterOff).nv = s.nv := by
  unfold State.enterOff; (try dsimp only); (repeat' split) <;> simp
@[simp] theorem State.enterOff_restores : (s.enterOff).restores = s.restores := by
  unfold State.enterOff; (try dsimp only); (repeat' split) <;> simp

@[simp] theorem State.restartLockout_now : (s.restartLockout).now = s.now := by
  unfold State.restartLockout; (try dsimp only); (repeat' split) <;> simp
@[simp] theorem State.restartLockout_pending : (s.restartLockout).pending = s.pending := by
  unfold State.restartLockout; (try dsimp only); (repeat' split) <;> simp
@[simp] theorem State.restartLockout_coin : (s.restartLockout).coin = s.coin := by
  unfold State.restartLockout; (try dsimp only); (repeat' split) <;> simp
@[simp] theorem State.restartLockout_credit : (s.restartLockout).credit = s.credit := by
  unfold State.restartLockout; (try dsimp only); (repeat' split) <;> simp
@[simp] theorem State.restartLockout_rating : (s.restartLockout).rating = s.rating := by
  unfold State.restartLockout; (try dsimp only); (repeat' split) <;> simp
@[simp] theorem State.restartLockout_line : (s.restartLockout).line = s.line := by
  unfold State.restartLockout; (try dsimp only); (repeat' split) <;> simp
@[simp] theorem State.restartLockout_arbiter : (s.restartLockout).arbiter = s.arbiter := by
  unfold State.restartLockout; (try dsimp only); (repeat' split) <;> simp
@[simp] theorem State.restartLockout_tamper : (s.restartLockout).tamper = s.tamper := by
  unfold State.restartLockout; (try dsimp only); (repeat' split) <;> simp
@[simp] theorem State.restartLockout_elapsed : (s.restartLockout).elapsed = s.elapsed := by
  unfold State.restartLockout; (try dsimp only); (repeat' split) <;> simp
@[simp] theorem State.restartLockout_centre : (s.restartLockout).centre = s.centre := by
  unfold State.restartLockout; (try dsimp only); (repeat' split) <;> simp
@[simp] theorem State.restartLockout_modem : (s.restartLockout).modem = s.modem := by
  unfold State.restartLockout; (try dsimp only); (repeat' split) <;> simp
@[simp] theorem State.restartLockout_ledger : (s.restartLockout).ledger = s.ledger := by
  unfold State.restartLockout; (try dsimp only); (repeat' split) <;> simp
@[simp] theorem State.restartLockout_power : (s.restartLockout).power = s.power := by
  unfold State.restartLockout; (try dsimp only); (repeat' split) <;> simp
@[simp] theorem State.restartLockout_clock : (s.restartLockout).clock = s.clock := by
  unfold State.restartLockout; (try dsimp only); (repeat' split) <;> simp
@[simp] theorem State.restartLockout_setPort : (s.restartLockout).setPort = s.setPort := by
  unfold State.restartLockout; (try dsimp only); (repeat' split) <;> simp
@[simp] theorem State.restartLockout_config : (s.restartLockout).config = s.config := by
  unfold State.restartLockout; (try dsimp only); (repeat' split) <;> simp
@[simp] theorem State.restartLockout_image0 : (s.restartLockout).image0 = s.image0 := by
  unfold State.restartLockout; (try dsimp only); (repeat' split) <;> simp
@[simp] theorem State.restartLockout_image1 : (s.restartLockout).image1 = s.image1 := by
  unfold State.restartLockout; (try dsimp only); (repeat' split) <;> simp
@[simp] theorem State.restartLockout_lifetime : (s.restartLockout).lifetime = s.lifetime := by
  unfold State.restartLockout; (try dsimp only); (repeat' split) <;> simp
@[simp] theorem State.restartLockout_period : (s.restartLockout).period = s.period := by
  unfold State.restartLockout; (try dsimp only); (repeat' split) <;> simp
@[simp] theorem State.restartLockout_history : (s.restartLockout).history = s.history := by
  unfold State.restartLockout; (try dsimp only); (repeat' split) <;> simp
@[simp] theorem State.restartLockout_call : (s.restartLockout).call = s.call := by
  unfold State.restartLockout; (try dsimp only); (repeat' split) <;> simp
@[simp] theorem State.restartLockout_events : (s.restartLockout).events = s.events := by
  unfold State.restartLockout; (try dsimp only); (repeat' split) <;> simp
@[simp] theorem State.restartLockout_nv : (s.restartLockout).nv = s.nv := by
  unfold State.restartLockout; (try dsimp only); (repeat' split) <;> simp
@[simp] theorem State.restartLockout_restores : (s.restartLockout).restores = s.restores := by
  unfold State.restartLockout; (try dsimp only); (repeat' split) <;> simp

@[simp] theorem State.secondPasses_pending : (s.secondPasses).pending = s.pending := by
  unfold State.secondPasses; (try dsimp only); (repeat' split) <;> simp
@[simp] theorem State.secondPasses_coin : (s.secondPasses).coin = s.coin := by
  unfold State.secondPasses; (try dsimp only); (repeat' split) <;> simp
@[simp] theorem State.secondPasses_credit : (s.secondPasses).credit = s.credit := by
  unfold State.secondPasses; (try dsimp only); (repeat' split) <;> simp
@[simp] theorem State.secondPasses_rating : (s.secondPasses).rating = s.rating := by
  unfold State.secondPasses; (try dsimp only); (repeat' split) <;> simp
@[simp] theorem State.secondPasses_line : (s.secondPasses).line = s.line := by
  unfold State.secondPasses; (try dsimp only); (repeat' split) <;> simp
@[simp] theorem State.secondPasses_arbiter : (s.secondPasses).arbiter = s.arbiter := by
  unfold State.secondPasses; (try dsimp only); (repeat' split) <;> simp
@[simp] theorem State.secondPasses_tamper : (s.secondPasses).tamper = s.tamper := by
  unfold State.secondPasses; (try dsimp only); (repeat' split) <;> simp
@[simp] theorem State.secondPasses_centre : (s.secondPasses).centre = s.centre := by
  unfold State.secondPasses; (try dsimp only); (repeat' split) <;> simp
@[simp] theorem State.secondPasses_modem : (s.secondPasses).modem = s.modem := by
  unfold State.secondPasses; (try dsimp only); (repeat' split) <;> simp
@[simp] theorem State.secondPasses_ledger : (s.secondPasses).ledger = s.ledger := by
  unfold State.secondPasses; (try dsimp only); (repeat' split) <;> simp
@[simp] theorem State.secondPasses_power : (s.secondPasses).power = s.power := by
  unfold State.secondPasses; (try dsimp only); (repeat' split) <;> simp
@[simp] theorem State.secondPasses_setPort : (s.secondPasses).setPort = s.setPort := by
  unfold State.secondPasses; (try dsimp only); (repeat' split) <;> simp
@[simp] theorem State.secondPasses_service : (s.secondPasses).service = s.service := by
  unfold State.secondPasses; (try dsimp only); (repeat' split) <;> simp
@[simp] theorem State.secondPasses_config : (s.secondPasses).config = s.config := by
  unfold State.secondPasses; (try dsimp only); (repeat' split) <;> simp
@[simp] theorem State.secondPasses_image0 : (s.secondPasses).image0 = s.image0 := by
  unfold State.secondPasses; (try dsimp only); (repeat' split) <;> simp
@[simp] theorem State.secondPasses_image1 : (s.secondPasses).image1 = s.image1 := by
  unfold State.secondPasses; (try dsimp only); (repeat' split) <;> simp
@[simp] theorem State.secondPasses_lifetime : (s.secondPasses).lifetime = s.lifetime := by
  unfold State.secondPasses; (try dsimp only); (repeat' split) <;> simp
@[simp] theorem State.secondPasses_period : (s.secondPasses).period = s.period := by
  unfold State.secondPasses; (try dsimp only); (repeat' split) <;> simp
@[simp] theorem State.secondPasses_history : (s.secondPasses).history = s.history := by
  unfold State.secondPasses; (try dsimp only); (repeat' split) <;> simp
@[simp] theorem State.secondPasses_call : (s.secondPasses).call = s.call := by
  unfold State.secondPasses; (try dsimp only); (repeat' split) <;> simp
@[simp] theorem State.secondPasses_events : (s.secondPasses).events = s.events := by
  unfold State.secondPasses; (try dsimp only); (repeat' split) <;> simp
@[simp] theorem State.secondPasses_nv : (s.secondPasses).nv = s.nv := by
  unfold State.secondPasses; (try dsimp only); (repeat' split) <;> simp
@[simp] theorem State.secondPasses_restores : (s.secondPasses).restores = s.restores := by
  unfold State.secondPasses; (try dsimp only); (repeat' split) <;> simp

@[simp] theorem State.takeDaily_now : (s.takeDaily).now = s.now := by
  unfold State.takeDaily; (try dsimp only); (repeat' split) <;> simp
@[simp] theorem State.takeDaily_pending : (s.takeDaily).pending = s.pending := by
  unfold State.takeDaily; (try dsimp only); (repeat' split) <;> simp
@[simp] theorem State.takeDaily_coin : (s.takeDaily).coin = s.coin := by
  unfold State.takeDaily; (try dsimp only); (repeat' split) <;> simp
@[simp] theorem State.takeDaily_credit : (s.takeDaily).credit = s.credit := by
  unfold State.takeDaily; (try dsimp only); (repeat' split) <;> simp
@[simp] theorem State.takeDaily_rating : (s.takeDaily).rating = s.rating := by
  unfold State.takeDaily; (try dsimp only); (repeat' split) <;> simp
@[simp] theorem State.takeDaily_line : (s.takeDaily).line = s.line := by
  unfold State.takeDaily; (try dsimp only); (repeat' split) <;> simp
@[simp] theorem State.takeDaily_arbiter : (s.takeDaily).arbiter = s.arbiter := by
  unfold State.takeDaily; (try dsimp only); (repeat' split) <;> simp
@[simp] theorem State.takeDaily_tamper : (s.takeDaily).tamper = s.tamper := by
  unfold State.takeDaily; (try dsimp only); (repeat' split) <;> simp
@[simp] theorem State.takeDaily_elapsed : (s.takeDaily).elapsed = s.elapsed := by
  unfold State.takeDaily; (try dsimp only); (repeat' split) <;> simp
@[simp] theorem State.takeDaily_modem : (s.takeDaily).modem = s.modem := by
  unfold State.takeDaily; (try dsimp only); (repeat' split) <;> simp
@[simp] theorem State.takeDaily_ledger : (s.takeDaily).ledger = s.ledger := by
  unfold State.takeDaily; (try dsimp only); (repeat' split) <;> simp
@[simp] theorem State.takeDaily_power : (s.takeDaily).power = s.power := by
  unfold State.takeDaily; (try dsimp only); (repeat' split) <;> simp
@[simp] theorem State.takeDaily_clock : (s.takeDaily).clock = s.clock := by
  unfold State.takeDaily; (try dsimp only); (repeat' split) <;> simp
@[simp] theorem State.takeDaily_setPort : (s.takeDaily).setPort = s.setPort := by
  unfold State.takeDaily; (try dsimp only); (repeat' split) <;> simp
@[simp] theorem State.takeDaily_service : (s.takeDaily).service = s.service := by
  unfold State.takeDaily; (try dsimp only); (repeat' split) <;> simp
@[simp] theorem State.takeDaily_config : (s.takeDaily).config = s.config := by
  unfold State.takeDaily; (try dsimp only); (repeat' split) <;> simp
@[simp] theorem State.takeDaily_image0 : (s.takeDaily).image0 = s.image0 := by
  unfold State.takeDaily; (try dsimp only); (repeat' split) <;> simp
@[simp] theorem State.takeDaily_image1 : (s.takeDaily).image1 = s.image1 := by
  unfold State.takeDaily; (try dsimp only); (repeat' split) <;> simp
@[simp] theorem State.takeDaily_lifetime : (s.takeDaily).lifetime = s.lifetime := by
  unfold State.takeDaily; (try dsimp only); (repeat' split) <;> simp
@[simp] theorem State.takeDaily_period : (s.takeDaily).period = s.period := by
  unfold State.takeDaily; (try dsimp only); (repeat' split) <;> simp
@[simp] theorem State.takeDaily_history : (s.takeDaily).history = s.history := by
  unfold State.takeDaily; (try dsimp only); (repeat' split) <;> simp
@[simp] theorem State.takeDaily_call : (s.takeDaily).call = s.call := by
  unfold State.takeDaily; (try dsimp only); (repeat' split) <;> simp
@[simp] theorem State.takeDaily_events : (s.takeDaily).events = s.events := by
  unfold State.takeDaily; (try dsimp only); (repeat' split) <;> simp
@[simp] theorem State.takeDaily_nv : (s.takeDaily).nv = s.nv := by
  unfold State.takeDaily; (try dsimp only); (repeat' split) <;> simp
@[simp] theorem State.takeDaily_restores : (s.takeDaily).restores = s.restores := by
  unfold State.takeDaily; (try dsimp only); (repeat' split) <;> simp

@[simp] theorem State.writeDone_now (w : SectionWrite) : (s.writeDone w).now = s.now := by
  unfold State.writeDone; (try dsimp only); (repeat' split) <;> simp
@[simp] theorem State.writeDone_pending (w : SectionWrite) : (s.writeDone w).pending = s.pending := by
  unfold State.writeDone; (try dsimp only); (repeat' split) <;> simp
@[simp] theorem State.writeDone_coin (w : SectionWrite) : (s.writeDone w).coin = s.coin := by
  unfold State.writeDone; (try dsimp only); (repeat' split) <;> simp
@[simp] theorem State.writeDone_credit (w : SectionWrite) : (s.writeDone w).credit = s.credit := by
  unfold State.writeDone; (try dsimp only); (repeat' split) <;> simp
@[simp] theorem State.writeDone_arbiter (w : SectionWrite) : (s.writeDone w).arbiter = s.arbiter := by
  unfold State.writeDone; (try dsimp only); (repeat' split) <;> simp
@[simp] theorem State.writeDone_elapsed (w : SectionWrite) : (s.writeDone w).elapsed = s.elapsed := by
  unfold State.writeDone; (try dsimp only); (repeat' split) <;> simp
@[simp] theorem State.writeDone_centre (w : SectionWrite) : (s.writeDone w).centre = s.centre := by
  unfold State.writeDone; (try dsimp only); (repeat' split) <;> simp
@[simp] theorem State.writeDone_modem (w : SectionWrite) : (s.writeDone w).modem = s.modem := by
  unfold State.writeDone; (try dsimp only); (repeat' split) <;> simp
@[simp] theorem State.writeDone_power (w : SectionWrite) : (s.writeDone w).power = s.power := by
  unfold State.writeDone; (try dsimp only); (repeat' split) <;> simp
@[simp] theorem State.writeDone_clock (w : SectionWrite) : (s.writeDone w).clock = s.clock := by
  unfold State.writeDone; (try dsimp only); (repeat' split) <;> simp
@[simp] theorem State.writeDone_image0 (w : SectionWrite) : (s.writeDone w).image0 = s.image0 := by
  unfold State.writeDone; (try dsimp only); (repeat' split) <;> simp
@[simp] theorem State.writeDone_image1 (w : SectionWrite) : (s.writeDone w).image1 = s.image1 := by
  unfold State.writeDone; (try dsimp only); (repeat' split) <;> simp
@[simp] theorem State.writeDone_lifetime (w : SectionWrite) : (s.writeDone w).lifetime = s.lifetime := by
  unfold State.writeDone; (try dsimp only); (repeat' split) <;> simp
@[simp] theorem State.writeDone_restores (w : SectionWrite) : (s.writeDone w).restores = s.restores := by
  unfold State.writeDone; (try dsimp only); (repeat' split) <;> simp

end Sys2Proof.Machine
end

