-- ==== Sys2Proof/Laws/Validation.lean ====
section
/-!
SUPPORT. What each check of the validation of a tariff image says, by the block map of section 12.6 (R53, R193).
-/

namespace Sys2Proof.Machine

variable (m : List Host.Cell)

/-- The first check: every block is loaded. -/
theorem loaded_all_iff (l : BitVec 16) : l = 0xFFFF#16 ↔ ∀ k < 16, maskHas l k = true := by
  constructor
  · rintro rfl; decide
  · intro loaded
    have full : ∀ k < 16, (0xFFFF#16).getLsbD k = true := by decide
    refine BitVec.eq_of_getLsbD_eq fun i hi => ?_
    rw [full i hi]; exact loaded i hi

/-- The second check: the check word is the CRC of the other bytes. -/
theorem checkWord_iff_imageCheck : checkWord m = (crc16 (checkedBytes m)).toNat ↔ ImageCheck m := by
  simp [checkWord, checkedBytes, ImageCheck, memHalf]

theorem coinClassAddress_eq (k : Nat) : coinClassAddress k = if k < 5 then 64 + 12 * k else 128 + 12 * (k - 5) := rfl

theorem prefixEntryAddress_eq (i : Nat) (_ : i < 48) : 64 * (9 + i / 8) + 8 * (i % 8) = 576 + 8 * i := by omega

theorem nibbleAt_eq_entryDigit (a n : Nat) : nibbleAt m (a + 1) n = entryDigit m a n := by
  simp [nibbleAt, entryDigit, memNat, Nat.add_assoc]

theorem prefixEntryAt_used (i : Nat) (h : i < 48) :
    (prefixEntryAt m i).used = (memRead m (576 + 8 * i)).getLsbD 7 := by
  simp [prefixEntryAt, prefixEntryAddress_eq i h]

/-- The third check, of the header's fields. -/
theorem headerInRange_iff :
    headerInRange m = true ↔
      (1 ≤ (memRead m 0).toNat * 256 + (memRead m (0 + 1)).toNat ∧ (memRead m 2).toNat ≤ 2 ∧
        5 ≤ (memRead m 3).toNat ∧ (memRead m 3).toNat ≤ 60 ∧ (memRead m 4).toNat ≤ 1 ∧
        1 ≤ (memRead m 5).toNat ∧ (memRead m 5).toNat ≤ 100 ∧
        5 ≤ (memRead m 6).toNat ∧ (memRead m 6).toNat ≤ 60 ∧ (memRead m 7).toNat ≤ 15) := by
  have := (memRead m 0).isLt
  have := (memRead m 1).isLt
  simp only [headerInRange, Sys2Proof.Machine.inRange, Bool.and_eq_true, decide_eq_true_eq]
  unfold imageId answerModeCode imageAnswerDelay dialMethodCode imageGranule imageWarningLead imageDefaultClass memHalf memNat
  omega

/-- The third check, of a tariff class. -/
theorem tariffClassInRange_iff (id : Nat) :
    (tariffClassAt m id).inRange = true ↔
      let half (a : Nat) : Nat := (memRead m a).toNat * 256 + (memRead m (a + 1)).toNat
      let a := 64 * (3 + id / 3) + 19 * (id % 3)
      half a ≤ 9999 ∧ 1 ≤ half (a + 2) ∧ half (a + 2) ≤ 3600 ∧ half (a + 4) ≤ 9999 ∧ 1 ≤ half (a + 6) ∧
        half (a + 6) ≤ 3600 ∧ half (a + 8) ≤ 9999 ∧
        (∀ k < 4, 25 ≤ half (a + 10 + 2 * k) ∧ half (a + 10 + 2 * k) ≤ 400) ∧
        (id = 0 → (memRead m (a + 18)).getLsbD 0 = false) := by
  have four : ∀ P : Nat → Prop, (∀ k < 4, P k) ↔ P 0 ∧ P 1 ∧ P 2 ∧ P 3 := by
    intro P
    refine ⟨fun h => ⟨h 0 (by omega), h 1 (by omega), h 2 (by omega), h 3 (by omega)⟩, ?_⟩
    rintro ⟨a, b, c, d⟩ k hk
    have : k = 0 ∨ k = 1 ∨ k = 2 ∨ k = 3 := by omega
    rcases this with rfl | rfl | rfl | rfl <;> assumption
  have factors : ∀ a b c d : Nat, (#v[a, b, c, d] : Vector Nat 4).toList.all (inRange 25 400) = true ↔
      (25 ≤ a ∧ a ≤ 400) ∧ (25 ≤ b ∧ b ≤ 400) ∧ (25 ≤ c ∧ c ≤ 400) ∧ (25 ≤ d ∧ d ≤ 400) := by
    intro a b c d; simp [inRange]
  have notBarred : ∀ q : Bool, (!(id == 0 && q)) = true ↔ (id = 0 → q = false) := by
    intro q; by_cases e : id = 0 <;> cases q <;> simp [e]
  dsimp only
  rw [four]
  simp only [TariffClass.inRange, tariffClassAt, tariffClassAddress, Bool.and_eq_true, factors, notBarred]
  simp only [inRange, memHalf, Bool.and_eq_true, decide_eq_true_eq, Nat.add_assoc, Nat.mul_zero, Nat.add_zero, Nat.mul_one,
    Nat.reduceMul, Nat.reduceAdd, Nat.zero_le, true_and, and_assoc]

/-- The third check, of a prefix entry. -/
theorem prefixEntryInRange_iff (i : Nat) (hi : i < 48) :
    (prefixEntryAt m i).inRange = true ↔
      let a := 576 + 8 * i
      1 ≤ (memRead m a).toNat % 16 ∧ (memRead m a).toNat % 16 ≤ 12 ∧
        (∀ n < (memRead m a).toNat % 16, entryDigit m a n ≤ 10) ∧ (memRead m (a + 7)).toNat ≤ 15 := by
  simp only [PrefixEntry.inRange, prefixEntryAt, prefixEntryAddress_eq i hi, inRange, Bool.and_eq_true, decide_eq_true_eq,
    List.all_eq_true, List.mem_map, List.mem_range, memNat]
  constructor
  · rintro ⟨⟨⟨a, b⟩, c⟩, d, e⟩
    refine ⟨a, b, fun n hn => ?_, e⟩
    rw [← nibbleAt_eq_entryDigit]; exact (c _ ⟨n, by omega, rfl⟩).2
  · rintro ⟨a, b, c, e⟩
    refine ⟨⟨⟨a, b⟩, ?_⟩, by omega, e⟩
    rintro x ⟨n, hn, rfl⟩
    rw [nibbleAt_eq_entryDigit]; exact ⟨by omega, c n (by omega)⟩

/-- The third check. -/
theorem fieldsInRange_iff_imageFields : fieldsInRange m = true ↔ ImageFields m := by
  unfold fieldsInRange ImageFields
  simp only [Bool.and_eq_true, and_assoc]
  rw [headerInRange_iff]
  simp only [and_assoc]
  iterate 10 refine and_congr Iff.rfl ?_
  refine and_congr ?_ (and_congr ?_ (and_congr ?_ ?_))
  · simp only [List.all_eq_true, List.mem_range]
    exact forall_congr' fun id => imp_congr Iff.rfl (tariffClassInRange_iff m id)
  · simp only [enabledClasses, List.all_eq_true, List.mem_filter, List.mem_map, List.mem_range]
    constructor
    · intro h k hk he
      have := h (coinClassAt m k) ⟨⟨k, hk, rfl⟩, by simpa [coinClassAt, coinClassAddress_eq] using he⟩
      simpa [inRange, coinClassAt, coinClassAddress_eq, memHalf] using this
    · rintro h c ⟨⟨k, hk, rfl⟩, he⟩
      have := h k hk (by simpa [coinClassAt, coinClassAddress_eq] using he)
      simpa [inRange, coinClassAt, coinClassAddress_eq, memHalf] using this
  · simp only [usedEntries, List.all_eq_true, List.mem_filter, List.mem_map, List.mem_range]
    constructor
    · intro h i hi hu
      exact (prefixEntryInRange_iff m i hi).1 (h _ ⟨⟨i, hi, rfl⟩, by rw [prefixEntryAt_used m i hi]; exact hu⟩)
    · rintro h c ⟨⟨i, hi, rfl⟩, he⟩
      exact (prefixEntryInRange_iff m i hi).2 (h i hi (by rw [← prefixEntryAt_used m i hi]; exact he))
  · simp only [usedPoints, List.all_eq_true, List.mem_filter, List.mem_map, List.mem_range]
    constructor
    · intro h i hi hu
      have := h _ ⟨⟨i, hi, rfl⟩, by simpa [bandPointAt] using hu⟩
      simp [BandPoint.inRange, inRange, bandPointAt, memNat, memHalf] at this
      exact ⟨this.1.1, this.1.2⟩
    · rintro h c ⟨⟨i, hi, rfl⟩, he⟩
      have := h i hi (by simpa [bandPointAt] using he)
      simp [BandPoint.inRange, inRange, bandPointAt, memNat, memHalf]
      exact ⟨⟨this.1, this.2⟩, by omega⟩

/-- The fourth check. -/
theorem windowsOrdered_iff_imageWindows : windowsOrdered m = true ↔ ImageWindows m := by
  simp only [windowsOrdered, enabledClasses, ImageWindows, List.all_eq_true, List.mem_filter, List.mem_map, List.mem_range]
  constructor
  · intro h k hk he w hw
    have := h (coinClassAt m k) ⟨⟨k, hk, rfl⟩, by simpa [coinClassAt, coinClassAddress_eq] using he⟩
    simp [coinClassAt, windowAt, coinClassAddress_eq, memNat] at this
    obtain ⟨⟨a, b⟩, c⟩ := this
    have : w = 0 ∨ w = 1 ∨ w = 2 := by omega
    rcases this with rfl | rfl | rfl
    · simpa using a
    · simpa [Nat.add_assoc] using b
    · simpa [Nat.add_assoc] using c
  · rintro h c ⟨⟨k, hk, rfl⟩, he⟩
    have := h k hk (by simpa [coinClassAt, coinClassAddress_eq] using he)
    have first := this 0 (by omega)
    have second := this 1 (by omega)
    have third := this 2 (by omega)
    simp [coinClassAt, windowAt, coinClassAddress_eq, memNat]
    exact ⟨⟨first, second⟩, third⟩

theorem noDuplicates_iff_pairwise (l : List PrefixEntry) :
    noDuplicates l = true ↔ l.Pairwise fun e f => ¬(e.count = f.count ∧ e.digits = f.digits) := by
  induction l with
  | nil => simp [noDuplicates]
  | cons e r ih =>
    have : noDuplicates (e :: r) = true ↔
        (∀ x ∈ r, ¬(e.count = x.count ∧ e.digits = x.digits)) ∧ noDuplicates r = true := by
      simp only [noDuplicates, Bool.and_eq_true]
      refine and_congr_left fun _ => ?_
      simp [imp_iff_not_or]
    rw [this, ih, List.pairwise_cons]

/-- The fifth check, in an image that passes the third. -/
theorem noDuplicates_iff_imageEntriesDiffer (fields : ImageFields m) :
    noDuplicates (usedEntries m) = true ↔ ImageEntriesDiffer m := by
  rw [noDuplicates_iff_pairwise]
  unfold usedEntries
  rw [List.pairwise_filter, List.pairwise_map, List.pairwise_iff_getElem]
  simp only [List.length_range, List.getElem_range, ImageEntriesDiffer]
  obtain ⟨-, -, -, entries, -⟩ := fields
  constructor
  · intro h j hj i hi ui uj hc
    rw [← prefixEntryAt_used m i (by omega)] at ui
    rw [← prefixEntryAt_used m j hj] at uj
    by_contra differ
    push Not at differ
    refine h i j (by omega) hj hi ui uj ?_
    have count := (entries i (by omega) (by rw [← prefixEntryAt_used m i (by omega)]; exact ui)).2.1
    simp only [prefixEntryAt, prefixEntryAddress_eq i (by omega : i < 48), prefixEntryAddress_eq j hj, memNat, ← hc, true_and]
    refine List.map_congr_left fun n hn => ?_
    rw [nibbleAt_eq_entryDigit, nibbleAt_eq_entryDigit]; exact differ n (by simp only [List.mem_range] at hn; omega)
  · intro h i j hi hj hij ui uj same
    rw [prefixEntryAt_used m i hi] at ui
    rw [prefixEntryAt_used m j hj] at uj
    simp only [prefixEntryAt, prefixEntryAddress_eq i hi, prefixEntryAddress_eq j hj, memNat] at same
    obtain ⟨hc, hd⟩ := same
    obtain ⟨n, hn, differ⟩ := h j hj i hij ui uj hc
    have count := (entries i hi ui).2.1
    rw [← hc] at hd
    have := (List.map_inj_left.mp hd) n (by simp only [List.mem_range]; simp only [] at count; omega)
    rw [nibbleAt_eq_entryDigit, nibbleAt_eq_entryDigit] at this
    exact differ this

end Sys2Proof.Machine
end

