-- ==== Sys2Proof/Tests/Slice0.lean ====
section
/-!
SUPPORT. Our own tests: the terms that WellFormed refuses, the worked examples of the spec that one step or one operation
shows, and for every statement of the certificate with hypotheses a state and operands that meet them.
-/

namespace Sys2Proof.Tests

open Sys2Proof Sys2Proof.Machine

/-! ## The image of the examples of R5, R58 and section 3.6, with id 310, granule 5, lead 20 s and default class 4 -/

/-- Header and coin classes 3, 4 and 6 (R5's example). -/
def headerCells : List Host.Cell :=
  [(0, 1), (1, 54), (3, 20), (5, 5), (6, 20), (7, 4), (89, 50), (90, 1), (91, 140), (92, 160), (93, 3), (94, 60), (95,
    90), (96, 1), (97, 10), (98, 40), (99, 2), (101, 100), (102, 1), (103, 155), (104, 175), (105, 3), (106, 60), (107,
    90), (108, 3), (109, 10), (110, 40), (111, 2), (129, 100), (130, 1), (131, 150), (132, 170), (133, 3), (134, 70),
    (135, 80), (136, 3), (137, 20), (138, 30), (139, 3)]

/-- Tariff classes: class 1 with the charges of R64's example, class 2 with deposit 120, class 15 BARRED. -/
def classCells : List Host.Cell :=
  [(195, 60), (199, 60), (203, 100), (205, 100), (207, 100), (209, 100), (212, 60), (214, 120), (216, 35), (218, 90),
    (222, 100), (224, 100), (226, 130), (228, 200), (231, 100), (233, 60), (237, 60), (239, 120), (241, 100), (243,
    100), (245, 100), (247, 100), (257, 60), (259, 120), (261, 35), (263, 90), (265, 100), (267, 100), (269, 100), (271,
    130), (273, 200), (276, 10), (278, 60), (280, 10), (282, 60), (284, 20), (286, 100), (288, 100), (290, 100), (292,
    100), (297, 60), (301, 60), (305, 100), (307, 100), (309, 100), (311, 100), (323, 60), (327, 60), (331, 100), (333,
    100), (335, 100), (337, 100), (342, 60), (346, 60), (350, 100), (352, 100), (354, 100), (356, 100), (361, 60), (365,
    60), (369, 100), (371, 100), (373, 100), (375, 100), (387, 60), (391, 60), (395, 100), (397, 100), (399, 100), (401,
    100), (406, 60), (410, 60), (414, 100), (416, 100), (418, 100), (420, 100), (425, 60), (429, 60), (433, 100), (435,
    100), (437, 100), (439, 100), (451, 60), (455, 60), (459, 100), (461, 100), (463, 100), (465, 100), (470, 60), (474,
    60), (478, 100), (480, 100), (482, 100), (484, 100), (489, 60), (493, 60), (497, 100), (499, 100), (501, 100), (503,
    100), (515, 60), (519, 60), (523, 100), (525, 100), (527, 100), (529, 100), (530, 1)]

/-- Prefix entries (section 3.5's example), band points (section 3.6's example) and the check word. -/
def entryCells : List Host.Cell :=
  [(600, 129), (607, 2), (632, 130), (639, 6), (640, 132), (641, 8), (672, 129), (673, 16), (679, 1), (680, 130), (681,
    25), (687, 15), (960, 129), (961, 1), (962, 224), (963, 130), (964, 4), (965, 56), (966, 211), (967, 2), (968, 208),
    (975, 145), (976, 1), (977, 224), (978, 146), (979, 4), (980, 56), (1022, 141), (1023, 64)]

/-- The image with every block loaded. -/
def image : ImageSection := ⟨headerCells ++ classCells ++ entryCells, 0xFFFF⟩

/-- The image with another answer mode: 1 for PULSE, 2 for TIMED. -/
def imageWith (mode : Byte) : ImageSection := ⟨memWrite image.bytes 2 mode, 0xFFFF⟩

/-! ## States -/

/-- Tariff class 1 of the image: IC 60, IP 120, SC 35, SP 90, with F2 130 and F3 200. -/
def class1 : TariffClass := ⟨1, 60, 120, 35, 90, 0, #v[100, 100, 130, 200], false, false⟩

/-- A USER session is connected with two coins in escrow and C 30, a coin is at the entry, one is in transit and one in the
chute, and every timer of the call and of the coin path runs. -/
def talking : State :=
  { State.reset with
    power := ⟨.active, none, false, false, false, []⟩
    coin := { CoinPath.start with
      entry := .entered, measureTimer := some 250, transit := some ⟨3, 50, .escrow, 0⟩
      chute := [⟨2, 20, .escrow, 0, .current⟩], returnWait := [7], hold := ⟨some 3000, some 3000, some 3000, some 3000⟩ }
    credit := { CreditUnit.start with mirrorEscrow := 1, mirrorSum := 20 }
    rating := { RatingUnit.start with
      phase := .running, tariff := some class1, periodTimer := some 500, warningTimer := some 400 }
    line := { LineUnit.start with
      hook := .offHook, session := .opened, phase := .connected, purpose := .user, buffer := [1], resolution := .resolved 1
      dialToneTimer := some 500, interdigitTimer := some 500, digitTimer := some 500, pauseTimer := some 500
      answerTimer := some 500, timedAnswerTimer := some 500, clearTimer := some 500, recallTimer := some 500
      guardTimer := some 500, abandonTimer := some 500 }
    arbiter := { LineArbiter.start with owner := .user, holdOff := some 500, spacing := some 500, windowTimer := some 500 }
    tamper := { Tamper.start with cord := ⟨.closed, true⟩, shockTimer := some 500, cordRestore := some 500 }
    ledger := ⟨[], none⟩
    config := { ConfigSection.cold with activePresent := true, freeList := #v[[1, 1, 2], [9, 9, 9], [], []] }
    image0 := image
    lifetime := { Totals.zero with settled := 100, collected := 30 }
    period := { Totals.zero with settled := 100, collected := 30 }
    call := ⟨true, [⟨3, 50, 0⟩, ⟨2, 20, 0⟩], 30, 400, []⟩ }

/-- The same with the line in another phase. -/
def talkingIn (p : LinePhase) : State := { talking with line := { talking.line with phase := p } }

/-- The call waits for its answer, PRICED. -/
def awaiting : State :=
  { talkingIn .awaitAnswer with rating := { RatingUnit.start with phase := .priced, tariff := some class1 } }

/-- A REPORT session has the line, with the centre's turn: a record was acknowledged, the last reply is kept, and every timer of
the link runs. -/
def linked : State :=
  { State.reset with
    power := ⟨.active, none, false, false, false, []⟩
    line := { LineUnit.start with
      phase := .data, purpose := .report, reference := some .normal, dialToneTimer := some 500, guardTimer := some 500 }
    arbiter := { LineArbiter.start with owner := .report, yieldTimer := some 500, windowTimer := some 500 }
    tamper := Tamper.start
    centre := { CentreLink.start with
      phase := .centreTurn, kind := .placed, reason := some .routine, phaseTimer := some 500, uploadDone := true, ownFrame := 3,
      lastCommand := some 6, lastReply := some ⟨0x30, 2, [0, 0]⟩, awaited := some ⟨0x11, 0, []⟩, idleTimer := some 500,
      number := [1, 10], backoff := some 500, resetYield := some 500 }
    ledger := ⟨[], none⟩
    config := { ConfigSection.cold with activePresent := true, centreNumber := [1, 10] }
    image0 := image
    image1 := image }

/-- The same with the link in another phase. -/
def linkedIn (p : CentrePhase) : State := { linked with centre := { linked.centre with phase := p } }

/-- Its line in another phase. -/
def linkedOn (p : LinePhase) : State := { linked with line := { linked.line with phase := p } }

/-- A collector session is open during a call that has no money. -/
def collecting : State :=
  { talking with
    service := { ServicePort.start with session := some 2, sessionTimer := some 500, lockoutTimer := some 500 }
    call := { CallSection.cold with boxCount := 400 } }

/-- The handset is on its cradle and the line is free. -/
def resting : State :=
  { State.reset with
    tamper := Tamper.start
    ledger := ⟨[], some ⟨.events, .slot0, 60⟩⟩
    config := { ConfigSection.cold with activePresent := true }
    image0 := image }

/-- In STANDBY with a centre number and nothing to report. -/
def quiet : State := { resting with config := { resting.config with centreNumber := [1] }, events := ⟨[], 0, 0⟩ }

/-- The same, ACTIVE for a collector session and with no owner on the line. -/
def visited : State :=
  { quiet with
    power := ⟨.active, none, false, false, false, []⟩
    service := { ServicePort.start with session := some 2, sessionTimer := some 500, lockoutTimer := some 500 } }

/-- HOLDUP with a write in flight. -/
def heldUp : State :=
  { resting with power := ⟨.holdup, some 500, false, false, false, []⟩ }

/-- A two-slot section with one valid copy, in slot 0. -/
def stored {α : Type} (bytes : α → List Byte) (generation : BitVec 16) (contents : α) : TwoSlot α :=
  ⟨NvSlot.sealed bytes ⟨generation, contents, none⟩, ⟨generation + 1, contents, none⟩⟩

/-- An URGENT record that has been PENDING since the elapsed second 0. -/
def overdue : EventRecord := ⟨9, .shock, .urgent, .elapsed 0, .elapsed 0, 1, .absent, .pending, false, 0⟩

/-- A call at whose end R117 arms a forced window. -/
def windowCall : State :=
  { talking with
    elapsed := 4000
    arbiter := { LineArbiter.start with owner := .user }
    config := { talking.config with centreNumber := [1], forcedWindows := true }
    events := ⟨[overdue], 10, 0⟩
    centre := CentreLink.start }

/-- The release after that call, with the window ARMED and the REPORT request parked. -/
def parked : State :=
  { windowCall with
    line := { LineUnit.start with phase := .releasing, guardTimer := some 500 }
    arbiter := { LineArbiter.start with parkedReport := true, window := .armed }
    call := .cold }

/-- OFF with every two-slot section found, and no image. -/
def dark : State :=
  { State.reset with
    power := ⟨.off, none, false, false, false, []⟩
    ledger := ⟨[], none⟩
    nv := { Nonvolatile.blank with
      config := stored ConfigSection.encode 3 .cold
      lifetime := stored Totals.encode 3 .zero
      period := stored Totals.encode 3 .zero
      call := ⟨(stored CallSection.encode 3 .cold).slot0,
        (stored CallSection.encode 4 ⟨true, [⟨3, 50, 0⟩], 10, 5, []⟩).slot0⟩
      events := stored EventsSection.encode 3 .cold } }

/-! ## Terms that WellFormed refuses, one for each check -/

theorem refuses_hold_of_s4 : Instr.wellFormed (.beamHoldExpiry .s4) = false := by decide
theorem refuses_long_payload : Instr.wellFormed (.blockLoad 1 (List.replicate 81 0)) = false := by
  decide
theorem refuses_known_type_as_unknown : Instr.wellFormed (.unknownFrameType 0x10 0 []) = false := by decide
theorem refuses_valid_set_frame_as_refused : Instr.wellFormed (.setFrameRefused [1, 0, 1]) = false := by
  decide
theorem refuses_valid_service_frame_as_refused : Instr.wellFormed (.serviceFrameRefused [2, 0, 2]) = false := by
  decide
theorem refuses_long_service_write : Instr.wellFormed (.serviceWrite (List.replicate 33 0)) = false := by
  decide
theorem refuses_short_code : Instr.wellFormed (.login 0 [1, 2, 3, 4, 5]) = false := by decide

/-! ## Worked examples of the spec -/

/-- R5's example. -/
theorem example_classes :
    classifyTriple image.bytes ⟨150, 75, 25⟩ = some (3, 50) ∧ classifyTriple image.bytes ⟨158, 90, 25⟩ = some (4, 100) ∧
    classifyTriple image.bytes ⟨160, 75, 25⟩ = some (3, 50) ∧ classifyTriple image.bytes ⟨165, 75, 25⟩ = some (4, 100) ∧
    classifyTriple image.bytes ⟨150, 75, 10⟩ = none := by decide

/-- R58's example. -/
theorem example_resolution :
    talking.resolveDigit [1] = .waiting ∧ talking.resolveDigit [1, 1, 2] = .resolved 0 ∧
    talking.resolveDigit [1, 2] = .resolved 1 ∧ talking.resolveDigit [1, 9] = .resolved 15 ∧
    talking.resolveDigit [0, 8] = .waiting ∧ talking.resolveDigit [0, 8, 0, 0] = .resolved 0 ∧
    talking.resolveDigit [0, 8, 1] = .resolved 2 ∧ talking.resolveDigit [5] = .waiting ∧
    talking.resolveFinal [9, 9, 8] = .resolved 4 := by decide

/-- Section 3.6's example. -/
theorem example_bands :
    bandAt image.bytes 3600 = 3 ∧ bandAt image.bytes 28800 = 1 ∧ bandAt image.bytes 115199 = 2 ∧
    bandAt image.bytes 395600 = 2 ∧ bandAt image.bytes 518400 = 3 ∧
    State.band { talking with clock := ⟨0, 6, 86390, true, 0⟩ } 30 = 3 ∧
    State.band { talking with clock := ⟨0, 6, 86390, false, 0⟩ } 30 = 0 := by decide

/-- R64's example. -/
theorem example_charges :
    charge 60 130 5 = 80 ∧ charge 35 130 5 = 50 ∧ charge 35 130 7 = 49 ∧ charge 37 110 10 = 50 ∧ charge 100 100 100 = 100 ∧
    charge 1 25 1 = 1 ∧ charge 9999 25 1 = 2500 := by decide

/-- R35's example, its first take: the coin of 50 is collected and C falls to 0. -/
theorem example_take :
    let s := { talking with call := ⟨true, [⟨3, 50, 0⟩, ⟨2, 20, 0⟩, ⟨4, 100, 0⟩], 30, 400, []⟩ }
    (s.take 80).2.call = ⟨true, [⟨2, 20, 0⟩, ⟨4, 100, 0⟩], 0, 401, [⟨3, 50, .box⟩]⟩ ∧ (s.take 80).2.available = 120 := by
  decide

/-- Section 5.5's example: digit 3 takes 300 ms by pulses. -/
theorem example_digit_time : digitTime .pulse 3 = 300 ∧ digitTime .pulse 0 = 1000 := by decide

/-- Section 12.4's layout, with the CRC of R145 worked out apart from the model: a GREET frame with its sync byte and check. -/
theorem example_frame :
    Frame.encode ⟨0x10, 5, []⟩ = [0xA7, 0x10, 5, 0, 0x70, 0x0A] := by decide +kernel

/-- R5's coin of class 3 goes through the gate to the column (R9, R10, R11). -/
theorem example_gate :
    (match exec (.measurement 150 75 25) { talking with coin := { talking.coin with transit := none } } with
    | .next t => t.coin.transit
    | .fault _ => none
    | .refused _ => none) = some ⟨3, 50, .escrow, 0⟩ := by decide

/-! ## Chapter 1: states that meet the statements' hypotheses -/

theorem witness_LowestMatchingClassIsGiven :
    (∃ (s : State) (t : Triple) (k v : Nat) (r : Route),
      s.acceptanceOpen = true ∧ classifyTriple s.activeBytes t = some (k, v) ∧ s.routeFor v = some r) ∧
    (∃ (s : State) (t : Triple), s.acceptanceOpen = true ∧ classifyTriple s.activeBytes t = none) ∧
    (∃ (s : State) (tr : Transit), s.coin.transit = some tr ∧ ∀ c, s.coin.entry ≠ .measuredHeld c) :=
  ⟨⟨talking, ⟨150, 75, 25⟩, 3, 50, .escrow, by decide⟩, ⟨talking, ⟨150, 75, 10⟩, by decide⟩,
    ⟨talking, ⟨3, 50, .escrow, 0⟩, rfl, nofun⟩⟩

theorem witness_busy : talking.busy ∧ linked.busy := by decide

/-- Nobody asks for the line: in STANDBY, and in ACTIVE with a set centre number and the hold-off running. -/
theorem witness_unclaimed :
    (resting.unclaimed ∧ resting.power.state = .standby) ∧
    (let s := { talking with
      line := { LineUnit.start with phase := .releasing, guardTimer := some 500 }
      arbiter := { LineArbiter.start with holdOff := some 500 }
      config := { talking.config with centreNumber := [1] } }
     s.unclaimed ∧ s.power.state = .active ∧ s.arbiter.takeBack = .none ∧ s.arbiter.owner = .none ∧
       s.line.purpose = .none) := by decide

/-- The line has an owner, in a call and in a centre session; nobody asks for it, in STANDBY and in ACTIVE, with nothing to report
or no centre number. -/
theorem witness_serving :
    (talking.serving ∧ linked.serving ∧ resting.serving) ∧
    (quiet.serving ∧ quiet.power.state = .standby ∧ quiet.config.centreNumber ≠ []) ∧
    (visited.serving ∧ visited.power.state = .active ∧ visited.arbiter.owner = .none) :=
  ⟨by decide, by decide, by decide⟩

/-- A coin whose gate decision is held behind the coin in transit, with the S2 pair at levels. -/
def held (t : S2Tracker) (a b : Bool) : State :=
  { talking with
    coin := { talking.coin with
      entry := .measuredHeld ⟨150, 75, 25⟩, measureTimer := none, tracker := t, beams := ⟨false, a, b, false, false⟩ } }

/-- R9, R11: the coin in transit has passed FORWARD into the chute, and the held one, of class 3, follows it. -/
theorem test_held_decision_after_forward :
    (match exec (.beamClear .s2b) (held (.aFirst true) false true) with
    | .next t => some (t.coin.chute.length, t.coin.transit, t.coin.entry)
    | .fault _ => none
    | .refused _ => none) = some (2, some ⟨3, 50, .escrow, 0⟩, .empty) := by decide

/-- The entry stage in each of its states, with a coin in transit and without. -/
theorem witness_MeasurementDecidesTheGate :
    talking.busy ∧ talking.coin.entry = .entered ∧ talking.coin.transit.isSome = true ∧
    ({ talking with coin := { talking.coin with entry := .discarding 1, transit := none } } : State).busy ∧
    ({ talking with coin := CoinPath.start } : State).busy ∧
    ({ talking with coin := { talking.coin with entry := .measuredHeld ⟨1, 2, 3⟩ } } : State).busy ∧
    ({ linked with coin := { talking.coin with transit := none } } : State).acceptanceOpen = false := by decide

theorem witness_CoinWaitExpiriesEmptyAndSetJams :
    (∃ (s : State) (d : Nat), s.busy ∧ s.coin.measureTimer = some d ∧ s.coin.entry = .entered) ∧
    (∃ (s : State) (d n : Nat), s.busy ∧ s.coin.measureTimer = some d ∧ s.coin.entry = .discarding n) ∧
    (∃ (s : State) (tr : Transit), s.busy ∧ s.coin.transit = some tr ∧ ∀ c, s.coin.entry ≠ .measuredHeld c) ∧
    (∃ (s : State) (tr : Transit) (c : Triple), s.busy ∧ s.coin.transit = some tr ∧ s.coin.entry = .measuredHeld c) ∧
    (∃ (s : State) (w : Nat) (ws : List Nat), s.busy ∧ s.coin.returnWait = w :: ws) :=
  ⟨⟨talking, 250, by decide⟩,
    ⟨{ talking with coin := { talking.coin with entry := .discarding 2 } }, 250, 2, by decide⟩,
    ⟨talking, ⟨3, 50, .escrow, 0⟩, by decide, rfl, nofun⟩,
    ⟨held .quiet false false, ⟨3, 50, .escrow, 0⟩, ⟨150, 75, 25⟩, by decide⟩, ⟨talking, 7, [], by decide⟩⟩

theorem witness_HeldBeamSetsItsJam :
    talking.busy ∧ talking.coin.hold.s1 = some 3000 ∧ talking.coin.hold.s2a = some 3000 ∧ talking.coin.hold.s2b = some 3000 ∧
    talking.coin.hold.s3 = some 3000 ∧
    (let s := { resting with coin := { resting.coin with hold := ⟨some 3000, none, none, none⟩ } }
     s.unclaimed ∧ s.power.state = .standby) := by decide

/-- `s` with the S2 pair tracker in a state and the pair's beams at levels. -/
def tracking (t : S2Tracker) (a b : Bool) : State :=
  { talking with coin := { talking.coin with tracker := t, beams := ⟨false, a, b, false, false⟩ } }

/-- Every state of the tracker, with every level of the pair. -/
theorem witness_TrackerFollowsThePair : ∀ (t : S2Tracker) (a b : Bool),
    (tracking t a b).running = true ∧ (tracking t a b).coin.tracker = t ∧ (tracking t a b).coin.beams.s2a = a ∧
    (tracking t a b).coin.beams.s2b = b := by
  intro t a b; exact ⟨rfl, rfl, rfl, rfl⟩

/-- Both beams as the last to clear, in every state of the tracker, with a decision held. -/
theorem witness_PassagesActOnTheChuteList : ∀ t : S2Tracker,
    (held t false true).busy ∧ (held t false true).coin.beams.s2a = false ∧ (held t false true).coin.beams.s2b = true ∧
    (held t true false).busy ∧ (held t true false).coin.beams.s2a = true ∧ (held t true false).coin.beams.s2b = false := by
  intro t
  have h (a b : Bool) : (held t a b).busy := ⟨rfl, by simp [State.lineTaken, held, talking], rfl⟩
  exact ⟨h _ _, rfl, rfl, h _ _, rfl, rfl⟩

/-- A release in flight to RETURN that began before the oldest return wait entry, and one to BOX. -/
theorem witness_CrossingsMeetTheirExpectation :
    (∃ (s : State) (e : ReleaseEntry) (d w : Nat), s.busy ∧ s.credit.inFlight = some d ∧ s.call.queue = [e] ∧
      e.dest = .ret ∧ s.coin.returnWait = [w] ∧ d ≤ w) ∧
    (∃ (s : State) (e : ReleaseEntry) (d : Nat), s.busy ∧ s.credit.inFlight = some d ∧ s.call.queue = [e] ∧ e.dest = .box) :=
  ⟨⟨{ talking with
      credit := { talking.credit with inFlight := some 7 }, call := { talking.call with queue := [⟨3, 50, .ret⟩] } },
      ⟨3, 50, .ret⟩, 7, 7, by decide⟩,
    ⟨{ talking with
      credit := { talking.credit with inFlight := some 7 }, call := { talking.call with queue := [⟨3, 50, .box⟩] } },
      ⟨3, 50, .box⟩, 7, by decide⟩⟩

/-- An oldest chute record of each route and mark. -/
theorem witness_SettleFollowsRouteAndMark : ∀ (route : Route) (mark : Mark),
    let s := { talking with coin := { talking.coin with chute := [⟨2, 20, route, 0, mark⟩] } }
    let u := { resting with coin := { resting.coin with chute := [⟨2, 20, route, 0, mark⟩] } }
    s.busy ∧ s.coin.chute = ⟨2, 20, route, 0, mark⟩ :: [] ∧ (∀ id d, s.line.resolution ≠ .waitingDeposit id d) ∧
      u.unclaimed ∧ u.power.state = .standby := by
  intro route mark
  exact ⟨⟨rfl, by simp [State.lineTaken, talking], rfl⟩, rfl, nofun, by cases route <;> cases mark <;> decide,
    by cases route <;> cases mark <;> decide⟩

theorem witness_JamsRaiseAndClearTheCause : ∀ j : ChuteJam,
    (talking.coin.jam j).isSet = false ∧
    let s := { talking with coin := talking.coin.putJam j ⟨true, some 9⟩ }
    s.busy ∧ (s.coin.jam j).isSet = true ∧ (s.coin.jam j).clearRun = some 9 := by
  intro j; cases j <;> decide

/-! ## Chapter 2 -/

/-- A settle of a coin with mark ENDED in STANDBY starts its release and makes the part ACTIVE: the release is in flight. -/
theorem witness_ReleaseStarted :
    let s := { resting with coin := { resting.coin with chute := [⟨2, 20, .escrow, 0, .ended⟩] } }
    s.ReleaseStarted ∧
    (match exec .chuteSettle s with
    | .next t => decide (t.power.state = .active ∧ canStart t.call.queue t.credit.boxPresent = true ∧
        t.credit.inFlight = some 1500)
    | .fault _ => false
    | .refused _ => false) = true := by
  refine ⟨nofun, by decide⟩

theorem witness_ReleaseTimersFailAndRetry :
    (talking.busy ∧ talking.credit.inFlight = none) ∧
    (∃ (s : State) (d : Nat), s.busy ∧ s.credit.inFlight = some d ∧ s.credit.releaseJam = false) ∧
    (∃ (s : State) (d : Nat), s.busy ∧ s.credit.inFlight = some d ∧ s.credit.releaseJam = true) ∧
    (∃ (s : State) (d : Nat), s.busy ∧ s.credit.retryTimer = some d ∧ s.credit.releaseJam = true) :=
  ⟨by decide, ⟨{ talking with credit := { talking.credit with inFlight := some 7 } }, 7, by decide⟩,
    ⟨{ talking with credit := { talking.credit with inFlight := some 7, releaseJam := true } }, 7, by decide⟩,
    ⟨{ talking with credit := { talking.credit with retryTimer := some 7, releaseJam := true } }, 7, by decide⟩⟩

theorem witness_BoxSwitchReportsRemovalAndInsertion :
    (∃ s : State, s.busy ∧ s.credit.boxQualified = false) ∧
    (∃ s : State, s.busy ∧ s.credit.boxQualified = true ∧ s.credit.boxPresent = true ∧ s.tamper.collectorOpen = false ∧
      maskHas s.config.enables 4 = true ∧ s.config.edges.get 3 ≠ .closed) ∧
    (∃ s : State, s.busy ∧ s.credit.boxQualified = true ∧ s.credit.boxPresent = true ∧ s.tamper.collectorOpen = true) ∧
    (∃ s : State, s.busy ∧ s.credit.boxQualified = true ∧ s.credit.boxPresent = false ∧ s.tamper.collectorOpen = true ∧
      s.tamper.swapRemoved = true) :=
  ⟨⟨talking, by decide⟩, ⟨{ talking with credit := { talking.credit with boxQualified := true, boxPresent := true } }, by decide⟩,
    ⟨{ talking with
      credit := { talking.credit with boxQualified := true, boxPresent := true }
      tamper := { talking.tamper with collectorOpen := true } }, by decide⟩,
    ⟨{ talking with
      credit := { talking.credit with boxQualified := true }
      tamper := { talking.tamper with collectorOpen := true, swapRemoved := true } }, by decide⟩⟩

/-- A of 100: a charge that C covers, one that needs a coin, the whole, and one more. -/
theorem witness_TakeCollectsTheFewestOldestCoins :
    resting.call.sessionOpen = false ∧ talking.call.sessionOpen = true ∧ 30 ≤ talking.available ∧ 31 ≤ talking.available ∧
    100 ≤ talking.available ∧ talking.available < 101 := by decide

/-! ## Chapter 3 -/

theorem witness_StagedBlocksLoadAndClear :
    (∃ (s : State) (n : Byte), s.takesCommand n) ∧
    (∃ (s : State) (n i : Byte) (bytes : List Byte), s.takesCommand n ∧ s.ImagesCanonical ∧ i.toNat < 16 ∧ bytes.length = 64) ∧
    (∃ (s : State) (n : Byte) (payload : List Byte), s.takesCommand n ∧ payload.length ≤ 80 ∧
      ∀ i bytes, payload = i :: bytes → i.toNat < 16 → bytes.length ≠ 64) ∧
    (let s := { linked with image1 := .cold }
     s.takesCommand 7 ∧ (s.image s.stagedSlot).loaded = 0 ∧ s.config.activationPending = false ∧ s.ledger = ⟨[], none⟩) :=
  ⟨⟨linked, 7, by decide⟩, ⟨linked, 7, 15, List.replicate 64 1, by decide⟩,
    ⟨linked, 7, [], by decide, by decide, nofun⟩, by decide⟩

theorem witness_ResolutionIsByTheLongestPrefixAndStable :
    talking.config.activePresent = true ∧ noDuplicates (usedEntries talking.activeBytes) = true ∧
    (∀ e ∈ usedEntries talking.activeBytes, e.inRange = true) ∧ talking.resolveDigit [1, 9] = .resolved 15 ∧
    talking.resolveDigit [1] = .waiting ∧ talking.resolveDigit [5] = .waiting ∧ talking.resolveDigit [1, 1, 2] = .resolved 0 :=
  by decide

/-- With no active image: a free number longer than the buffer, one equal to it, and (log entry 47) a shorter one. -/
theorem witness_resolution_with_no_image :
    let s := { talking with
      config := { talking.config with activePresent := false, freeList := #v[[1], [1, 2, 3], [], []] } }
    s.config.activePresent = false ∧ s.freeNumbers = [[1], [1, 2, 3]] ∧ s.resolveDigit [1, 2] = .waiting ∧
    s.resolveFinal [1, 2] = .unknown ∧ s.resolveDigit [1, 2, 3] = .resolved 0 ∧ s.resolveFinal [1, 2, 3] = .resolved 0 ∧
    s.resolveDigit [1, 2, 4] = .unknown := by decide

/-! ## Chapter 4 -/

/-- Both ends of each range. -/
theorem witness_ChargeRoundsUpTwice :
    (0 ≤ 9999 ∧ 25 ≤ 25 ∧ 25 ≤ 400 ∧ 1 ≤ 1 ∧ 1 ≤ 100) ∧ (9999 ≤ 9999 ∧ 25 ≤ 400 ∧ 400 ≤ 400 ∧ 1 ≤ 100 ∧ 100 ≤ 100) := by decide

theorem witness_PeriodAndWarningTimersCharge :
    (∃ (s : State) (t : TariffClass) (d : Nat), s.userOnLine ∧ s.call.sessionOpen = true ∧ s.line.phase = .connected ∧
      s.rating.phase = .running ∧ s.rating.tariff = some t ∧ t.id ≠ 0 ∧ s.rating.periodTimer = some d ∧ s.answerMode ≠ .pulse ∧
      s.rating.warningTimer ≠ none ∧ s.busy ∧ s.chargeOf t t.stepCharge 0 ≤ s.available ∧
      imageWarningLead s.activeBytes < t.stepPeriod) ∧
    (∃ (s : State) (t : TariffClass) (d : Nat), s.userOnLine ∧ s.call.sessionOpen = true ∧ s.line.phase = .connected ∧
      s.rating.phase = .running ∧ s.rating.tariff = some t ∧ t.id ≠ 0 ∧ s.rating.periodTimer = some d ∧ s.answerMode ≠ .pulse ∧
      s.available < s.chargeOf t t.stepCharge 0) :=
  ⟨⟨talking, class1, 500, by decide⟩,
    ⟨{ talking with call := { talking.call with escrow := [], credit := 34 } }, class1, 500, by decide⟩⟩

/-- The warning at the start of a period: a lead below its length and not below it, with the next charge covered and not, at the
period timer's end and at the answer. -/
theorem witness_warning_at_the_start_of_a_period :
    (let s := { talking with rating := { talking.rating with tariff := some { class1 with stepPeriod := 20 } } }
     let t := { class1 with stepPeriod := 20 }
     s.userOnLine ∧ s.answerMode ≠ .pulse ∧ t.stepPeriod ≤ imageWarningLead s.activeBytes ∧
       s.chargeOf t t.stepCharge 0 ≤ s.available ∧
       s.chargeOf t t.stepCharge t.stepPeriod ≤ s.available - s.chargeOf t t.stepCharge 0) ∧
    (let s := { talking with
       call := { talking.call with escrow := [], credit := 35 }
       rating := { talking.rating with tariff := some { class1 with stepPeriod := 20 } } }
     let t := { class1 with stepPeriod := 20 }
     s.userOnLine ∧ s.chargeOf t t.stepCharge 0 ≤ s.available ∧
       s.available - s.chargeOf t t.stepCharge 0 < s.chargeOf t t.stepCharge t.stepPeriod) ∧
    (∀ p ∈ [20, 21],
      let s := { awaiting with
        line := { awaiting.line with answerMode := .reversal }
        rating := { awaiting.rating with tariff := some { class1 with initialPeriod := p } } }
      s.userOnLine ∧ s.call.sessionOpen = true ∧ s.line.phase = .awaitAnswer ∧ s.rating.phase = .priced ∧ class1.id ≠ 0 ∧
        s.answerMode ≠ .pulse ∧ s.chargeOf class1 class1.initialCharge 0 ≤ s.available ∧
        imageWarningLead s.activeBytes = 20) := by decide

/-- A call in PULSE mode. -/
def pulsed : State := { talking with image0 := imageWith 1, line := { talking.line with answerMode := .pulse } }

theorem witness_MeterPulseChargesInPulseModeOnly :
    (∃ s : State, s.busy ∧
      (s.line.purpose ≠ .user ∨ s.line.answerMode ≠ .pulse ∨ (s.line.phase ≠ .awaitAnswer ∧ s.line.phase ≠ .connected))) ∧
    (∃ (s : State) (t : TariffClass), s.userOnLine ∧ s.call.sessionOpen = true ∧ s.rating.phase = .running ∧
      s.rating.tariff = some t ∧ t.id ≠ 0 ∧ s.line.phase = .connected ∧ s.line.answerMode = .pulse ∧ s.answerMode = .pulse ∧
      s.chargeOf t t.stepCharge 0 ≤ s.available) ∧
    (∃ (s : State) (t : TariffClass), s.userOnLine ∧ s.call.sessionOpen = true ∧ s.rating.phase = .running ∧
      s.rating.tariff = some t ∧ t.id ≠ 0 ∧ s.line.phase = .connected ∧ s.line.answerMode = .pulse ∧ s.answerMode = .pulse ∧
      s.available < s.chargeOf t t.stepCharge 0) :=
  ⟨⟨linked, by decide⟩, ⟨pulsed, class1, by decide⟩,
    ⟨{ pulsed with call := { pulsed.call with escrow := [], credit := 34 } }, class1, by decide⟩⟩

/-- A pulse in a free call and in a stopped one, the answer pulse, and the charge after which the warning flag follows A. -/
theorem witness_pulse_without_charge_and_at_the_answer :
    (let s := { pulsed with rating := { pulsed.rating with tariff := some { class1 with id := 0 } } }
     s.busy ∧ s.line.phase = .connected ∧ s.rating.tariff.map (·.id) = some 0) ∧
    (let s := { pulsed with rating := { pulsed.rating with phase := .stopped } }
     s.busy ∧ s.line.phase = .connected ∧ s.rating.phase ≠ .running) ∧
    (let s := { awaiting with image0 := imageWith 1, line := { awaiting.line with answerMode := .pulse } }
     s.userOnLine ∧ s.call.sessionOpen = true ∧ s.rating.phase = .priced ∧ s.rating.tariff = some class1 ∧
       s.line.phase = .awaitAnswer ∧ s.answerMode = .pulse ∧ s.chargeOf class1 class1.initialCharge 0 ≤ s.available) ∧
    pulsed.chargeOf class1 35 0 ≤ pulsed.available - pulsed.chargeOf class1 35 0 ∧
    (let s := { pulsed with call := { pulsed.call with escrow := [], credit := 35 } }
     s.chargeOf class1 35 0 ≤ s.available ∧ s.available - s.chargeOf class1 35 0 < s.chargeOf class1 35 0) := by decide

/-- The answer in each mode, the free class, and a class that A does not cover. -/
theorem witness_AnswerStartsTheCallsCharges :
    let reversal := { awaiting with line := { awaiting.line with answerMode := .reversal } }
    let pulse := { awaiting with image0 := imageWith 1, line := { awaiting.line with answerMode := .pulse } }
    (∀ s ∈ [reversal, pulse, awaiting],
      s.userOnLine ∧ s.call.sessionOpen = true ∧ s.line.phase = .awaitAnswer ∧ s.rating.phase = .priced ∧
      s.rating.tariff = some class1 ∧ s.chargeOf class1 class1.initialCharge 0 ≤ s.available) ∧
    reversal.answerMode ≠ .pulse ∧ awaiting.line.timedAnswerTimer = some 500 ∧
    ({ awaiting with rating := { awaiting.rating with tariff := some { class1 with id := 0 } } } : State).userOnLine ∧
    ({ awaiting with call := ⟨true, [], 59, 0, []⟩ } : State).available < awaiting.chargeOf class1 60 0 := by
  decide

/-! ## Chapter 5 -/

theorem witness_OffHookOpensASessionAndSeizes :
    resting.running = true ∧ resting.lineFree = true ∧ resting.arbiter.parkedReport = false ∧ resting.line.session = .none ∧
    resting.line.purpose = .none ∧ resting.tamper.causes.lineFault = false ∧ resting.service.closing = false := by decide

theorem witness_SessionEndsRefundAndForfeit :
    talking.userOnLine ∧ talking.line.abandonTimer = some 500 ∧ talking.tamper.cord = ⟨.closed, true⟩ ∧
    (let s := { linked with line := { linked.line with session := .spent } }
     s.busy ∧ s.line.session = .spent) := by decide

/-- A forced window falls due at this session end, and not at the next one, which comes before the record's half hour. -/
theorem witness_windowDue :
    windowCall.userOnLine ∧ windowCall.windowDue ∧ talking.userOnLine ∧ ¬ talking.windowDue ∧
    ¬ ({ windowCall with elapsed := 1800 } : State).windowDue := by
  refine ⟨by decide, ⟨rfl, ⟨overdue, by decide⟩, by decide⟩, by decide, by simp [State.windowDue, talking, ConfigSection.cold], ?_⟩
  rintro ⟨-, ⟨r, h, -, -, h'⟩, -⟩
  obtain rfl : r = overdue := by simpa [windowCall] using h
  exact absurd h' (by decide)

/-- A session end that finds the line with REPORT, and one that finds USER's line released. -/
theorem witness_session_end_without_the_line :
    (let s := { linked with
      line := { linked.line with session := .opened }, arbiter := { linked.arbiter with userHeld := true, waiting := true } }
     s.busy ∧ s.line.session = .opened ∧ s.arbiter.centreOwns = true ∧ s.line.purpose = s.arbiter.owner ∧
       s.config.activationPending = false ∧ s.line.resolution = .unresolved) ∧
    (let s := talkingIn .idle
     s.power.state = .active ∧ s.line.session = .opened ∧ s.line.purpose = .user ∧ s.arbiter.owner = .user ∧
       s.line.phase = .idle ∧ s.service.closing = false ∧ s.config.activationPending = false ∧
       s.arbiter.parkedReport = false ∧ s.arbiter.pollHeld = false ∧ s.arbiter.takeBack = .none) ∧
    ¬ (talkingIn .idle).windowDue := by
  refine ⟨by decide, by decide, by simp [State.windowDue, talkingIn, talking, ConfigSection.cold]⟩

theorem witness_DialToneDecidesTheSeizure :
    (∃ (s : State) (d : Nat), s.busy ∧ s.line.phase = .seizing ∧ s.line.purpose = .user ∧ s.line.dialToneTimer = some d) ∧
    (∃ (s : State) (dg : Digit) (ds : List Digit) (d : Nat), s.busy ∧ s.line.phase = .seizing ∧ s.line.purpose = .report ∧
      s.centre.number = dg :: ds ∧ s.line.dialToneTimer = some d ∧ s.centre.phase = .dial ∧ s.centre.kind = .placed ∧
      s.centre.inFlight = none ∧ s.config.lineFaultMode = .signal) :=
  ⟨⟨talkingIn .seizing, 500, by decide⟩,
    ⟨{ linkedOn .seizing with centre := { linked.centre with phase := .dial } }, 1, [10], 500, by decide⟩⟩

/-- A caller at READY with the dial buffer `b`. -/
def keying (b : List Digit) : State :=
  { talkingIn .ready with line := { talking.line with phase := .ready, buffer := b, resolution := .unresolved } }

/-- A digit of the list as it is keyed. -/
def keyOf (d : Digit) : Key := d.castSucc

theorem witness_LineRequestsAreCheckedInOrder :
    (∃ (s : State) (key : Key) (r : SetReason), s.busy ∧ s.takesRequest ∧ s.digitCheck key = some r) ∧
    (∃ (s : State) (dg : Digit), s.busy ∧ s.takesRequest ∧ s.digitCheck dg.castSucc = none ∧ s.line.phase = .dialling ∧
      s.line.buffer.length < 23 ∧ s.line.resolution ≠ .unresolved ∧ s.line.digitTimer ≠ none) ∧
    (∃ (s : State) (dg : Digit), s.busy ∧ s.takesRequest ∧ s.digitCheck dg.castSucc = none ∧ s.line.phase = .ready ∧
      s.line.buffer.length < 23 ∧ s.line.resolution = .unresolved ∧ s.resolveDigit (s.line.buffer ++ [dg]) = .waiting) ∧
    (∃ (s : State) (dg : Digit), s.busy ∧ s.takesRequest ∧ s.digitCheck dg.castSucc = none ∧ s.line.phase = .ready ∧
      s.line.buffer.length < 23 ∧ s.line.resolution = .unresolved ∧ s.resolveDigit (s.line.buffer ++ [dg]) = .unknown) ∧
    (∃ (s : State) (dg : Digit) (id : Nat), s.busy ∧ s.takesRequest ∧ s.digitCheck dg.castSucc = none ∧
      s.line.phase = .ready ∧ s.line.buffer.length < 23 ∧ s.line.resolution = .unresolved ∧
      s.resolveDigit (s.line.buffer ++ [dg]) = .resolved id ∧ (s.classRecord id).barred = true) ∧
    (∃ (s : State) (dg : Digit) (id : Nat), s.busy ∧ s.takesRequest ∧ s.digitCheck dg.castSucc = none ∧
      s.line.phase = .ready ∧ s.line.buffer.length < 23 ∧ s.line.resolution = .unresolved ∧
      s.resolveDigit (s.line.buffer ++ [dg]) = .resolved id ∧ (s.classRecord id).barred = false ∧
      s.serviceState = .inService ∧ s.available < s.depositOf (s.classRecord id)) ∧
    (∃ (s : State) (dg : Digit) (id : Nat), s.busy ∧ s.takesRequest ∧ s.digitCheck dg.castSucc = none ∧
      s.line.phase = .ready ∧ s.line.buffer.length < 23 ∧ s.line.resolution = .unresolved ∧
      s.resolveDigit (s.line.buffer ++ [dg]) = .resolved id ∧ (s.classRecord id).barred = false ∧
      s.serviceState = .inService ∧ s.depositOf (s.classRecord id) ≤ s.available) :=
  ⟨⟨keying (List.replicate 24 1), 0, .full, by decide⟩, ⟨talkingIn .dialling, 10, by decide⟩,
    ⟨keying [], 1, by decide⟩,
    ⟨{ keying [1] with config := { talking.config with activePresent := false } }, 2, by decide⟩,
    ⟨keying [1], 9, 15, by decide⟩, ⟨keying [0, 8], 1, 2, by decide⟩, ⟨keying [1], 2, 1, by decide⟩⟩

/-- `s` with a service cause that the tariff store's answer meets out of service. -/
def inhibited (s : State) : State := { s with config := { s.config with centreInhibit := true } }

/-- A buffer of 23 digits that resolves no class before the 24th: no entry agrees with it. -/
def full : List Digit := 5 :: List.replicate 22 5

/-- #: in READY with an open class (the default class 4, and the free class), with the class waiting for its deposit, and in
DIALLING; the 24th digit; a class refused out of service, and the free class that is not. -/
theorem witness_EndOfDialling :
    (let s := { keying [5] with call := { talking.call with credit := 200 } }
     s.busy ∧ s.takesRequest ∧ s.digitCheck 11 = none ∧ s.line.phase = .ready ∧ s.line.resolution = .unresolved ∧
       s.resolveFinal s.line.buffer = .resolved 4 ∧ s.depositOf (s.classRecord 4) ≤ s.available) ∧
    ((inhibited (keying [1, 1, 2])).digitCheck 11 = none ∧
      (inhibited (keying [1, 1, 2])).resolveFinal [1, 1, 2] = .resolved 0 ∧
      (inhibited (keying [1, 1, 2])).serviceState ≠ .inService ∧
      (inhibited (keying [5])).resolveFinal [5] = .resolved 4 ∧ (talking.classRecord 4).barred = false) ∧
    (let s := { keying [1, 2] with line := { (keying [1, 2]).line with resolution := .waitingDeposit 1 60 } }
     s.busy ∧ s.digitCheck 11 = none ∧ s.line.phase = .ready ∧ s.line.resolution ≠ .unresolved) ∧
    ((talkingIn .dialling).digitCheck 11 = none ∧ (talkingIn .dialling).line.digitTimer ≠ none) ∧
    ((keying full).busy ∧ (keying full).takesRequest ∧ (keying full).digitCheck (Fin.castSucc 5) = none ∧
      (keying full).line.buffer.length = 23 ∧ (keying full).resolveDigit (full ++ [5]) = .waiting ∧
      (keying full).resolveFinal (full ++ [5]) = .resolved 4) ∧
    (let s := { talkingIn .dialling with line := { (talkingIn .dialling).line with buffer := full } }
     s.digitCheck (Fin.castSucc 5) = none ∧ s.line.buffer.length = 23) := by decide

/-- A caller in DIALLING whose digits have been sent, PRICED for a class, with the line at a polarity. -/
def rested (id : Nat) (p : Polarity) (pause : Timer) : State :=
  { talkingIn .dialling with
    rating := { RatingUnit.start with phase := .priced, tariff := some { class1 with id := id } }
    line := { talking.line with
      phase := .dialling, cursor := 1, digitTimer := none, pauseTimer := pause, reference := some .normal, polarity := p } }

/-- Sending rests, with the pause running and over: a digit is appended, and # ends the sending, in a call that waits and in a
free one on a line already reversed. -/
theorem witness_sending_rests : ∀ pause ∈ [none, some 500], ∀ p ∈ [Polarity.normal, .reversed],
    let s := rested 0 p pause
    s.busy ∧ s.takesRequest ∧ s.digitCheck (Fin.castSucc 5) = none ∧ s.digitCheck 11 = none ∧ s.line.phase = .dialling ∧
      s.line.resolution ≠ .unresolved ∧ s.line.digitTimer = none ∧ s.line.cursor = s.line.buffer.length ∧
      s.line.purpose = .user ∧ s.line.interdigitTimer = some 500 ∧ s.rating.phase = .priced ∧ s.answerMode = .reversal ∧
      s.line.reference = some (if p = .normal then s.line.polarity else s.line.polarity.flip) := by decide

/-- A priced class on a line already reversed: its initial charge is covered, and is not. -/
theorem witness_priced_and_reversed : ∀ call ∈ [talking.call, ⟨true, [], 5, 0, []⟩],
    let s := { rested 1 .reversed none with call := call }
    s.userOnLine ∧ s.call.sessionOpen = true ∧ s.answerMode = .reversal ∧ s.line.reference = some s.line.polarity.flip ∧
      s.rating.phase = .priced ∧ s.rating.tariff = some class1 ∧ s.takesRequest ∧ s.digitCheck 11 = none ∧
      (s.chargeOf class1 class1.initialCharge 0 ≤ s.available ↔ call = talking.call) := by decide

/-- The interdigit timer ends in READY with the class open: the final answer is a class with its deposit covered and not, BARRED,
the free class, and none. -/
theorem witness_interdigit_in_ready :
    (∀ b ∈ [[], [5], [1, 9], [1, 1, 2], [0, 8, 1]],
      (keying b).busy ∧ (keying b).line.interdigitTimer = some 500 ∧ (keying b).line.phase = .ready ∧
        (keying b).line.resolution = .unresolved) ∧
    talking.resolveFinal [5] = .resolved 4 ∧ talking.resolveFinal [1, 9] = .resolved 15 ∧
    talking.resolveFinal [1, 1, 2] = .resolved 0 ∧ talking.resolveFinal [0, 8, 1] = .resolved 2 ∧
    ({ talking with config := { talking.config with activePresent := false } } : State).resolveFinal [5] = .unknown := by decide

/-- DIAL_CLEAR and FOLLOW_ON: without an open session, in their phases, and in another. -/
theorem witness_DialClearAndFollowOn : ∀ s ∈ [linked, keying [1], talking, talkingIn .cleared, talkingIn .dialling],
    s.busy ∧ s.takesRequest := by decide

theorem witness_DigitsAreSentInOrder :
    (∃ (s : State) (d : Nat) (dg : Digit), s.busy ∧ s.line.phase = .dialling ∧ s.line.digitTimer = some d ∧
      s.line.dialMethod = .dtmf ∧ s.line.buffer[s.line.cursor + 1]? = some dg) ∧
    (∀ e ∈ [false, true],
      let s := { talkingIn .dialling with
        line := { talking.line with phase := .dialling, buffer := [1, 2], dialMethod := .pulse, endOfDialling := e } }
      s.busy ∧ s.line.digitTimer = some 500 ∧ s.line.endOfDialling = e ∧ s.line.cursor + 1 < s.line.buffer.length) ∧
    (∃ (s : State) (d : Nat), s.busy ∧ s.line.phase = .dialling ∧ s.line.digitTimer = some d ∧
      s.line.endOfDialling = true ∧ s.line.buffer.length ≤ s.line.cursor + 1 ∧ s.line.purpose = .user ∧
      s.answerMode ≠ .reversal) ∧
    (∃ (s : State) (d : Nat), s.busy ∧ s.line.phase = .dialling ∧ s.line.pauseTimer = some d) ∧
    (∃ (s : State) (d : Nat), s.busy ∧ s.line.interdigitTimer = some d ∧ s.line.phase = .dialling ∧ s.line.digitTimer ≠ none) ∧
    (∃ (s : State) (d : Nat), s.busy ∧ s.line.interdigitTimer = some d ∧ s.line.phase = .ready ∧
      s.line.resolution ≠ .unresolved) :=
  ⟨⟨{ talkingIn .dialling with line := { talking.line with phase := .dialling, buffer := [1, 2] } }, 500, 2, by decide⟩,
    by decide,
    ⟨{ talkingIn .dialling with
      image0 := imageWith 2, line := { talking.line with phase := .dialling, endOfDialling := true } }, 500, by decide⟩,
    ⟨talkingIn .dialling, 500, by decide⟩, ⟨talkingIn .dialling, 500, by decide⟩, ⟨talkingIn .ready, 500, by decide⟩⟩

/-- REPORT's last digit in each answer mode, with the line at its reference polarity and already reversed; and REPORT's reversal. -/
theorem witness_report_dials : ∀ mode ∈ [0, 1, 2], ∀ p ∈ [Polarity.normal, .reversed],
    let s := { linked with
      image0 := imageWith mode
      line := { linked.line with
        phase := .dialling, buffer := [1, 10], cursor := 1, digitTimer := some 500, endOfDialling := true, polarity := p }
      centre := { linked.centre with phase := .dial } }
    let w := { linkedIn .awaitAnswer with line := { linked.line with phase := .awaitAnswer, answerMode := .reversal } }
    s.busy ∧ s.line.purpose = .report ∧ s.line.buffer.length ≤ s.line.cursor + 1 ∧ s.centre.phase = .dial ∧
      (s.answerMode = .reversal ↔ mode = 0) ∧
      s.line.reference = some (if p = .normal then s.line.polarity else s.line.polarity.flip) ∧
      w.busy ∧ w.line.purpose = .report ∧ w.line.answerMode = .reversal := by decide

/-- The last digit is sent in REVERSAL mode: the line already stands reversed in a free call, and it does not. -/
theorem witness_answer_at_the_last_digit : ∀ p ∈ [Polarity.normal, .reversed],
    let s := { talkingIn .dialling with
      rating := { RatingUnit.start with phase := .priced, tariff := some { class1 with id := 0 } }
      line := { talking.line with phase := .dialling, endOfDialling := true, reference := some .normal, polarity := p } }
    s.busy ∧ s.line.purpose = .user ∧ s.line.phase = .dialling ∧ s.line.digitTimer = some 500 ∧
      s.line.endOfDialling = true ∧ s.line.buffer.length ≤ s.line.cursor + 1 ∧ s.answerMode = .reversal ∧
      s.rating.phase = .priced ∧
      (s.line.reference = some s.line.polarity.flip ∨ s.line.reference = some s.line.polarity) := by decide

/-- A call in each kind of mode, one that waits, and a centre session in each phase that has the line in DATA. -/
theorem witness_FarEndClearByAnswerMode :
    (let s := { talking with line := { talking.line with answerMode := .reversal } }
     s.busy ∧ s.line.phase = .connected ∧ s.line.answerMode = .reversal) ∧
    talking.busy ∧ talking.line.phase = .connected ∧ talking.line.answerMode ≠ .reversal ∧
    awaiting.busy ∧ awaiting.line.phase = .awaitAnswer ∧
    (∀ m ∈ [AnswerMode.reversal, .timed], ∀ p ∈ [CentrePhase.awaitGreet, .ident, .upload, .centreTurn, .closing, .suspended],
      let s := { linkedIn p with line := { linked.line with answerMode := m } }
      s.busy ∧ s.line.phase = .data ∧ s.line.purpose = .report ∧ s.line.answerMode = m ∧ s.centre.phase = p) := by decide

theorem witness_LineTimersReleaseAndFreeTheLine :
    awaiting.busy ∧ awaiting.line.purpose = .user ∧ awaiting.line.answerTimer = some 500 ∧
    (talkingIn .cleared).busy ∧ (talkingIn .cleared).line.clearTimer = some 500 ∧
    (talkingIn .recall).busy ∧ (talkingIn .recall).line.recallTimer = some 500 ∧
    (talkingIn .releasing).busy ∧ (talkingIn .releasing).line.purpose = .user ∧
    (talkingIn .releasing).line.guardTimer = some 500 ∧
    (let s := { linkedOn .releasing with arbiter := { linked.arbiter with userHeld := true } }
     s.busy ∧ s.line.purpose = .report ∧ s.line.phase = .releasing ∧ s.line.guardTimer = some 500 ∧
       s.arbiter.parkedReport = false ∧ s.arbiter.userHeld = true ∧ s.tamper.causes.lineFault = false) := by decide

/-- REPORT's guard ends with no USER request held: no centre number is set, or an urgent record waits with a session to resume
and without one. -/
theorem witness_guard_ends_with_no_caller :
    (let s := { linkedOn .releasing with config := { linked.config with centreNumber := [] } }
     s.busy ∧ s.line.purpose = .report ∧ s.line.guardTimer = some 500 ∧ s.arbiter.parkedReport = false ∧
       s.arbiter.userHeld = false ∧ s.arbiter.pollHeld = false ∧ s.config.centreNumber = []) ∧
    (∀ r ∈ [true, false],
      let s := { linkedOn .releasing with
        events := ⟨[overdue], 10, 0⟩, centre := { linked.centre with backoff := none, resume := r } }
      s.busy ∧ s.line.purpose = .report ∧ s.line.guardTimer = some 500 ∧ s.arbiter.parkedReport = false ∧
        s.arbiter.userHeld = false ∧ s.arbiter.pollHeld = false ∧ s.arbiter.holdOff = none ∧
        s.config.centreNumber ≠ [] ∧ s.centre.backoff = none ∧ overdue ∈ s.events.records) := by decide

/-- The guard ends after a session that has ended: a parked REPORT that is held opens its window, with a caller and without; one
that is not held falls back. -/
theorem witness_parked_guard_ends : ∀ u ∈ [true, false],
    let s := { parked with arbiter := { parked.arbiter with userHeld := u } }
    let n := { s with config := { s.config with centreNumber := [] } }
    s.running = true ∧ s.service.closing = false ∧ s.arbiter.takeBack = .none ∧ s.arbiter.owner = .none ∧
      s.line.purpose = .none ∧ s.line.phase = .releasing ∧ s.line.guardTimer = some 500 ∧ s.arbiter.parkedReport = true ∧
      s.config.centreNumber ≠ [] ∧ s.centre.backoff = none ∧ overdue ∈ s.events.records ∧ n.config.centreNumber = [] ∧
      n.arbiter.pollHeld = false ∧ n.tamper.causes.lineFault = false := by decide

/-- The second and the fourth ring; the count of the rule is 4. -/
theorem witness_RingsAndLineVoltageAreFollowed :
    (∃ s : State, s.running = true ∧ s.line.hook = .onHook ∧ s.line.phase = .idle ∧ s.lineFree = true ∧
      s.arbiter.parkedReport = false ∧ s.arbiter.userHeld = false ∧ s.arbiter.pollHeld = false ∧ s.service.closing = false ∧
      min (s.line.ringCount + 1) 15 < s.config.ringCount) ∧
    (∃ s : State, s.running = true ∧ s.line.hook = .onHook ∧ s.line.phase = .ringIn ∧ s.lineFree = true ∧
      s.arbiter.parkedReport = false ∧ s.arbiter.userHeld = false ∧ s.service.closing = false ∧
      s.config.ringCount ≤ min (s.line.ringCount + 1) 15) ∧
    (∃ (s : State) (d : Nat), s.running = true ∧ s.line.phase = .ringIn ∧ s.lineFree = true ∧ s.arbiter.parkedReport = false ∧
      s.arbiter.userHeld = false ∧ s.arbiter.reportHeld = false ∧ s.reviewReport.arbiter.reportHeld = false ∧
      s.service.closing = false ∧ s.line.silenceTimer = some d) ∧
    (∃ s : State, s.running = true ∧ s.line.hook = .onHook ∧ s.line.phase = .ringIn ∧ s.lineFree = true ∧
      s.arbiter.parkedReport = false ∧ s.arbiter.userHeld = false ∧ s.arbiter.pollHeld = false ∧ s.service.closing = false ∧
      min (s.line.ringCount + 1) 15 < s.config.ringCount) ∧
    ((linkedOn .releasing).power.state = .active ∧ (linkedOn .releasing).line.hook = .onHook ∧
      (linkedOn .releasing).service.closing = false ∧ (linkedOn .releasing).config.ringCount = 4) ∧
    (talking.serving ∧ talking.line.hook = .offHook ∧ linked.serving ∧ linked.line.phase = .data) ∧
    (∃ s : State, s.busy ∧ s.line.phase.atRest = true ∧ s.line.voltagePresent = true) ∧
    (∃ s : State, s.busy ∧ s.line.phase.atRest = true ∧ s.line.voltagePresent = false) ∧
    (∃ s : State, s.busy ∧ s.line.phase.atRest = false) :=
  ⟨⟨{ resting with line := { resting.line with ringCount := 2 } }, by decide⟩,
    ⟨{ resting with line := { resting.line with phase := .ringIn, ringCount := 3 } }, by decide⟩,
    ⟨{ resting with line := { resting.line with phase := .ringIn, ringCount := 3, silenceTimer := some 500 } }, 500, by decide⟩,
    ⟨{ resting with line := { resting.line with phase := .ringIn, ringCount := 2 } }, by decide⟩, by decide, by decide,
    ⟨talkingIn .idle, by decide⟩, ⟨{ talking with line := { talking.line with phase := .idle, voltagePresent := false } }, by decide⟩,
    ⟨talking, by decide⟩⟩

/-! ## Chapter 6 -/

theorem witness_ArbiterTimersAct :
    (∃ (s : State) (d : Nat) (r : TakeReason),
      s.busy ∧ s.arbiter.yieldTimer = some d ∧ s.arbiter.takeBack = .yieldWait r ∧ s.line.phase = .data) ∧
    (talking.busy ∧ talking.arbiter.holdOff = some 500 ∧ talking.arbiter.spacing = some 500 ∧
      talking.arbiter.windowTimer = some 500 ∧ talking.arbiter.userHeld = false) ∧
    (∃ (s : State) (d : Nat), s.busy ∧ s.arbiter.windowTimer = some d ∧ s.arbiter.userHeld = true ∧
      s.arbiter.owner = .report ∧ s.arbiter.takeBack = .none ∧ s.line.phase = .data) :=
  ⟨⟨{ linked with arbiter := { linked.arbiter with takeBack := .yieldWait .preempt } }, 500, .preempt, by decide⟩, by decide,
    ⟨{ linked with arbiter := { linked.arbiter with userHeld := true } }, 500, by decide⟩⟩

/-- The hold-off ends over a free line: nothing is wanted, an urgent record waits, and a ring is counted. -/
theorem witness_holdoff_over_a_free_line :
    (let s := { resting with arbiter := { LineArbiter.start with holdOff := some 500 } }
     s.unclaimed ∧ s.lineFree = true ∧ s.config.centreNumber = []) ∧
    (∀ p ∈ [LinePhase.idle, .ringIn],
      let s := { resting with
        line := { resting.line with phase := p }
        arbiter := { LineArbiter.start with holdOff := some 500 }
        events := ⟨[overdue], 10, 0⟩
        config := { resting.config with centreNumber := [1] } }
      s.unclaimed ∧ s.lineFree = true ∧ s.line.phase = p ∧ s.config.centreNumber ≠ [] ∧ s.centre.backoff = none ∧
        overdue ∈ s.events.records) := by decide

/-- REPORT has the line in each phase that R115 names; a forced window is open; and a take-back is under way. -/
theorem witness_CallerPreemptsTheCentre :
    (∀ p ∈ [LinePhase.data, .seizing, .dialling, .awaitAnswer, .releasing],
      (linkedOn p).busy ∧ (linkedOn p).arbiter.centreOwns = true ∧ (linkedOn p).line.phase = p ∧
      (linkedOn p).arbiter.takeBack = .none ∧ (linkedOn p).arbiter.window ≠ .opened ∧ (linkedOn p).line.session = .none ∧
      (linkedOn p).line.purpose = (linkedOn p).arbiter.owner) ∧
    linked.centre.phase ≠ .idle ∧ linked.centre.phase ≠ .suspended ∧ linked.modem.turnaround = none ∧
    (let s := { linked with arbiter := { linked.arbiter with window := .opened } }
     s.busy ∧ s.arbiter.takeBack = .none ∧ s.arbiter.window = .opened ∧ s.line.phase ≠ .ringIn) ∧
    (let s := { linkedOn .dialling with arbiter := { linked.arbiter with takeBack := .releaseWait .reset } }
     s.busy ∧ s.arbiter.takeBack ≠ .none ∧ s.line.phase ≠ .ringIn) := by decide

/-! ## Chapter 7 -/

theorem witness_InputsLatchReportAndCount :
    (∃ s : State, s.busy ∧ s.tamper.upperDoor.qualified = false) ∧
    (∃ (s : State) (l : Level), s.busy ∧ s.tamper.upperDoor.qualified = true ∧ s.tamper.upperDoor.level ≠ l) ∧
    (∃ (s : State) (l : Level), s.busy ∧ s.tamper.coinDoor.qualified = true ∧ s.tamper.coinDoor.level ≠ l ∧
      s.tamper.collectorOpen = true) ∧
    (∃ (s : State) (d : Nat), s.busy ∧ s.tamper.cord = ⟨.opened, true⟩ ∧ s.tamper.cordRestore = some d ∧
      s.tamper.shockTimer = some d) :=
  ⟨⟨talking, by decide⟩,
    ⟨{ talking with tamper := { talking.tamper with upperDoor := ⟨.closed, true⟩ } }, .opened, by decide⟩,
    ⟨{ talking with tamper := { talking.tamper with coinDoor := ⟨.closed, true⟩, collectorOpen := true } }, .opened, by decide⟩,
    ⟨{ talking with tamper := { talking.tamper with cord := ⟨.opened, true⟩ } }, 500, by decide⟩⟩

/-- The same inputs in STANDBY and in ACTIVE with no owner on the line. -/
theorem witness_inputs_without_an_owner : ∀ s ∈ [quiet, visited],
    s.serving ∧ s.tamper.upperDoor.qualified = false ∧ s.tamper.coinDoor.qualified = false ∧
    s.tamper.cord.qualified = false ∧
    (let u := { s with
      config := { s.config with centreNumber := [] }
      tamper := { s.tamper with
        upperDoor := ⟨.closed, true⟩, cord := ⟨.opened, true⟩, cordRestore := some 500, shockTimer := some 500 } }
     u.unclaimed ∧ u.serving ∧ u.line.session ≠ .opened) := by decide

/-- An input found for the first time, with no session open too; the levels that the statement's other clauses begin from. -/
theorem witness_first_levels_and_edges :
    (talking.busy ∧ talking.tamper.coinDoor.qualified = false ∧ linked.tamper.cord.qualified = false) ∧
    (let s := { talking with tamper := { talking.tamper with upperDoor := ⟨.opened, true⟩, coinDoor := ⟨.closed, true⟩ } }
     s.busy ∧ s.tamper.upperDoor = ⟨.opened, true⟩ ∧ s.tamper.coinDoor.qualified = true ∧
       s.tamper.coinDoor.level ≠ .opened ∧ s.tamper.collectorOpen = false) ∧
    (let s := { linked with tamper := { linked.tamper with cord := ⟨.closed, true⟩ } }
     s.busy ∧ s.tamper.cord = ⟨.closed, true⟩ ∧ s.line.session ≠ .opened) := by decide

/-- A record of the pair in the queue that is not reported, one that is, and a full queue with a reported record. -/
theorem witness_OccurrencesCoalesceOrAppend :
    (∃ (s : State) (r : EventRecord), queueInOrder s.events.records ∧ r ∈ s.events.records ∧ r.pair = .powerReturn ∧
      r.state ≠ .reported) ∧
    (∃ s : State, queueInOrder s.events.records ∧ s.events.records.length = 20 ∧
      ∀ r ∈ s.events.records, r.pair = .powerReturn → r.state = .reported) ∧
    queueInOrder State.reset.nv.events.slot0.contents.records ∧ queueInOrder State.reset.nv.events.slot1.contents.records :=
  ⟨⟨State.reset, .coldStart, ⟨by decide, by intro p; cases p <;> decide⟩, by decide⟩,
    ⟨{ State.reset with events := ⟨List.replicate 20 { EventRecord.coldStart with state := .reported }, 1, 0⟩ },
      ⟨by decide, by intro p; cases p <;> decide⟩, by decide⟩,
    ⟨by decide, by intro p; cases p <;> decide⟩, ⟨by decide, by intro p; cases p <;> decide⟩⟩

/-- Send changes the record of a cold start, and acknowledge, asked of a record PENDING, changes nothing. -/
theorem witness_RecordRequestsFollowTheTable :
    (State.reset.changeRecord 0 EventRecord.send).events ≠ State.reset.events ∧
    (State.reset.changeRecord 0 EventRecord.acknowledge).events = State.reset.events ∧
    (let s := { linkedIn .upload with centre := { linked.centre with phase := .upload, inFlight := some 0 } }
     s.centre.inFlight = some 0 ∧ s.centre.phase ≠ .idle ∧ s.centre.phase ≠ .suspended) := by decide

/-! ## Chapter 8 -/

theorem witness_CentreTimersReviewResendOrFail :
    (∃ (s : State) (d : Nat) (r : EventRecord), s.busy ∧ s.centre.routineTimer = some d ∧
      s.oldestPending .routine = some r ∧ s.centre.routineFor = some (r.seq, s.config.routineDelay) ∧ s.centre.backoff = none ∧
      s.config.centreNumber ≠ []) ∧
    (linked.busy ∧ linked.centre.backoff = some 500) ∧
    (∀ p ∈ [CentrePhase.ident, .upload], (linkedIn p).busy ∧ (linkedIn p).inSession ∧
      (linkedIn p).centre.phaseTimer = some 500 ∧ (linkedIn p).centre.awaited = some ⟨0x11, 0, []⟩ ∧
      (linkedIn p).modem.silent ∧ (linkedIn p).centre.resends < 2) ∧
    (∀ p ∈ [CentrePhase.ident, .upload, .awaitAnswer, .awaitGreet],
      let s := { linkedIn p with centre := { linked.centre with phase := p, resends := 2 } }
      s.busy ∧ s.line.phase.atRest = false ∧ s.line.phase ≠ .releasing ∧ s.line.purpose ≠ .user ∧
        s.centre.phaseTimer = some 500 ∧ 2 ≤ s.centre.resends ∧ s.centre.phase = p) :=
  ⟨⟨{ linked with centre := { State.reset.centre with phase := .centreTurn } }, 14400000, .coldStart, by decide⟩, by decide,
    by decide, by decide⟩

/-- A REJECT or a second GREET with resends left to make, and with none. -/
theorem witness_resends_left_and_none : ∀ p ∈ [CentrePhase.ident, .upload], ∀ n ∈ [1, 2],
    let s := { linkedIn p with centre := { linked.centre with phase := p, resends := n } }
    s.inSession ∧ s.line.purpose ≠ .user ∧ s.centre.awaited = some ⟨0x11, 0, []⟩ ∧ s.centre.resends = n := by decide

theorem witness_UploadFollowsTheAcknowledgements :
    ((linkedIn .awaitGreet).inSession ∧ (linkedIn .awaitGreet).centre.phase = .awaitGreet) ∧
    (∃ s : State, s.inSession ∧ s.centre.phase = .ident ∧ s.nextRecord = none) ∧
    (∃ (s : State) (r : EventRecord), s.inSession ∧ s.centre.phase = .ident ∧ s.nextRecord = some r) ∧
    (∃ (s : State) (seq : BitVec 16), s.inSession ∧ s.centre.phase = .upload ∧ s.centre.inFlight = some seq ∧
      (s.changeRecord seq EventRecord.acknowledge).nextRecord = none) ∧
    (∃ (s : State) (seq : BitVec 16) (r : EventRecord), s.inSession ∧ s.centre.phase = .upload ∧
      s.centre.inFlight = some seq ∧ (s.changeRecord seq EventRecord.acknowledge).nextRecord = some r) :=
  ⟨by decide, ⟨{ linkedIn .ident with events := .cold }, by decide⟩, ⟨linkedIn .ident, .coldStart, by decide⟩,
    ⟨{ linkedIn .upload with
      centre := { linked.centre with phase := .upload, inFlight := some 9 }
      events := ⟨[⟨9, .shock, .routine, .elapsed 0, .elapsed 0, 1, .absent, .sending, false, 0⟩], 10, 0⟩ }, 9, by decide⟩,
    ⟨{ linkedIn .upload with
      centre := { linked.centre with phase := .upload, inFlight := some 9 }
      events := ⟨[.coldStart, ⟨9, .shock, .routine, .elapsed 0, .elapsed 0, 1, .absent, .sending, false, 0⟩], 10, 0⟩ },
      9, .coldStart, by decide⟩⟩

theorem witness_FramesOutOfTurnAreRefusedOrRepeated :
    (linked.inSession ∧ linked.centre.phase = .centreTurn ∧ linked.replyWaits = false ∧ linked.centre.lastCommand = some 6 ∧
      linked.centre.lastReply = some ⟨0x30, 2, [0, 0]⟩) ∧
    ((linkedIn .awaitGreet).inSession ∧ (linkedIn .closing).inSession) ∧
    (let s := { linked with modem := ⟨none, [⟨0x30, 2, [0, 0]⟩], some 500, 0⟩ }
     s.inSession ∧ s.centre.phase = .centreTurn ∧ s.replyWaits = true) := by decide

/-- `s` with a frame being sent. -/
def sendingIn (p : CentrePhase) (f : Frame) : State := { linkedIn p with modem := ⟨some f, [], none, 0⟩ }

theorem witness_ModemSendsOneFrameAtATime :
    (let s := { linked with modem := ⟨none, [⟨0x30, 2, [0, 0]⟩], some 500, 0⟩ }
     s.busy ∧ s.modem.turnaround = some 500) ∧
    (∀ p ∈ [CentrePhase.ident, .upload],
      (sendingIn p ⟨0x11, 0, []⟩).busy ∧ (sendingIn p ⟨0x11, 0, []⟩).centre.awaited = some ⟨0x11, 0, []⟩) ∧
    ((sendingIn .centreTurn ⟨0x30, 2, [0, 0]⟩).busy ∧ (sendingIn .closing ⟨0x30, 2, [0, 0]⟩).busy ∧
      (sendingIn .closing ⟨0x30, 2, [0, 0]⟩).centre.lastReply = some ⟨0x30, 2, [0, 0]⟩ ∧
      (sendingIn .suspended ⟨0x16, 3, []⟩).busy ∧ (sendingIn .suspended ⟨0x16, 3, []⟩).line.phase = .data) := by decide

/-- A frame behind the one that is sent. -/
theorem witness_frames_behind_a_frame : ∀ p ∈ [CentrePhase.upload, .centreTurn],
    let s := { linkedIn p with modem := ⟨some ⟨0x11, 0, []⟩, [⟨0x30, 2, [0, 0]⟩], none, 3⟩ }
    s.busy ∧ s.centre.phase = p ∧ s.modem.sending = some ⟨0x11, 0, []⟩ ∧ s.modem.turnaround = none ∧
      s.centre.awaited = some ⟨0x11, 0, []⟩ := by decide

/-- A command is taken, and the clock values stand at both sides of their bounds. -/
theorem witness_CentreReadsAndSwitches :
    linked.takesCommand 7 ∧ (6 : Byte).toNat ≤ 6 ∧ ¬ (7 : Byte).toNat ≤ 6 ∧
    (1 : Byte).toNat * 65536 + (0x51 : Byte).toNat * 256 + (0x7F : Byte).toNat ≤ 86399 ∧
    ¬ (1 : Byte).toNat * 65536 + (0x51 : Byte).toNat * 256 + (0x80 : Byte).toNat ≤ 86399 := by decide

/-- An accepted item at both ends of a range, one that leaves CONFIG as it is, the refused neighbours, and the box capacity at
its three bounds. -/
theorem witness_ConfigSetReplacesItsItem :
    linked.takesCommand 7 ∧
    (ConfigAccepts linked.config [2, 5, 0xA0] { linked.config with routineDelay := 1440 } ∧ linked.ledger = ⟨[], none⟩) ∧
    (ConfigAccepts linked.config [10, 15] { linked.config with ringCount := 15 } ∧
      { linked.config with ringCount := 15 } ≠ linked.config) ∧
    (ConfigAccepts linked.config [11, 0] { linked.config with lineFaultMode := .signal } ∧
      { linked.config with lineFaultMode := .signal } = linked.config) ∧
    (∀ c', ¬ ConfigAccepts linked.config [10] c') ∧
    (2 ≤ (2 : Byte).toNat ∧ (15 : Byte).toNat ≤ 15 ∧ ¬ 2 ≤ (1 : Byte).toNat ∧ ¬ (16 : Byte).toNat ≤ 15) ∧
    ((31 : Byte).toNat < 32 ∧ 32 ≤ (32 : Byte).toNat) ∧
    (let s := { linked with call := { linked.call with boxCount := 188 } }
     s.takesCommand 7 ∧ 200 ≤ 200 ∧ s.call.boxCount + 12 ≤ 200 ∧ s.call.boxCount + 12 ≤ 3000 ∧ 199 < s.call.boxCount + 12) := by
  refine ⟨by decide, ⟨?_, rfl⟩, ⟨?_, by decide⟩, ⟨?_, rfl⟩, ?_, by decide, by decide, by decide⟩
  · exact Or.inr (Or.inr (Or.inl ⟨5, 0xA0, by decide, rfl, rfl⟩))
  · simp only [ConfigAccepts]; exact Or.inr (Or.inr (Or.inr (Or.inr (Or.inr (Or.inr (Or.inr (Or.inr
      (Or.inl ⟨15, by decide, by decide, rfl, rfl⟩))))))))
  · simp [ConfigAccepts]
  · intro c' h; simp [ConfigAccepts] at h

theorem witness_SessionClosesAndReleases :
    linked.takesCommand 7 ∧ linked.line.phase = .data ∧ linked.centre.idleTimer = some 500 ∧
    linked.centre.resetYield = some 500 := by decide

/-- Noise of every kind before a frame, a cut at both ends of it, a wrong check, a length past 80, and both ends of a byte. -/
theorem witness_FramesAreReadAsTheyWereSent :
    (∃ (noise : List LinkItem) (f : Frame), noise = [.byte 0, .error, .gap] ∧ (∀ x ∈ noise, x ≠ .byte 0xA7) ∧
      f.payload.length ≤ 80 ∧ 0 < 1 ∧ 1 < f.encode.length ∧ f.encode.length - 1 < f.encode.length ∧
      [0, 0] ≠ be16 (crc16 f.body).toNat) ∧
    80 < (81 : Byte).toNat ∧ (1 ≤ 1 ∧ 10 ≤ 10) ∧
    (∃ (t : Byte) (payload : List Byte), t ≠ 0 ∧ payload.length < 256) ∧ (setRequest 9 [1] ≠ none) ∧
    (12 ≤ (12 : Byte).toNat ∧ ¬ 12 ≤ (11 : Byte).toNat) ∧ ∃ code : Code, code.length = 6 :=
  ⟨⟨[.byte 0, .error, .gap], ⟨0x20, 1, [2]⟩, rfl, by decide, by decide +kernel⟩, by decide, by decide, ⟨9, [1], by decide⟩,
    by decide, by decide, ⟨[1, 2, 3, 4, 5, 6], by decide⟩⟩

/-- R143: the byte 0xA7 on the link: a start bit, its bits from the lowest, a parity bit that makes the ones odd, a stop bit. -/
theorem example_byte :
    byteBits 0xA7 = [false, true, true, true, false, false, true, false, true, false, true] := by decide

/-! ## Chapter 9 -/

/-- `linked` with a write in flight and a dirty list. -/
def writing (w : Section) (dirty : List Section) : State := { linked with ledger := ⟨dirty, some ⟨w, .slot0, 500⟩⟩ }

theorem witness_WritesCompleteAndTheDrainGoesOn :
    (∀ w ∈ [Section.call, .image0, .events], (writing w []).busy ∧ (writing w []).ledger.writing = some ⟨w, .slot0, 500⟩ ∧
      (writing w []).ledger.dirty = []) ∧
    ((writing .call [.events]).busy ∧ (writing .call [.events]).ledger.dirty = .events :: []) ∧
    (let s := { heldUp with ledger := ⟨[.config], heldUp.ledger.writing⟩ }
     s.power.state = .holdup ∧ s.power.returnPending = false ∧ s.ledger.dirty = .config :: []) ∧
    (Nonvolatile.blank.config.newest ConfigSection.encode = none) ∧
    heldUp.power.state = .holdup ∧ heldUp.power.returnPending = false ∧ heldUp.ledger = ⟨[], some ⟨.events, .slot0, 60⟩⟩ ∧
    dark.power.state = .off := by decide

theorem witness_WarningEntersHoldupAndLossEntersOff :
    talking.running = true ∧ talking.power.restoring = false ∧ talking.power.state ≠ .off ∧
    (let s := { talking with power := { talking.power with restoring := true } }
     s.busy ∧ s.power.restoring = true ∧ s.power.held = []) ∧
    heldUp.power.state = .holdup ∧ heldUp.power.clearTimer = some 500 ∧ heldUp.ledger.writing ≠ none := by decide

/-- A second in a call, the last of a day, and one in HOLDUP. -/
theorem witness_ClockCountsSeconds :
    talking.busy ∧ ({ talking with clock := ⟨0, 6, 86399, true, 0⟩ } : State).busy ∧ heldUp.power.state = .holdup ∧
    heldUp.clock.second < 86399 := by decide

/-- The charge of a period end in a call whose money agrees. -/
theorem witness_RunningStepsKeepTheMoneyEqualities :
    ∃ (s t : State) (c : Instr), s.running = true ∧ s.MoneyAgrees ∧ exec c s = .next t ∧ t.running = true ∧
      t.lifetime.unsaturated ∧ t.call ≠ s.call :=
  ⟨talking, _, .periodExpiry, by decide, by decide, rfl, by decide, by decide, by decide⟩

/-- R42, R167, R131 and the rest hold at reset, and the first step from there answers a next state. -/
theorem witness_invariants :
    ∃ t, step State.reset = .next t ∧ State.reset.DirtyOnce ∧ State.reset.ImagesCanonical ∧ State.reset.ColumnFits ∧
      State.reset.ListsBounded ∧ State.reset.LoopHasOwner ∧ State.reset.MoneyAgrees ∧
      State.reset.isActive = State.reset.holdsActive :=
  ⟨_, rfl, by decide, by decide, by decide, by decide, by decide, by decide, by decide⟩

/-- A step in a call with a write in flight, and one with a record in the queue. -/
theorem witness_invariants_in_a_call :
    (let s := rested 1 .normal (some 500)
     ({ s with line := { s.line with timedAnswerTimer := none, recallTimer := none, guardTimer := none } } :
       State).LoopHasOwner) ∧
    talking.ColumnFits ∧ talking.ListsBounded ∧ (talking.isActive = talking.holdsActive) ∧
    (∃ t, step { talking with pending := [.chuteSettle] } = .next t) ∧
    ∃ t, exec .clockSecond heldUp = .next t ∧ t.power.state = .holdup :=
  ⟨by decide, by decide, by decide, by decide, ⟨_, rfl⟩, ⟨_, rfl, by decide⟩⟩

/-! ## Chapters 10 and 11 -/

theorem witness_SetPortTakesOneRequestPerTransaction :
    (talking.busy ∧ talking.takesRequest ∧ talking.clock.valid = false ∧ (6 : Byte).toNat ≤ 6 ∧ 6 < (7 : Byte).toNat ∧
      (86399 : BitVec 24).toNat ≤ 86399 ∧ 86399 < (86400 : BitVec 24).toNat) ∧
    (let s := { talking with clock := ⟨0, 0, 0, true, 0⟩ }
     s.busy ∧ s.takesRequest ∧ s.clock.valid = true) ∧
    (let s := { talking with power := { talking.power with restoring := true } }
     s.running = true ∧ s.power.restoring = true) ∧
    heldUp.power.state = .holdup ∧
    (let s := { talking with setPort := { talking.setPort with resetLow := true } }
     s.running = true ∧ s.power.restoring = false ∧ s.setPort.resetLow = true) := by decide

/-- Transactions in STANDBY. -/
theorem witness_transactions_in_standby :
    quiet.serving ∧ quiet.takesRequest ∧ resting.unclaimed ∧ resting.serving ∧ resting.takesRequest := by decide

/-- R182: SERVICE is pending after a cold start, and its enabling asserts the line; its clearing releases it. -/
theorem test_attention :
    (∃ t, exec (.noticeEnable 0x10) State.reset = .next t ∧ t.attention = true ∧
      ∃ u, exec (.noticeClear 0x10) t = .next u ∧ u.attention = false) ∧
    ∃ t, exec (.noticeEnable 0x01) State.reset = .next t ∧ t.attention = false :=
  ⟨⟨_, rfl, by decide, _, rfl, by decide⟩, ⟨_, rfl, by decide⟩⟩

theorem witness_ResetLineResetsTheSetPortAndEndsSessions :
    (∀ s ∈ [quiet, { talking with line := { talking.line with session := .spent } }],
      s.serving ∧ s.setPort.resetLow = false ∧ s.power.restoring = false ∧ s.line.session ≠ .opened ∧
      s.centre.phase = .idle ∧ s.service.session = none) ∧
    (talking.userOnLine ∧ talking.setPort.resetLow = false ∧ talking.power.restoring = false ∧
      talking.centre.phase = .idle ∧ talking.service.session = none) ∧
    (∀ p ∈ [LinePhase.data, .seizing, .dialling, .awaitAnswer, .releasing],
      (linkedOn p).busy ∧ (linkedOn p).setPort.resetLow = false ∧ (linkedOn p).power.restoring = false ∧
      (linkedOn p).line.session ≠ .opened ∧ (linkedOn p).service.session = none ∧
      (linkedOn p).arbiter.centreOwns = true ∧ (linkedOn p).arbiter.takeBack = .none ∧ (linkedOn p).line.phase = p ∧
      (linkedOn p).centre.phase ≠ .idle ∧ (linkedOn p).centre.phase ≠ .suspended) ∧
    (∀ s ∈ [visited, { collecting with line := { talking.line with session := .spent } }],
      s.serving ∧ s.setPort.resetLow = false ∧ s.power.restoring = false ∧ s.line.session ≠ .opened ∧
      s.centre.phase = .idle ∧ s.service.session = some 2 ∧ s.service.rx = [] ∧ s.tamper.coinDoor.level = .closed ∧
      s.tamper.box.level = .closed) ∧
    (∀ s ∈ [quiet, talking],
      let r := { s with power := { s.power with restoring := true } }
      let l := { s with setPort := { s.setPort with resetLow := true } }
      r.serving ∧ r.setPort.resetLow = false ∧ r.power.restoring = true ∧ l.serving ∧ l.setPort.resetLow = true) ∧
    heldUp.running = false :=
  ⟨by decide, by decide, by decide, by decide, by decide, by decide⟩

/-- R183: a reset in the guard of a REPORT that has failed finds no session, and its open window stands (log entry 43). -/
theorem test_reset_in_the_guard_of_a_failed_report :
    let s := { linkedOn .releasing with centre := CentreLink.start, arbiter := { linked.arbiter with window := .opened } }
    ∃ t, exec .resetLine s = .next t ∧ t.arbiter.window = .opened ∧ t.arbiter.windowTimer = some 500 ∧
      t.setPort.lastReply = none := ⟨_, rfl, by decide, by decide, by decide⟩

/-- The call with frames in the service port's slots. -/
def slots (rx : List ServiceFrame) (tx : List ServiceReply) : State :=
  { talking with service := { ServicePort.start with rx := rx, tx := tx } }

theorem witness_ServiceSlotsQueueFramesAndReplies :
    (∀ s ∈ [slots [.logout, .logout] [], slots [.logout] [⟨6, .ok, []⟩, ⟨6, .ok, []⟩], slots [] [⟨6, .ok, []⟩], slots [] [],
        slots [.logout] []],
      s.serving ∧ s.power.restoring = false ∧ s.service.readHeld = false) ∧
    (∀ s ∈ [quiet, visited], s.serving ∧ s.power.restoring = false ∧ s.service.readHeld = false ∧ s.service.rx = [] ∧
      s.service.tx.length < 2) ∧
    (let s := { visited with service := { visited.service with closing := true } }
     s.settled ∧ s.power.restoring = false ∧ s.service.tx = [] ∧ s.service.closing = true) ∧
    2 ≤ (slots [.logout, .logout] []).service.rx.length ∧
    2 ≤ (slots [.logout] [⟨6, .ok, []⟩, ⟨6, .ok, []⟩]).service.tx.length ∧
    (slots [.logout] [⟨6, .ok, []⟩, ⟨6, .ok, []⟩]).service.rx.length < 2 ∧ heldUp.running = false :=
  ⟨by decide, by decide, by decide, by decide, by decide, by decide, by decide⟩

/-- No collector session, in a call and in STANDBY; one, in a call and with no owner on the line. -/
theorem witness_CollectorLogsInReadsAndLogsOut :
    (∀ s ∈ [talking, quiet],
      s.serving ∧ s.power.restoring = false ∧ s.service.readHeld = false ∧ s.service.rx = [] ∧ s.service.tx.length < 2 ∧
      s.service.session = none ∧ s.config.failedLogins < 2) ∧
    (let s := { resting with config := { resting.config with failedLogins := 2 } }
     s.serving ∧ s.unclaimed ∧ s.service.session = none) ∧
    (∀ s ∈ [collecting, visited],
      s.serving ∧ s.power.restoring = false ∧ s.service.readHeld = false ∧ s.service.rx = [] ∧ s.service.tx.length < 2 ∧
      s.service.session = some 2 ∧ s.tamper.coinDoor.level = .closed ∧ s.tamper.box.level = .closed ∧
      s.service.sessionTimer = some 500 ∧ s.service.lockoutTimer = some 500) ∧
    (3 : Byte).toNat ≤ 3 ∧ 3 < (4 : Byte).toNat ∧
    (let s := { talking with tamper := { talking.tamper with coinDoor := ⟨.opened, true⟩ } }
     s.tamper.coinDoor.level = .opened ∧ s.tamper.box.level = .closed) :=
  ⟨by decide, by decide, by decide, by decide, by decide, by decide⟩

/-- R170, R188: the logout of a collector whose session alone held the part ACTIVE lets it return to STANDBY. -/
theorem test_logout_returns_to_standby :
    ∃ t, exec .logout visited = .next t ∧ t.power.state = .standby ∧ t.service.tx = [⟨6, .ok, []⟩] :=
  ⟨_, rfl, by decide, by decide⟩

theorem witness_ClosePeriodIsRefusedHeldOrCarriedOut :
    (let s := { collecting with call := talking.call }
     s.busy ∧ s.power.restoring = false ∧ s.service.readHeld = false ∧ s.service.rx = [] ∧ s.service.tx.length < 2 ∧
       s.service.session = some 2 ∧ s.call.sessionOpen = true) ∧
    (let s := { collecting with ledger := ⟨[.period], none⟩ }
     s.busy ∧ s.call.sessionOpen = false ∧ s.call.queue = [] ∧ s.sectionBusy .period = true) ∧
    (collecting.busy ∧ collecting.call.sessionOpen = false ∧ collecting.call.queue = [] ∧
      collecting.sectionBusy .period = false ∧ collecting.sectionBusy .history = false) ∧
    (let s := { collecting with
      ledger := ⟨[], some ⟨.history, .slot0, 500⟩⟩, service := { collecting.service with closing := true } }
     s.settled ∧ s.service.closing = true ∧ s.service.rx = [] ∧ s.service.readHeld = false ∧
       s.service.session = some 2 ∧ s.call.sessionOpen = false ∧ s.call.queue = []) ∧
    (visited.serving ∧ visited.power.restoring = false ∧ visited.service.readHeld = false ∧ visited.service.rx = [] ∧
      visited.service.session = some 2 ∧ visited.call.sessionOpen = false ∧ visited.call.queue = []) ∧
    (let s := { visited with
      ledger := ⟨[], some ⟨.period, .slot0, 500⟩⟩, service := { visited.service with closing := true } }
     s.settled ∧ s.service.closing = true ∧ s.sectionBusy .period = true) ∧
    (quiet.serving ∧ quiet.power.restoring = false ∧ quiet.service.session = none) :=
  ⟨by decide, by decide, by decide, by decide, by decide, by decide, by decide⟩

/-- Nothing waits in the modem, and a frame waits for the carrier alone. -/
theorem witness_EveryStepGoesOn :
    resting.pending = [] ∧ resting.ledger.writing ≠ none ∧
    (let s := { writing .call [] with modem := ⟨none, [⟨0x11, 0, []⟩], none, 0⟩ }
     s.pending = [] ∧ s.ledger.writing ≠ none ∧ s.power.state = .active ∧ s.modem.waiting = [⟨0x11, 0, []⟩]) := by decide

/-! ## Further clauses: no owner on the line, and the ends of their ranges -/

/-- ACTIVE with a coin in transit and no owner on the line. -/
def solo : State :=
  { talking with
    line := LineUnit.start
    arbiter := LineArbiter.start, rating := RatingUnit.start, call := .cold, credit := CreditUnit.start }

/-- The gate's decision, the waits, the held beams and the passages with no owner on the line. -/
theorem witness_coin_path_without_an_owner :
    (solo.serving ∧ solo.unclaimed ∧ solo.isActive = true ∧ solo.coin.entry = .entered ∧ solo.coin.measureTimer = some 250 ∧
      solo.coin.transit.isSome = true ∧ solo.coin.returnWait = [7] ∧ solo.coin.hold.s1 = some 3000 ∧
      solo.coin.hold.s2a = some 3000 ∧ solo.coin.hold.s2b = some 3000 ∧ solo.coin.hold.s3 = some 3000) ∧
    (∀ p ∈ [(false, true), (true, false)],
      let s := { solo with coin := { solo.coin with beams := ⟨false, p.1, p.2, false, false⟩, tracker := .aFirst true } }
      let u := { resting with coin := { resting.coin with beams := ⟨false, p.1, p.2, false, false⟩, tracker := .bFirst true } }
      s.unclaimed ∧ u.unclaimed ∧ u.power.state = .standby ∧ s.coin.beams.s2a = p.1 ∧ s.coin.beams.s2b = p.2) ∧
    (let s := { solo with coin := { solo.coin with entry := .measuredHeld ⟨150, 75, 25⟩ } }
     s.unclaimed ∧ s.isActive = true ∧ s.coin.transit.isSome = true) := ⟨by decide, by decide, by decide⟩

/-- R12, R170: the transit wait's end with no owner on the line ends what alone held the part ACTIVE. -/
theorem test_transit_ends_without_an_owner :
    let s := { solo with coin := { CoinPath.start with transit := some ⟨3, 50, .escrow, 0⟩ } }
    s.unclaimed ∧ s.isActive = true ∧
    ∃ t, exec .transitWaitExpiry s = .next t ∧ t.power.state = .standby ∧ t.coin.jamAccept.isSet = true :=
  ⟨by decide, by decide, _, rfl, by decide, by decide⟩

/-- Both beams of the pair are interrupted, in each order of theirs: either may clear first. -/
theorem witness_other_beam_still_interrupted : ∀ t ∈ [S2Tracker.aFirst true, .bFirst true, .bothNoOrder],
    (tracking t true true).serving ∧ (tracking t true true).coin.beams.s2a = true ∧
    (tracking t true true).coin.beams.s2b = true ∧ (tracking t true true).coin.tracker = t := by decide

/-- R2, R18: an ordinary REVERSE start keeps its order as S2b clears, and the passage is taken as S2a clears. -/
theorem test_reverse_start :
    ∃ t, exec (.beamClear .s2b) (tracking (.bFirst true) true true) = .next t ∧ t.coin.tracker = .bFirst true ∧
      t.coin.chute.length = 1 ∧
      ∃ u, exec (.beamClear .s2a) t = .next u ∧ u.coin.tracker = .quiet ∧ u.coin.chute = [] :=
  ⟨_, rfl, by decide, by decide, _, rfl, by decide, by decide⟩

/-- A coin of 50 settles while a session waits for its deposit: A reaches D, stays below it, and the box is nearly full; and the
warning flag is set with the next charge in reach of the new A and out of it. -/
theorem witness_settle_is_tested_again :
    (∀ d ∈ [60, 200],
      let k := keying [1, 2]
      let s := { k with
        line := { k.line with resolution := .waitingDeposit 1 d }
        call := { talking.call with escrow := [], credit := 10 }
        coin := { talking.coin with chute := [⟨3, 50, .escrow, 0, .current⟩] } }
      s.busy ∧ s.line.phase = .ready ∧ s.available + 50 = 60 ∧ s.serviceState = .inService) ∧
    (let k := keying [1, 2]
     let s := { k with
       line := { k.line with resolution := .waitingDeposit 1 200 }
       config := { k.config with boxCapacity := 212 }
       call := { talking.call with escrow := [], credit := 10, boxCount := 199 }
       coin := { talking.coin with chute := [⟨3, 50, .box, 0, .current⟩] } }
     s.busy ∧ s.line.phase = .ready ∧ s.serviceState = .inService ∧ s.config.boxCapacity - 12 ≤ s.call.boxCount + 1) ∧
    (∀ x ∈ [120, 121],
      let s := { talking with rating := { talking.rating with warning := true, nextCharge := some x } }
      s.busy ∧ s.coin.chute = [⟨2, 20, .escrow, 0, .current⟩] ∧ s.available + 20 = 120) := by decide

/-- R95, R80: A of exactly D begins the dial-out; A of the next charge clears the warning flag. -/
theorem test_settle_reaches_the_deposit_and_the_charge :
    (let k := keying [1, 2]
     let s := { k with
       line := { k.line with resolution := .waitingDeposit 1 60 }
       call := { talking.call with escrow := [], credit := 10 }
       coin := { talking.coin with chute := [⟨3, 50, .escrow, 0, .current⟩] } }
     ∃ t, exec .chuteSettle s = .next t ∧ t.line.phase = .dialling) ∧
    (let s := { talking with rating := { talking.rating with warning := true, nextCharge := some 120 } }
     ∃ t, exec .chuteSettle s = .next t ∧ t.rating.warning = false) ∧
    (let s := { talking with rating := { talking.rating with warning := true, nextCharge := some 121 } }
     ∃ t, exec .chuteSettle s = .next t ∧ t.rating.warning = true) :=
  ⟨⟨_, rfl, by decide⟩, ⟨_, rfl, by decide⟩, ⟨_, rfl, by decide⟩⟩

/-- A set jam in ACTIVE with an owner and with none, and in STANDBY, with its clear run and before it. -/
theorem witness_jams_without_an_owner : ∀ j : ChuteJam, ∀ run ∈ [none, some 9], ∀ b ∈ [talking, visited, quiet],
    let s := { b with coin := b.coin.putJam j ⟨true, run⟩ }
    s.serving ∧ (s.coin.jam j).clearRun = run := by
  intro j; cases j <;> decide

/-- R20: the first beam of the pair to clear starts no run of the ACCEPT jam, the second does. -/
theorem test_clear_run_starts_when_both_are_clear :
    let s := { quiet with coin := { quiet.coin with jamAccept := ⟨true, none⟩, beams := ⟨false, true, true, false, false⟩ } }
    ∃ t, exec (.beamClear .s2a) s = .next t ∧ t.coin.jamAccept = ⟨true, none⟩ ∧
      ∃ u, exec (.beamClear .s2b) t = .next u ∧ u.coin.jamAccept = ⟨true, some 2000⟩ :=
  ⟨_, rfl, by decide, _, rfl, by decide⟩

/-- SPENT with no owner on the line: in ACTIVE for a collector, and with nothing that holds the part ACTIVE after it. -/
theorem witness_on_hook_in_spent :
    (∀ s ∈ [{ solo with line := { LineUnit.start with hook := .offHook, session := .spent } }, { visited with line := { visited.line with hook := .offHook, session := .spent } },
        { linked with line := { linked.line with hook := .offHook, session := .spent } }],
      s.serving ∧ s.line.session = .spent) ∧
    (let s := { solo with coin := CoinPath.start, line := { LineUnit.start with hook := .offHook, session := .spent } }
     s.serving ∧ s.line.session = .spent ∧
       (match exec .onHook s with
       | .next t => some t.power.state
       | .fault _ => none
       | .refused _ => none) = some .standby) := by decide

/-- A session waits for its deposit as the RETURN jam is set, a jam clears and the cause CORD_CUT clears. -/
theorem witness_service_state_changes_in_a_deposit_wait :
    let k := keying [1, 2]
    let s := { k with line := { k.line with resolution := .waitingDeposit 1 200 } }
    (s.busy ∧ s.line.phase = .ready ∧ s.coin.hold.s3 = some 3000 ∧ s.serviceState = .inService) ∧
    (let u := { s with coin := { s.coin with jamReturn := ⟨true, some 9⟩ } }
     u.busy ∧ (u.coin.jam .ret).clearRun = some 9) ∧
    s.tamper.cordRestore = some 500 := by decide

/-- R94, R95: the RETURN jam takes the part out of service, which refuses the buffer. -/
theorem test_jam_refuses_a_waiting_buffer :
    let k := keying [1, 2]
    let s := { k with line := { k.line with resolution := .waitingDeposit 1 200 } }
    ∃ t, exec (.beamHoldExpiry .s3) s = .next t ∧ t.serviceState ≠ .inService ∧ t.line.buffer = [] ∧
      t.isPending .digitRefused = true :=
  ⟨_, rfl, by decide, by decide, by decide⟩

/-- A forced window ends for a waiting caller in each phase that does not yield. -/
theorem witness_window_ends_outside_data : ∀ p ∈ [LinePhase.seizing, .dialling, .awaitAnswer, .releasing],
    let s := { linkedOn p with arbiter := { linked.arbiter with userHeld := true, window := .opened } }
    s.busy ∧ s.arbiter.windowTimer = some 500 ∧ s.arbiter.owner = .report ∧ s.arbiter.takeBack = .none ∧
      s.line.purpose = .report ∧ s.line.phase = p ∧ s.centre.phase ≠ .idle := by decide

/-- A known type out of its phase, a REJECT in the centre's turn, and a repeated ACK of the last record. -/
theorem witness_known_types_out_of_turn :
    (∀ p ∈ [CentrePhase.awaitGreet, .ident, .upload, .centreTurn, .closing, .suspended],
      (linkedIn p).inSession ∧ (linkedIn p).centre.phase = p) ∧
    (let s := { linked with
       centre := { linked.centre with lastCommand := none, lastAcked := some 5, lastReply := some ⟨0x14, 2, []⟩ } }
     s.inSession ∧ s.centre.phase = .centreTurn ∧ s.centre.lastReply = some ⟨0x14, 2, []⟩ ∧ s.centre.lastCommand = none ∧
       ([0, 5] : List Byte) = be16 (5 : BitVec 16).toNat ∧ ([0, 6] : List Byte) ≠ be16 (5 : BitVec 16).toNat) := by decide

/-- R147: a GREET in UPLOAD is answered REJECT(UNEXPECTED), in CLOSING it is ignored. -/
theorem test_greet_out_of_phase :
    (∃ t, exec (.greet 1 []) (linkedIn .upload) = .next t ∧ t.modem.waiting = [⟨0x15, 3, [1]⟩]) ∧
    ∃ t, exec (.greet 1 []) (linkedIn .closing) = .next t ∧ t.modem.waiting = [] :=
  ⟨⟨_, rfl, by decide⟩, ⟨_, rfl, by decide⟩⟩

/-- A second in STANDBY, and the last of a day in HOLDUP. -/
theorem witness_seconds_without_an_owner :
    (quiet.serving ∧ resting.serving ∧ visited.serving) ∧
    (let s := { heldUp with clock := ⟨65535, 6, 86399, true, 0⟩ }
     s.power.state = .holdup ∧ ¬ s.clock.second < 86399 ∧
       exec .clockSecond s = .next { s with now := 1000, clock := ⟨0, 0, 0, true, 1000⟩, elapsed := 1 }) ∧
    dark.power.state = .off :=
  ⟨by decide, ⟨rfl, by decide, rfl⟩, rfl⟩

/-- R186: a frame refused FORMAT restarts the 20 min of an open session (log entry 30). -/
theorem test_refused_frame_restarts_the_session_timer :
    (∃ t, exec (.serviceFrameRefused [2, 0, 2]) visited = .next t ∧ t.service.sessionTimer = some 1200000 ∧
      t.service.tx = [⟨2, .format, []⟩]) ∧
    ∃ t, exec (.serviceFrameRefused [2, 0, 2]) quiet = .next t ∧ t.service.sessionTimer = none :=
  ⟨⟨_, rfl, by decide, by decide⟩, ⟨_, rfl, by decide⟩⟩

/-! ## What takes the kernel longest: the checks of stored sections and of the whole image -/

set_option maxRecDepth 100000 in
theorem witness_newest_copy : dark.nv.config.newest ConfigSection.encode = some .slot0 := by decide +kernel

set_option maxRecDepth 100000 in
theorem witness_PowerReturnRestoresOrStartsCold :
    (let s := { dark with nv := .blank }
     s.power.state = .off ∧ s.nv.config.restored ConfigSection.encode = none) ∧
    (dark.power.state = .off ∧ dark.nv.config.restored ConfigSection.encode = some .cold ∧ ConfigSection.cold.activationPending = false ∧
      dark.nv.call.restored CallSection.encode = some ⟨true, [⟨3, 50, 0⟩], 10, 5, []⟩ ∧ dark.nv.lifetime.restored Totals.encode = some .zero ∧
      dark.nv.period.restored Totals.encode = some .zero ∧ dark.nv.imageValid ConfigSection.cold.activeSlot = false) ∧
    (let s := { dark with nv := { dark.nv with call := stored CallSection.encode 3 .cold } }
     s.power.state = .off ∧ s.nv.call.restored CallSection.encode = some .cold) ∧
    (let s := { heldUp with ledger := ⟨[], none⟩, nv := dark.nv }
     s.power.state = .holdup ∧ s.power.clearTimer = some 500 ∧ s.ledger = ⟨[], none⟩ ∧ s.nv.config.restored ConfigSection.encode = some .cold) ∧
    (let s := { talking with
      power := { talking.power with restoring := true }, config := { talking.config with lockout := true } }
     s.busy ∧ s.power.restoring = true ∧ s.config.lockout = true ∧ s.power.held = []) ∧
    (let s := { talking with power := ⟨.active, none, true, false, true, [.warning]⟩ }
     s.running = true ∧ s.power.restoring = true ∧ s.power.held = [.warning] ∧ s.power.warningLevel = true) := by decide +kernel

set_option maxRecDepth 100000 in
/-- A state whose stored copies hold the live contents, with nothing dirty; and the queue of a cold start. -/
theorem witness_StepsKeepTheLedgerMirrored :
    let s := { State.reset with
      ledger := ⟨[], none⟩
      nv := { Nonvolatile.blank with
        config := stored ConfigSection.encode 1 .cold, lifetime := stored Totals.encode 1 .zero
        period := stored Totals.encode 1 .zero, history := stored historySection 1 []
        call := stored CallSection.encode 1 .cold, events := stored EventsSection.encode 1 ⟨[.coldStart], 1, 0⟩ } }
    s.DirtyOnce ∧ s.LedgerMirrors := by
  refine ⟨by decide, Or.inr ⟨⟨?_, nofun⟩, ⟨?_, nofun⟩, ⟨?_, nofun⟩, ⟨?_, nofun⟩, ⟨?_, nofun⟩, ⟨?_, nofun⟩, ⟨nofun, nofun⟩,
    ⟨nofun, nofun⟩⟩⟩ <;> (intro _ _; decide +kernel)

/-- The CRC of an image's bytes before the check word, read in one pass. -/
theorem crc_of_span {m : List Host.Cell} {c : BitVec 16} (wf : memWf m = true) (h : crc16 (memSpan m 0 1022) = c) :
    crc16 (checkedBytes m) = c := by
  rw [checkedBytes, List.range_eq_range', map_memRead_eq_memSpan m 0 1022 wf, h]

set_option maxRecDepth 100000 in
theorem image_crc : crc16 (checkedBytes image.bytes) = 0x8D40 :=
  crc_of_span (by decide) (by decide +kernel)

set_option maxRecDepth 100000 in
theorem image_fields : checkWord image.bytes = 0x8D40 ∧ fieldsInRange image.bytes = true ∧
    windowsOrdered image.bytes = true ∧ noDuplicates (usedEntries image.bytes) = true := by decide +kernel

theorem image_valid : validateImage image = none := by
  obtain ⟨hw, hf, ho, hd⟩ := image_fields
  have hl : image.loaded = 0xFFFF := rfl
  simp [validateImage, validateBytes, image_crc, hw, hf, ho, hd, hl]

/-- The image with another check word. -/
def badCheck : List Host.Cell := memWrite image.bytes 1023 0x41

/-- A band point of day 7, under its own check word. -/
def badField : List Host.Cell := memWrite (memWrite (memWrite image.bytes 1005 0xF0) 1022 0x27) 1023 0x4F

/-- The first window of coin class 2 reversed, under the same check word: two bytes of class 0, which is not enabled, make up
for it. -/
def badWindow : List Host.Cell := memWrite (memWrite (memWrite image.bytes 91 161) 67 22) 68 118

/-- A second prefix entry with the digit 1, under the same check word: two bytes of an unused entry make up for it. -/
def badEntries : List Host.Cell :=
  memWrite (memWrite (memWrite (memWrite (memWrite image.bytes 688 0x81) 689 0x10) 695 3) 697 60) 698 118

set_option maxRecDepth 100000 in
theorem bad_images_crc :
    crc16 (checkedBytes badField) = 0x274F ∧ crc16 (checkedBytes badWindow) = 0x8D40 ∧
      crc16 (checkedBytes badEntries) = 0x8D40 :=
  ⟨crc_of_span (by decide) (by decide +kernel), crc_of_span (by decide) (by decide +kernel),
    crc_of_span (by decide) (by decide +kernel)⟩

set_option maxRecDepth 100000 in
theorem badCheck_crc : crc16 (checkedBytes badCheck) = 0x8D40 := by
  rw [← image_crc, checkedBytes, checkedBytes]
  refine congrArg crc16 (List.map_congr_left fun k hk => ?_)
  rw [badCheck, memRead_memWrite _ _ (by decide)]
  have := List.mem_range.1 hk
  rw [if_neg (by omega)]

set_option maxRecDepth 100000 in
theorem bad_images_fields :
    fieldsInRange badField = false ∧
    (fieldsInRange badWindow = true ∧ windowsOrdered badWindow = false) ∧
    (fieldsInRange badEntries = true ∧ windowsOrdered badEntries = true ∧ noDuplicates (usedEntries badEntries) = false) := by
  decide +kernel

set_option maxRecDepth 100000 in
theorem bad_images_check_words :
    checkWord badCheck = 0x8D41 ∧ checkWord badField = 0x274F ∧ checkWord badWindow = 0x8D40 ∧ checkWord badEntries = 0x8D40 := by
  decide +kernel

/-- One image for each outcome of validation: a block missing, each of the four other checks failing, and none. -/
theorem witness_each_check_of_validation :
    ((∃ k < 16, maskHas (0x7FFF : BitVec 16) k = false) ∧ ∀ k < 16, maskHas (0xFFFF : BitVec 16) k = true) ∧
    ¬ ImageCheck badCheck ∧
    (ImageCheck badField ∧ ¬ ImageFields badField) ∧
    (ImageCheck badWindow ∧ ImageFields badWindow ∧ ¬ ImageWindows badWindow) ∧
    (ImageCheck badEntries ∧ ImageFields badEntries ∧ ImageWindows badEntries ∧ ¬ ImageEntriesDiffer badEntries) ∧
    (ImageCheck image.bytes ∧ ImageFields image.bytes ∧ ImageWindows image.bytes ∧ ImageEntriesDiffer image.bytes) := by
  obtain ⟨cf, cw, ce⟩ := bad_images_crc
  obtain ⟨kc, kf, kw, ke⟩ := bad_images_check_words
  obtain ⟨ff, ⟨fw, ow⟩, fe, oe, de⟩ := bad_images_fields
  obtain ⟨ki, fi, oi, di⟩ := image_fields
  have fields {m : List Host.Cell} (h : fieldsInRange m = true) : ImageFields m := (fieldsInRange_iff_imageFields m).1 h
  refine ⟨by decide, ?_, ⟨?_, ?_⟩, ⟨?_, fields fw, ?_⟩, ⟨?_, fields fe, (windowsOrdered_iff_imageWindows _).1 oe, ?_⟩,
    ?_, fields fi, (windowsOrdered_iff_imageWindows _).1 oi, (noDuplicates_iff_imageEntriesDiffer _ (fields fi)).1 di⟩
  · rw [← checkWord_iff_imageCheck, badCheck_crc, kc]; decide
  · rw [← checkWord_iff_imageCheck, cf, kf]; rfl
  · rw [← fieldsInRange_iff_imageFields, ff]; decide
  · rw [← checkWord_iff_imageCheck, cw, kw]; rfl
  · rw [← windowsOrdered_iff_imageWindows, ow]; decide
  · rw [← checkWord_iff_imageCheck, ce, ke]; rfl
  · rw [← noDuplicates_iff_imageEntriesDiffer _ (fields fe), de]; decide
  · rw [← checkWord_iff_imageCheck, image_crc, ki]; rfl

theorem witness_ActivationSwapsOrPends :
    (∃ (s : State) (n : Byte) (f : ValidationFailure),
      s.takesCommand n ∧ validateImage (s.image s.stagedSlot) = some f) ∧
    (∃ (s : State) (n : Byte),
      s.takesCommand n ∧ validateImage (s.image s.stagedSlot) = none ∧ s.line.session ≠ .opened) ∧
    (∃ (s : State) (n : Byte), s.takesCommand n ∧ validateImage (s.image s.stagedSlot) = none ∧ s.line.session = .opened) :=
  ⟨⟨{ linked with image1 := ⟨[], 0x7FFF⟩ }, 7, .blocks, by decide⟩, ⟨linked, 7, by decide, image_valid, by decide⟩,
    ⟨{ linked with line := { linked.line with session := .opened } }, 7, by decide, image_valid, by decide⟩⟩

/-- A pending activation at a session end: the staged image is valid, and it is not. -/
theorem witness_session_end_with_activation_pending :
    (let s := { talking with config := { talking.config with activationPending := true }, image1 := image }
     s.userSeized ∧ s.config.activationPending = true ∧ validateImage (s.image s.stagedSlot) = none) ∧
    (let s := { talking with config := { talking.config with activationPending := true } }
     s.userSeized ∧ s.config.activationPending = true ∧ validateImage (s.image s.stagedSlot) ≠ none) :=
  ⟨⟨by decide, rfl, image_valid⟩, by decide⟩

end Sys2Proof.Tests
end

section
/-!
PROOFS. The class given to a measured coin (R5), and the records that its class index and value go into (R9, R11).
-/

namespace Sys2Proof.Machine

/-! ## The lowest class among candidates -/

/-- R5's order on candidates: by value, then by index. -/
def classRank (p : Nat × CoinClass) : Nat ×ₗ Nat := toLex (p.2.value, p.1)

/-- The ranks of a list of candidates. -/
def classRanks (l : List (Nat × CoinClass)) : Set (Nat ×ₗ Nat) := {x | ∃ p ∈ l, classRank p = x}

theorem classRanks_cons (p : Nat × CoinClass) (l : List (Nat × CoinClass)) :
    classRanks (p :: l) = insert (classRank p) (classRanks l) := by
  ext x; simp [classRanks, eq_comm]

theorem lowestClass_eq_none_iff (l : List (Nat × CoinClass)) : lowestClass l = none ↔ l = [] := by
  cases l with
  | nil => simp [lowestClass]
  | cons p rest =>
    simp only [lowestClass, reduceCtorEq, iff_false]
    split
    · simp
    · split <;> simp

/-- Candidates in index order: the answer is the least rank.  An earlier candidate of equal value wins, since its index is
lower. -/
theorem lowestClass_isLeast {l : List (Nat × CoinClass)} (ordered : l.Pairwise fun p q => p.1 < q.1) {k v : Nat}
    (given : lowestClass l = some (k, v)) : IsLeast (classRanks l) (toLex (v, k)) := by
  induction l generalizing k v with
  | nil => simp [lowestClass] at given
  | cons p rest ih =>
    obtain ⟨first, ordered⟩ := List.pairwise_cons.1 ordered
    rw [classRanks_cons]
    cases tail : lowestClass rest with
    | none =>
      obtain rfl := (lowestClass_eq_none_iff rest).1 tail
      obtain ⟨rfl, rfl⟩ : p.1 = k ∧ p.2.value = v := by simpa [lowestClass] using given
      simp [classRanks, classRank]
    | some best =>
      obtain ⟨k', v'⟩ := best
      have least : IsLeast (classRanks rest) (toLex (v', k')) := ih ordered tail
      obtain ⟨q, hq, hr⟩ := least.1
      have later : p.1 < k' := by
        obtain ⟨-, rfl⟩ : q.2.value = v' ∧ q.1 = k' := by simpa [classRank] using hr
        exact first q hq
      have chosen : toLex (v, k) = min (classRank p) (toLex (v', k')) := by
        simp only [lowestClass, tail] at given
        split at given
        · obtain ⟨rfl, rfl⟩ : p.1 = k ∧ p.2.value = v := by simpa using given
          exact (min_eq_left (Prod.Lex.toLex_le_toLex.2 (by omega))).symm
        · obtain ⟨rfl, rfl⟩ : k' = k ∧ v' = v := by simpa using given
          exact (min_eq_right (Prod.Lex.toLex_le_toLex.2 (by omega))).symm
      rw [chosen]
      exact least.insert _

theorem lowestClass_eq_some_iff {l : List (Nat × CoinClass)} (ordered : l.Pairwise fun p q => p.1 < q.1) (k v : Nat) :
    lowestClass l = some (k, v) ↔ IsLeast (classRanks l) (toLex (v, k)) := by
  refine ⟨lowestClass_isLeast ordered, fun least => ?_⟩
  cases given : lowestClass l with
  | none =>
    obtain rfl := (lowestClass_eq_none_iff l).1 given
    simpa [classRanks] using least.1
  | some best =>
    obtain ⟨rfl, rfl⟩ : best.2 = v ∧ best.1 = k := by
      simpa using (lowestClass_isLeast ordered given).unique least
    rfl

/-! ## The classes that a triple matches (R4, R5) -/

/-- The candidates of `classifyTriple`: the classes that match, with their class indices, in index order. -/
def matchingClasses (m : List Host.Cell) (t : Triple) : List (Nat × CoinClass) :=
  ((List.range 8).map fun k => (k + 1, coinClassAt m k)).filter fun p => p.2.matchesTriple t

theorem classifyTriple_eq (m : List Host.Cell) (t : Triple) : classifyTriple m t = lowestClass (matchingClasses m t) := rfl

theorem mem_matchingClasses {m : List Host.Cell} {t : Triple} {p : Nat × CoinClass} :
    p ∈ matchingClasses m t ↔ ∃ j < 8, (coinClassAt m j).matchesTriple t = true ∧ (j + 1, coinClassAt m j) = p := by
  simp only [matchingClasses, List.mem_filter, List.mem_map, List.mem_range]
  constructor
  · rintro ⟨⟨j, hj, rfl⟩, won⟩; exact ⟨j, hj, won, rfl⟩
  · rintro ⟨j, hj, won, rfl⟩; exact ⟨⟨j, hj, rfl⟩, won⟩

theorem mem_classRanks_matchingClasses {m : List Host.Cell} {t : Triple} {x : Nat ×ₗ Nat} :
    x ∈ classRanks (matchingClasses m t) ↔
      ∃ j < 8, (coinClassAt m j).matchesTriple t = true ∧ toLex ((coinClassAt m j).value, j + 1) = x := by
  constructor
  · rintro ⟨p, hp, rfl⟩
    obtain ⟨j, hj, won, rfl⟩ := mem_matchingClasses.1 hp
    exact ⟨j, hj, won, rfl⟩
  · rintro ⟨j, hj, won, rfl⟩
    exact ⟨_, mem_matchingClasses.2 ⟨j, hj, won, rfl⟩, rfl⟩

theorem matchingClasses_ordered (m : List Host.Cell) (t : Triple) :
    (matchingClasses m t).Pairwise fun p q => p.1 < q.1 := by
  refine List.Pairwise.filter _ (List.pairwise_map.2 ?_)
  exact List.pairwise_lt_range.imp fun h => Nat.succ_lt_succ h

theorem classifyTriple_eq_none_iff (m : List Host.Cell) (t : Triple) :
    classifyTriple m t = none ↔ ∀ k < 8, (coinClassAt m k).matchesTriple t = false := by
  rw [classifyTriple_eq, lowestClass_eq_none_iff, List.eq_nil_iff_forall_not_mem]
  constructor
  · exact fun empty k hk => Bool.eq_false_iff.2 fun won => empty _ (mem_matchingClasses.2 ⟨k, hk, won, rfl⟩)
  · rintro unmatched p hp
    obtain ⟨j, hj, won, -⟩ := mem_matchingClasses.1 hp
    simp [unmatched j hj] at won

theorem classifyTriple_eq_some_iff (m : List Host.Cell) (t : Triple) (k v : Nat) :
    classifyTriple m t = some (k, v) ↔
      (1 ≤ k ∧ k ≤ 8 ∧ (coinClassAt m (k - 1)).matchesTriple t = true ∧ v = (coinClassAt m (k - 1)).value ∧
        ∀ j < 8, (coinClassAt m j).matchesTriple t = true →
          v < (coinClassAt m j).value ∨ (v = (coinClassAt m j).value ∧ k ≤ j + 1)) := by
  rw [classifyTriple_eq, lowestClass_eq_some_iff (matchingClasses_ordered m t), IsLeast, mem_classRanks_matchingClasses]
  constructor
  · rintro ⟨⟨j, hj, won, rank⟩, low⟩
    obtain ⟨rfl, rfl⟩ : (coinClassAt m j).value = v ∧ j + 1 = k := by simpa using rank
    refine ⟨by omega, by omega, won, rfl, fun i hi hit => ?_⟩
    exact Prod.Lex.toLex_le_toLex.1 (low (mem_classRanks_matchingClasses.2 ⟨i, hi, hit, rfl⟩))
  · rintro ⟨one, eight, won, rfl, low⟩
    refine ⟨⟨k - 1, by omega, won, by rw [Nat.sub_add_cancel one]⟩, fun x hx => ?_⟩
    obtain ⟨j, hj, hit, rfl⟩ := mem_classRanks_matchingClasses.1 hx
    exact Prod.Lex.toLex_le_toLex.2 (low j hj hit)

/-! ## The gate decision and the passage into the chute (R9, R11, R13) -/

/-- A rejection raises COIN_REJECTED with its reason and expects the coin at S3, and does nothing else. -/
theorem State.rejectCoin_eq (s : State) (r : RejectReason) :
    s.rejectCoin r =
      { s with
        coin := { s.coin with returnWait := s.coin.expects 1 s.now }
        setPort := s.setPort.rejected r } := by
  simp only [State.rejectCoin, State.raiseRejected, State.raise, State.modSetPort, State.modCoin,
    CoinPath.expectReturn_eq, SetPort.rejected]

theorem State.decideCoin_of_noMatch {s : State} {t : Triple} (opened : s.acceptanceOpen = true)
    (noMatch : classifyTriple s.activeBytes t = none) : s.decideCoin t = s.rejectCoin .noMatch := by
  simp [State.decideCoin, opened, noMatch]

theorem State.decideCoin_of_route {s : State} {t : Triple} {k v : Nat} {r : Route} (opened : s.acceptanceOpen = true)
    (given : classifyTriple s.activeBytes t = some (k, v)) (routed : s.routeFor v = some r) :
    s.decideCoin t = s.openGate k v r := by
  simp [State.decideCoin, opened, given, routed]

theorem State.heldDecision_of_not_held {s : State} (free : ∀ c, s.coin.entry ≠ .measuredHeld c) : s.heldDecision = s := by
  unfold State.heldDecision
  split
  · exact absurd ‹_› (free _)
  all_goals rfl

/-- With no decision held, a FORWARD passage moves the coin in transit into the chute and reports its record. -/
theorem State.forwardPassage_of_not_held {s : State} {tr : Transit} (transit : s.coin.transit = some tr)
    (free : ∀ c, s.coin.entry ≠ .measuredHeld c) :
    s.forwardPassage =
      (s.modCoin fun c => { c with transit := none, chute := c.chute ++ [tr.record s.now] }).modCredit fun c =>
        c.withRecord (tr.record s.now) := by
  simp only [State.forwardPassage, transit]
  exact State.heldDecision_of_not_held free

/-- Settles O1: R5's order is the lexicographic one on value and index, in which the class given is the least match; the gate
decision and the FORWARD passage copy it. -/
theorem lowestMatchingClassIsGiven : Obligations.LowestMatchingClassIsGiven := by
  refine ⟨fun m t => ⟨classifyTriple_eq_none_iff m t, classifyTriple_eq_some_iff m t⟩, ?gate, ?noMatch, ?chute⟩
  case gate =>
    intro s t k v r opened given routed
    rw [State.decideCoin_of_route opened given routed]; rfl
  case noMatch =>
    intro s t opened unmatched
    rw [State.decideCoin_of_noMatch opened unmatched, State.rejectCoin_eq]
    exact ⟨rfl, rfl⟩
  case chute =>
    intro s tr transit free
    rw [State.forwardPassage_of_not_held transit free]; rfl

end Sys2Proof.Machine
end

section
/-!
PROOFS. The requests Send, Acknowledge and Return for a record of the event queue (R133), and the return of the record in
flight by a session that is suspended or fails (R159, R160).
-/

namespace Sys2Proof.Machine

variable (s : State)

/-! ## The dirty list (R167) -/

theorem State.mem_mark_dirty (n : Section) : n ∈ (s.mark n).ledger.dirty := by
  unfold State.mark
  by_cases listed : n ∈ s.ledger.dirty <;> simp [listed]

/-! ## A change of one record -/

theorem EventsSection.change_records (e : EventsSection) (seq : BitVec 16) (f : EventRecord → EventRecord) :
    (e.change seq f).records = e.records.map fun r => if r.seq = seq then f r else r := by
  simp [EventsSection.change]

/-- A change that leaves each record its number leaves the numbers as they stand, place by place. -/
theorem EventsSection.change_seqs (e : EventsSection) (seq : BitVec 16) {f : EventRecord → EventRecord}
    (numbered : ∀ r, (f r).seq = r.seq) : (e.change seq f).records.map (·.seq) = e.records.map (·.seq) := by
  rw [e.change_records, List.map_map]
  refine List.map_congr_left fun r _ => ?_
  rw [Function.comp_apply, apply_ite EventRecord.seq, numbered, ite_self]

@[simp] theorem State.changeRecord_events (seq : BitVec 16) (f : EventRecord → EventRecord) :
    (s.changeRecord seq f).events = s.events.change seq f := by
  simp [State.changeRecord]

/-- A request that changes nothing leaves the whole state as it was. -/
theorem State.changeRecord_of_unchanged {s : State} {seq : BitVec 16} {f : EventRecord → EventRecord}
    (unchanged : s.events.change seq f = s.events) : s.changeRecord seq f = s := by
  have same : (s.modEvents fun e => e.change seq f) = s := by rw [State.modEvents, unchanged]
  rw [State.changeRecord, same, State.markSince_same s (by simp [State.sameSection])]

/-- A request that changes EVENTS marks it. -/
theorem State.changeRecord_of_changed {s : State} {seq : BitVec 16} {f : EventRecord → EventRecord}
    (changed : s.events.change seq f ≠ s.events) :
    s.changeRecord seq f = (s.modEvents fun e => e.change seq f).mark .events :=
  State.markSince_changed _ (decide_eq_false changed.symm)

/-! ## The table of R133 -/

theorem EventRecord.send_seq (r : EventRecord) : r.send.seq = r.seq := by
  unfold EventRecord.send; split <;> rfl

theorem EventRecord.acknowledge_seq (r : EventRecord) : r.acknowledge.seq = r.seq := by
  unfold EventRecord.acknowledge
  split
  · split <;> rfl
  · rfl

theorem EventRecord.giveBack_seq (r : EventRecord) : r.giveBack.seq = r.seq := by
  unfold EventRecord.giveBack; split <;> rfl

/-! ## A session that ends with a record in flight -/

theorem State.returnRecord_events {s : State} {seq : BitVec 16} (flying : s.centre.inFlight = some seq) :
    s.returnRecord.events = (s.changeRecord seq EventRecord.giveBack).events := by
  simp [State.returnRecord, flying]

theorem State.failSession_events : s.failSession.events = s.returnRecord.events := by
  simp [State.failSession]

theorem State.suspend_events_of_open {s : State} (busy : s.centre.phase ≠ .idle) (running : s.centre.phase ≠ .suspended) :
    s.suspend.events = s.returnRecord.events := by
  simp [State.suspend, busy, running]

/-- Settles O33: the requests keep a record's number, so a change works place by place; EVENTS is marked exactly when its
contents differ; a suspension and a failure go through the return of the record in flight. -/
theorem recordRequestsFollowTheTable : Obligations.RecordRequestsFollowTheTable := by
  refine ⟨fun r => ⟨rfl, rfl, rfl⟩, ?requests, ?sessionEnds⟩
  case requests =>
    intro s seq f request
    have numbered : ∀ r, (f r).seq = r.seq := by
      obtain rfl | rfl | rfl := request
      · exact EventRecord.send_seq
      · exact EventRecord.acknowledge_seq
      · exact EventRecord.giveBack_seq
    simp only [State.changeRecord_events]
    refine ⟨s.events.change_records seq f, s.events.change_seqs seq numbered, fun changed => ?_,
      State.changeRecord_of_unchanged⟩
    rw [State.changeRecord_of_changed changed]
    exact State.mem_mark_dirty _ .events
  case sessionEnds =>
    intro s seq flying busy running
    rw [State.suspend_events_of_open busy running, s.failSession_events, State.returnRecord_events flying]
    exact ⟨rfl, rfl⟩

end Sys2Proof.Machine
end

section
/-!
PROOFS. The CRC-16 bit by bit and byte by byte, and its place at the end of a frame on the data link (R144, R145).
-/

namespace Sys2Proof.Machine

/-! ## One bit, one byte -/

/-- The spec's wording of one bit: 0x1021 is combined in where bit 15 and the data bit differ. -/
theorem crcBit_eq_ite_topBit (reg : BitVec 16) (bit : Bool) :
    crcBit reg bit = if reg.getLsbD 15 ≠ bit then (reg <<< 1) ^^^ 0x1021 else reg <<< 1 := by
  have top : reg.msb = reg.getLsbD 15 := BitVec.msb_eq_getLsbD_last reg
  simp [crcBit, top]

theorem crc16_append_byte (bytes : List Byte) (b : Byte) : crc16 (bytes ++ [b]) = crcByte (crc16 bytes) b :=
  List.foldl_concat crcByte _ b bytes

/-- The spec's check value, over the digit characters 1 to 9. -/
theorem crc16_digitCharacters :
    crc16 [0x31, 0x32, 0x33, 0x34, 0x35, 0x36, 0x37, 0x38, 0x39] = 0x29B1 := by decide +kernel

/-! ## The check on the link -/

theorem be16_toNat (w : BitVec 16) : be16 w.toNat = [w.extractLsb' 8 8, w.extractLsb' 0 8] := by
  have high : BitVec.ofNat 8 (w.toNat / 256) = w.extractLsb' 8 8 := by
    simp [BitVec.extractLsb', Nat.shiftRight_eq_div_pow]
  have low : BitVec.ofNat 8 w.toNat = w.extractLsb' 0 8 := by simp [BitVec.extractLsb']
  rw [be16, high, low]

theorem Frame.encode_eq_append_check (f : Frame) :
    f.encode = (syncByte :: f.body) ++ [(crc16 f.body).extractLsb' 8 8, (crc16 f.body).extractLsb' 0 8] := by
  rw [Frame.encode, be16_toNat, List.cons_append]

/-- Settles O42: a byte more is a step of the fold over bytes, each of whose bits is the rule's; the check ends the frame, its
high byte first. -/
theorem crcIsComputedBitByBit : Obligations.CrcIsComputedBitByBit := by
  refine ⟨rfl, ?byte, crc16_digitCharacters, fun f => ⟨syncByte :: f.body, f.encode_eq_append_check⟩⟩
  case byte =>
    intro bytes b
    simp only [crc16_append_byte, crcByte, crcBit_eq_ite_topBit]

end Sys2Proof.Machine
end
